-- ==== Sys2Proof/Word.lean ====
section
/-! DEFINITION. The plain value types every other file uses: bytes, frame numbers, wrapping
counters, and the sparse table in which indexed storage is held as plain data. -/

namespace Sys2Proof

/-- One byte on a link or on the supervisory bus. -/
abbrev Byte := BitVec 8

/-- A frame number, 0..65,535 (R3). Differences are taken modulo 65,536. -/
abbrev Frame := BitVec 16

/-- A 32-bit wrapping counter (Conventions, "Counters"). -/
abbrev Count32 := BitVec 32

/-- Indexed storage as plain data: (index, value) pairs in rising order of index. An index that is
not listed holds the default that the reader names (`Machine.Table.get`). -/
abbrev Table (α : Type) := List (Nat × α)

/-- A finite set of numbers as plain data: rising, without repeats. -/
abbrev NatSet := List Nat

end Sys2Proof
end

