-- ==== Sys2Proof/Config.lean ====
section
/-! DEFINITION. What is fixed for a part: its variant with the capacities of the scope's tables, and
the one value the manual leaves to the part (its revision). -/

namespace Sys2Proof

/-- The two parts of the manual (00_scope.md, "Variants"; R193). -/
inductive Variant where
  | dq1024
  | dq512
deriving DecidableEq, Repr

namespace Config

/-- Slope links, and so receivers and sensors. -/
def slopeLinks : Variant → Nat
  | .dq1024 => 4
  | .dq512 => 2

/-- The column maximum; the highest column is one less. -/
def columns : Variant → Nat
  | .dq1024 => 8192
  | .dq512 => 4096

/-- The actuator maximum, which is also the record count. -/
def actuators : Variant → Nat
  | .dq1024 => 1024
  | .dq512 => 512

/-- Drive links. -/
def driveLinks : Variant → Nat
  | .dq1024 => 2
  | .dq512 => 1

/-- The channel maximum of one drive link. -/
def channels : Variant → Nat
  | .dq1024 => 1024
  | .dq512 => 512

/-- Bytes of one matrix bank in stacked DRAM (16 MiB, 4 MiB). -/
def bankBytes : Variant → Nat
  | .dq1024 => 16777216
  | .dq512 => 4194304

/-- Slopes per sensor (both variants). -/
def slopesPerSensor : Nat := 2048
/-- Segments a link queue holds (R5). -/
def queueDepth : Nat := 8
/-- Slopes per segment. -/
def segmentSlopes : Nat := 64
/-- Slope-map entries (R28). -/
def mapEntries : Nat := 32
/-- Gain sets (R97). -/
def gainSets : Nat := 8
/-- Pair-list entries (R98). -/
def pairEntries : Nat := 3072
/-- Edits the hold takes (R99). -/
def holdEdits : Nat := 32
/-- Telemetry FIFO records and its half-full mark (R177). -/
def fifoRecords : Nat := 512
def fifoHalf : Nat := 256
/-- Capture slots (R179). -/
def captureSlots : Nat := 32
/-- The largest supervisory payload (R186). -/
def maxPayload : Nat := 2048
/-- The broadcast address, and the strap value of a part that takes broadcasts only. -/
def broadcastAddress : Nat := 31

/-- FREE VALUE (log 28): the number from which the part's revision is made. No body, so nothing can be
proved of it. -/
opaque revisionSeed : Nat

/-- FREE VALUE (log 29): which of two OPEN slots is the oldest when their frames are exactly 32,768
apart, so that neither is newer than the other (R3, R40): true for slot 0. No body, so nothing can be
proved of it. -/
opaque oldestIsSlotZero : Frame → Frame → Bool

/-- The part's revision, 1..255, fixed for the part (R193). Its value is left open. -/
def revision : Nat := revisionSeed % 255 + 1

end Config

end Sys2Proof
end

