-- ==== Sys2Proof/Machine/Arith.lean ====
section
/-! DEFINITION. The arithmetic of the Conventions (rounding, saturation, frame-number order), the check
codes of Formats, big-endian fields, and reading and writing of tables and sets. -/

namespace Sys2Proof.Machine

/-- R1: the integer nearest to n / d, a tie away from zero. -/
def roundDiv (n : Int) (d : Nat) : Int :=
  if 0 ≤ n then (2 * n + d) / (2 * d) else -((2 * (-n) + d) / (2 * d))

/-- R2: v replaced by the nearer end when it lies outside lo..hi. -/
def saturate (lo hi v : Int) : Int :=
  if v < lo then lo else if hi < v then hi else v

/-- R2: saturation acted. -/
def saturated (lo hi v : Int) : Bool :=
  decide (v < lo) || decide (hi < v)

/-- R4: a configuration value brought to the nearest end of its range. -/
def clamp (lo hi v : Nat) : Nat :=
  if v < lo then lo else if hi < v then hi else v

/-- R3: frame f is newer than frame g. -/
def newer (f g : Frame) : Bool :=
  decide (1 ≤ (f - g).toNat) && decide ((f - g).toNat ≤ 32767)

/-- R3: frame f is older than frame g (neither newer nor the same, a difference of 32,768 included). -/
def older (f g : Frame) : Bool :=
  !newer f g && f != g

/-! ### Check codes (R203) -/

/-- One bit of the CRC-16 register, polynomial 1021h, most significant bit first. -/
def crc16Bit (r : BitVec 16) : BitVec 16 :=
  if r.msb then (r <<< 1) ^^^ 0x1021#16 else r <<< 1

/-- One byte into the CRC-16 register. -/
def crc16Byte (r : BitVec 16) (b : Byte) : BitVec 16 :=
  Nat.repeat crc16Bit 8 (r ^^^ (b.setWidth 16 <<< 8))

/-- R203: the CRC-16 of a sequence of bytes. -/
def crc16 (bs : List Byte) : BitVec 16 :=
  bs.foldl crc16Byte 0xFFFF#16

/-- One bit of the CRC-32 register, polynomial 04C11DB7h, most significant bit first. -/
def crc32Bit (r : BitVec 32) : BitVec 32 :=
  if r.msb then (r <<< 1) ^^^ 0x04C11DB7#32 else r <<< 1

/-- One byte into the CRC-32 register. -/
def crc32Byte (r : BitVec 32) (b : Byte) : BitVec 32 :=
  Nat.repeat crc32Bit 8 (r ^^^ (b.setWidth 32 <<< 24))

/-- R203: the CRC-32 register at the start of a sequence. -/
def crc32Start : BitVec 32 := 0xFFFFFFFF#32

/-- A sequence of bytes into the CRC-32 register. -/
def crc32Feed (r : BitVec 32) (bs : List Byte) : BitVec 32 :=
  bs.foldl crc32Byte r

/-- R203: the final inversion. -/
def crc32Final (r : BitVec 32) : BitVec 32 := ~~~r

/-! ### Fields on the wire, most significant byte first (R202, R205) -/

/-- A number in one byte. -/
def be8 (n : Nat) : List Byte := [BitVec.ofNat 8 n]

/-- A number in two bytes. -/
def be16 (n : Nat) : List Byte := [BitVec.ofNat 8 (n / 256), BitVec.ofNat 8 n]

/-- A number in three bytes. -/
def be24 (n : Nat) : List Byte :=
  [BitVec.ofNat 8 (n / 65536), BitVec.ofNat 8 (n / 256), BitVec.ofNat 8 n]

/-- A number in four bytes. -/
def be32 (n : Nat) : List Byte :=
  [BitVec.ofNat 8 (n / 16777216), BitVec.ofNat 8 (n / 65536), BitVec.ofNat 8 (n / 256),
    BitVec.ofNat 8 n]

/-- A signed number in two bytes, two's complement. -/
def beInt16 (i : Int) : List Byte := be16 (BitVec.ofInt 16 i).toNat

/-- Yes and no, set and clear, true and false: 1 and 0. -/
def beFlag (b : Bool) : List Byte := be8 (if b then 1 else 0)

/-- An optional field of `width` bytes: a presence byte, then the field, or zeros when absent. -/
def beOption (width : Nat) : Option (List Byte) → List Byte
  | some field => be8 1 ++ field
  | none => be8 0 ++ List.replicate width 0#8

/-- The number in `width` bytes from an offset; bytes that are not there read as 0. -/
def beNat (bs : List Byte) (offset : Nat) : Nat → Nat
  | 0 => 0
  | width + 1 => beNat bs offset width * 256 + (bs.getD (offset + width) 0#8).toNat

/-- The signed 16-bit number at an offset. -/
def beToInt16 (bs : List Byte) (offset : Nat) : Int :=
  (BitVec.ofNat 16 (beNat bs offset 2)).toInt

/-- `count` consecutive signed 16-bit numbers from an offset. -/
def beInt16s (bs : List Byte) (offset count : Nat) : List Int :=
  (List.range count).map (fun i => beToInt16 bs (offset + 2 * i))

/-! ### Tables and sets -/

/-- The value at an index: the listed one, or the default. -/
def Table.get {α : Type} (d : Nat → α) (t : Table α) (k : Nat) : α :=
  match t with
  | [] => d k
  | e :: rest => if e.1 = k then e.2 else Table.get d rest k

/-- Puts an entry at its place in a rising list that does not list its index. -/
def Table.insert {α : Type} (t : Table α) (k : Nat) (v : α) : Table α :=
  match t with
  | [] => [(k, v)]
  | e :: rest => if k < e.1 then (k, v) :: e :: rest else e :: Table.insert rest k v

/-- The table with index k holding v; an index that holds its default is not listed. -/
def Table.set {α : Type} [DecidableEq α] (d : Nat → α) (t : Table α) (k : Nat) (v : α) : Table α :=
  let rest := t.filter (fun e => e.1 != k)
  if v = d k then rest else Table.insert rest k v

/-- The canonical form: indices strictly rising, and no listed value equal to its default. -/
def Table.wf {α : Type} [DecidableEq α] (d : Nat → α) (t : Table α) : Bool :=
  decide (t.Pairwise (fun e f => e.1 < f.1)) && t.all (fun e => decide (e.2 ≠ d e.1))

/-- Writes a list of values at consecutive indices. -/
def Table.setList {α : Type} [DecidableEq α] (d : Nat → α) (t : Table α) (k : Nat) : List α → Table α
  | [] => t
  | v :: vs => Table.setList d (Table.set d t k v) (k + 1) vs

/-- The values at `count` consecutive indices. -/
def Table.getList {α : Type} (d : Nat → α) (t : Table α) (k count : Nat) : List α :=
  (List.range count).map (fun i => Table.get d t (k + i))

/-- A default of 0 everywhere. -/
def zeroes (_ : Nat) : Int := 0

/-- Adds a member to a set. -/
def NatSet.add (t : NatSet) (k : Nat) : NatSet :=
  match t with
  | [] => [k]
  | e :: rest => if k < e then k :: e :: rest else if k = e then e :: rest else e :: NatSet.add rest k

/-- Adds a list of members to a set. -/
def NatSet.addAll (t : NatSet) (ks : List Nat) : NatSet := ks.foldl NatSet.add t

/-- The smallest number below `bound` that is not in a set. -/
def NatSet.lowestMissing (t : NatSet) (bound : Nat) : Option Nat :=
  (List.range bound).find? (fun k => !t.contains k)

end Sys2Proof.Machine
end

