-- ==== Sys2Proof/Syntax.lean ====
section
/-! DEFINITION. The commands: one constructor of `Instr` per row of spec/opcode_table.json, with the
operands the step takes from outside the part. Arguments of requests are the numbers on the wire
(Formats, R205), so that every argument a master can send, legal or not, is an operand. -/

namespace Sys2Proof

/-- What the port knows of a request besides its arguments (R187, R205). -/
structure Envelope where
  /-- the requesting master, 1..7 on a sound frame (R187) -/
  master : Nat
  /-- the tag, returned unchanged in the reply (R189) -/
  tag : Byte
  /-- sent to address 31 (R190) -/
  broadcast : Bool
  /-- the payload's length matches the request's fields (R205) -/
  payloadFits : Bool
deriving DecidableEq, Repr

/-- One slope-map entry (R28). -/
structure MapEntry where
  sensor : Nat
  first : Nat
  count : Nat
  column : Nat
deriving DecidableEq, Repr

/-- One record as ACT_WRITE carries it (R102): no mode and no integrator state. -/
structure ActFields where
  link : Nat
  channel : Nat
  bias : Nat
  lo : Nat
  hi : Nat
  gainSet : Nat
deriving DecidableEq, Repr

/-- The reasons of a REFUSED reply (R133). -/
inductive RefuseReason where
  | crc
  | length
  | channelFault
deriving DecidableEq, Repr

/-- Which of two events that come together is taken first, where the manual leaves either order open:
the drop of a transaction or the entry of the loop to SAFE (R122, R138, R141; log 17). -/
inductive SafeOrder where
  | dropFirst
  | safeFirst
deriving DecidableEq, Repr

/-- What is discarded on a drive link's return half (R204): a reception cut short by a start delimiter
or idle fill, or a complete frame, given by its bytes. -/
inductive ReturnReception where
  | cutShort
  | frame (bytes : List Byte)
deriving DecidableEq, Repr

/-- A complete supervisory frame: its bytes, and the positions whose read a CAPTURE_READ in it finds
uncorrectable. -/
structure BusFrame where
  bytes : List Byte
  uncorrectable : List Nat
deriving DecidableEq, Repr

/-- How the loop controller takes the SAFE cause of a drive link: in which order with the drop of the
transaction, and after which request that is taken between the act of the link and the entry (R154). -/
structure SafeEntry where
  order : SafeOrder
  between : Option BusFrame
deriving DecidableEq, Repr

/-- A reception that a start delimiter begins (R8): the slope link, and the data bytes gathered on it before
its next command. -/
structure Reception where
  link : Nat
  gathered : List Byte
deriving DecidableEq, Repr

/-- The commands. Each row's docstring names its mnemonic and rule. -/
inductive Instr where
  /-- LOCK_ACHIEVED (R6) -/
  | lockAchieved (link : Nat)
  /-- LOSS_OF_LOCK (R7) -/
  | lossOfLock (link : Nat)
  /-- SILENCE_TIMER_EXPIRY (R7) -/
  | silenceTimerExpiry (link : Nat)
  /-- START_DELIMITER (R8) -/
  | startDelimiter (begun : Reception)
  /-- IDLE_FILL_CUT (R8) -/
  | idleFillCut (link : Nat)
  /-- EXCESS_BYTE (R8) -/
  | excessByte (link : Nat)
  /-- SEGMENT_ARRIVAL (R9): the end delimiter, with the data bytes that came before it after those already
  gathered -/
  | segmentArrival (link : Nat) (bytes : List Byte)
  /-- SLOPE_WORK (R56): one slope of the current segment; the columns whose DRAM read is uncorrectable in this step -/
  | slopeWork (uncorrectable : List Nat)
  /-- DEADLINE_EXPIRY (R42) -/
  | deadlineExpiry (slot : Nat)
  /-- FILL_IN_COLUMN (R62): the next uncovered column of the pass; whether its DRAM read is uncorrectable -/
  | fillInColumn (uncorrectable : Bool)
  /-- RESIDUALS_DONE (R63) -/
  | residualsDone
  /-- SHAPE_CHECKED (R118) -/
  | shapeChecked
  /-- TRANSACTION_BEGIN (R131): whether the return lines of links 0 and 1 are idle at the line check (R132) -/
  | transactionBegin (idle0 : Bool) (idle1 : Bool)
  /-- RECOVERY_LINE_IDLE (R132) -/
  | recoveryLineIdle (link : Nat)
  /-- RECOVERY_WINDOW_EXPIRY (R132) -/
  | recoveryWindowExpiry (link : Nat) (entry : SafeEntry)
  /-- TAKEN_REPLY (R133): the columns of the frame image whose read at a capture copy is uncorrectable (R179) -/
  | takenReply (link : Nat) (number : Byte) (uncorrectable : List Nat)
  /-- REFUSED_REPLY (R133) -/
  | refusedReply (link : Nat) (number : Byte) (reason : RefuseReason) (channel : Option Nat) (entry : SafeEntry)
  /-- REPLY_TIMER_EXPIRY (R133) -/
  | replyTimerExpiry (link : Nat)
  /-- RETURN_FRAME_DISCARD (R204) -/
  | returnFrameDiscard (link : Nat) (reception : ReturnReception)
  /-- APPLIED_REPLY (R137) -/
  | appliedReply (link : Nat) (number : Byte)
  /-- APPLY_TIMER_EXPIRY (R137) -/
  | applyTimerExpiry (link : Nat)
  /-- FAULT_REPORT (R138) -/
  | faultReport (link : Nat) (faultCode : Byte) (channel : Option Nat) (entry : SafeEntry)
  /-- VERIFY_COLUMN_READ (R78): whether a read of the column is uncorrectable (R80) -/
  | verifyColumnRead (uncorrectable : Bool)
  /-- BUS_SILENCE_GAP (R186) -/
  | busSilenceGap
  /-- OVERLENGTH_HEADER (R186) -/
  | overlengthHeader
  /-- REQUEST_FRAME_COMPLETE (R187): the frame's bytes; the positions whose read a CAPTURE_READ in the frame finds uncorrectable -/
  | requestFrameComplete (bytes : List Byte) (uncorrectable : List Nat)
  /-- REPLY_SENT (R189) -/
  | replySent
  /-- REPLY_LOST (R189) -/
  | replyLost
  /-- HARD_RESET (R201): power-up, or the reset line goes low -/
  | hardReset
  /-- RESET_RELEASE (R201): the reset line is released, with the address straps as read -/
  | resetRelease (straps : Nat)
  /-- LINK_STATUS (R14, R142) -/
  | linkStatus (env : Envelope) (kind : Nat) (link : Nat)
  /-- LINK_COUNTERS_CLEAR (R15, R142) -/
  | linkCountersClear (env : Envelope) (kind : Nat) (link : Nat)
  /-- SENSOR_ROLE (R19) -/
  | sensorRole (env : Envelope) (sensor : Nat) (role : Nat)
  /-- SENSOR_TAG (R20) -/
  | sensorTag (env : Envelope) (sensor : Nat) (tag : Nat)
  /-- SENSOR_SCALE (R21) -/
  | sensorScale (env : Envelope) (sensor : Nat) (scale : Nat)
  /-- SENSOR_COUNT (R22) -/
  | sensorCount (env : Envelope) (sensor : Nat) (count : Nat)
  /-- SENSOR_READ (R24) -/
  | sensorRead (env : Envelope) (sensor : Nat)
  /-- REF_WRITE (R23) -/
  | refWrite (env : Envelope) (sensor : Nat) (first : Nat) (count : Nat) (offsets : List Int)
  /-- REF_READ (R24) -/
  | refRead (env : Envelope) (sensor : Nat) (first : Nat) (count : Nat)
  /-- MAP_WRITE (R29) -/
  | mapWrite (env : Envelope) (entries : List MapEntry)
  /-- MAP_READ (R30) -/
  | mapRead (env : Envelope)
  /-- STORE_READ (R31) -/
  | storeRead (env : Envelope) (first : Nat) (count : Nat)
  /-- SLOT_STATUS (R50) -/
  | slotStatus (env : Envelope)
  /-- ENGINE_STATUS (R66) -/
  | engineStatus (env : Envelope)
  /-- LOAD_OPEN (R70) -/
  | loadOpen (env : Envelope) (bank : Nat) (rows : Nat) (columns : Nat) (shift : Nat) (block : Nat)
  /-- LOAD_SEGMENT (R73) -/
  | loadSegment (env : Envelope) (column : Nat) (firstRow : Nat) (coefficients : List Int)
  /-- LOAD_FLUSH (R76) -/
  | loadFlush (env : Envelope)
  /-- LOAD_CLOSE (R77) -/
  | loadClose (env : Envelope) (expected : BitVec 32)
  /-- LOAD_ABORT (R82) -/
  | loadAbort (env : Envelope)
  /-- BLOCK_REOPEN (R83) -/
  | blockReopen (env : Envelope) (bank : Nat) (block : Nat)
  /-- BANK_CLEAR (R84) -/
  | bankClear (env : Envelope) (bank : Nat)
  /-- LOAD_STATUS (R85) -/
  | loadStatus (env : Envelope) (bank : Nat) (firstBlock : Nat) (count : Nat)
  /-- SWAP (R86) -/
  | swap (env : Envelope) (bank : Nat) (atFrame : Option Frame)
  /-- SWAP_CANCEL (R91) -/
  | swapCancel (env : Envelope)
  /-- ACT_COUNT (R101) -/
  | actCount (env : Envelope) (n : Nat)
  /-- ACT_WRITE (R102) -/
  | actWrite (env : Envelope) (first : Nat) (records : List ActFields)
  /-- ACT_MODE (R104) -/
  | actMode (env : Envelope) (actuator : Nat) (mode : Nat) (value : Option Nat)
  /-- ACT_READ (R107) -/
  | actRead (env : Envelope) (first : Nat) (count : Nat)
  /-- GAIN_WRITE (R97) -/
  | gainWrite (env : Envelope) (set : Nat) (gain : Nat) (leak : Nat)
  /-- GAIN_READ (R97) -/
  | gainRead (env : Envelope)
  /-- PAIR_WRITE (R105) -/
  | pairWrite (env : Envelope) (a : Nat) (b : Nat) (dmax : Nat)
  /-- PAIR_REMOVE (R106) -/
  | pairRemove (env : Envelope) (a : Nat) (b : Nat)
  /-- PAIR_READ (R107) -/
  | pairRead (env : Envelope) (first : Nat) (count : Nat)
  /-- STAGE_STATUS (R127) -/
  | stageStatus (env : Envelope)
  /-- LINK_RESET (R143) -/
  | linkReset (env : Envelope) (link : Nat)
  /-- LINK_CONFIG (R144) -/
  | linkConfig (env : Envelope) (link : Nat) (channels : Nat) (park : Nat) (replyTimeout : Nat) (applyTimeout : Nat) (recoveryWindow : Nat)
  /-- LOOP_OPEN (R150, R152) -/
  | loopOpen (env : Envelope) (atFrame : Option Frame)
  /-- LOOP_CLOSE (R151, R152) -/
  | loopClose (env : Envelope) (atFrame : Option Frame)
  /-- LOOP_STOP (R155) -/
  | loopStop (env : Envelope)
  /-- LOOP_SAFE (R154) -/
  | loopSafe (env : Envelope)
  /-- FLATTEN (R162) -/
  | flatten (env : Envelope)
  /-- LOOP_CONFIG (R161) -/
  | loopConfig (env : Envelope) (deadline : Nat) (missed : Nat) (stroke : Nat) (drive : Nat)
  /-- LOOP_STATUS (R164) -/
  | loopStatus (env : Envelope)
  /-- SCAN_START (R168) -/
  | scanStart (env : Envelope) (low : Nat) (high : Nat) (amplitude : Nat) (dwell : Nat) (pattern : Nat) (cycles : Nat)
  /-- SCAN_STOP (R171) -/
  | scanStop (env : Envelope)
  /-- SCAN_STATUS (R172) -/
  | scanStatus (env : Envelope)
  /-- TELEM_SELECT (R176) -/
  | telemSelect (env : Envelope) (kinds : BitVec 16)
  /-- TELEM_POP (R180) -/
  | telemPop (env : Envelope) (count : Nat)
  /-- CAPTURE_READ (R181): the positions whose DRAM read is uncorrectable -/
  | captureRead (env : Envelope) (slot : Nat) (offset : Nat) (length : Nat) (uncorrectable : List Nat)
  /-- TELEM_STATUS (R182) -/
  | telemStatus (env : Envelope)
  /-- TELEM_RESET (R183) -/
  | telemReset (env : Envelope)
  /-- IDENT (R193) -/
  | ident (env : Envelope)
  /-- PORT_STATUS (R194) -/
  | portStatus (env : Envelope)
  /-- FAULT_DETAIL (R192) -/
  | faultDetail (env : Envelope)
  /-- FEATURE_SET (R195) -/
  | featureSet (env : Envelope) (feature : Nat) (value : Nat)
  /-- FEATURE_GET (R196) -/
  | featureGet (env : Envelope) (feature : Option Nat)
  /-- ATTN_MASK (R198) -/
  | attnMask (env : Envelope) (causes : BitVec 16)
  /-- ATTN_READ (R198) -/
  | attnRead (env : Envelope)
  /-- ATTN_ACK (R199) -/
  | attnAck (env : Envelope) (causes : BitVec 16)
  /-- RESET_SOFT (R200) -/
  | resetSoft (env : Envelope)
  /-- REPLY_WOULD_HAVE_ENDED (R200) -/
  | replyWouldHaveEnded
deriving DecidableEq, Repr

end Sys2Proof
end

