-- ==== Sys2Proof/Machine/Formats.lean ====
section
/-! DEFINITION. The byte layouts of the link frames (R204) and of the supervisory request frame's
header (R205). -/

namespace Sys2Proof.Machine

/-- A frame's bytes followed by their CRC-16 (R203). -/
def withCrc (bytes : List Byte) : List Byte := bytes ++ be16 (crc16 bytes).toNat

/-- The last two bytes are the CRC-16 of the bytes before them (R203). -/
def crcHolds (bytes : List Byte) : Bool :=
  decide (2 ≤ bytes.length) &&
    decide ((crc16 (bytes.take (bytes.length - 2))).toNat = beNat bytes (bytes.length - 2) 2)

/-- The fields of a slope segment (R204). `exact` says the segment holds exactly `count` slopes. -/
structure SegmentFields where
  last : Bool
  tag : Nat
  frame : Frame
  first : Nat
  count : Nat
  exact : Bool
  slopes : List Int
deriving DecidableEq, Repr

/-- R204: the fields of a segment's bytes, or none where the CRC check of R9 fails (fewer than 8 bytes
included). -/
def segmentFields (bytes : List Byte) : Option SegmentFields :=
  if bytes.length < 8 || !crcHolds bytes then none
  else
    some
      { last := (bytes.getD 0 0#8).msb
        tag := (bytes.getD 0 0#8).toNat % 16
        frame := BitVec.ofNat 16 (beNat bytes 1 2)
        first := beNat bytes 3 2
        count := beNat bytes 5 1
        exact := decide (bytes.length - 8 = 2 * beNat bytes 5 1)
        slopes := beInt16s bytes 6 ((bytes.length - 8) / 2) }

/-- The longest legal segment in bytes (R204). -/
def longestSegment : Nat := 136

/-- A sound return frame (R204). -/
inductive ReturnFrame where
  | taken (number : Byte)
  | refused (number : Byte) (reason : RefuseReason) (channel : Option Nat)
  | applied (number : Byte)
  | fault (faultCode : Byte) (channel : Option Nat)
deriving DecidableEq, Repr

/-- The channel field of a return frame: FFFFh names none. -/
def returnChannel (n : Nat) : Option Nat := if n = 65535 then none else some n

/-- The reasons of a REFUSED frame by number (R204). -/
def refuseReason : Nat → Option RefuseReason
  | 1 => some .crc
  | 2 => some .length
  | 3 => some .channelFault
  | _ => none

/-- R204: the return frame a sequence of bytes spells, or none where it is discarded. -/
def returnFrame (bytes : List Byte) : Option ReturnFrame :=
  if !crcHolds bytes then none
  else
    match beNat bytes 0 1, bytes.length with
    | 1, 4 => some (.taken (bytes.getD 1 0#8))
    | 2, 7 =>
      (refuseReason (beNat bytes 2 1)).map
        (fun reason => .refused (bytes.getD 1 0#8) reason (returnChannel (beNat bytes 3 2)))
    | 3, 4 => some (.applied (bytes.getD 1 0#8))
    | 4, 6 => some (.fault (bytes.getD 1 0#8) (returnChannel (beNat bytes 2 2)))
    | _, _ => none

/-- R204: the bytes of a LOAD frame: kind (SHAPE 1, BIAS 2), transaction number, frame number (0 for
BIAS), M, the values, CRC-16. -/
def loadFrame (kindByte : Nat) (number : Byte) (frame : Option Frame) (values : List Nat) :
    List Byte :=
  withCrc (be8 kindByte ++ [number] ++ be16 ((frame.map BitVec.toNat).getD 0) ++
    be16 values.length ++ values.flatMap be16)

/-! ### The supervisory request frame (R205) -/

/-- Header bytes of a request frame. -/
def requestHeader : Nat := 10

/-- The payload length a request frame's header gives (bytes 8 and 9). -/
def requestLength (bytes : List Byte) : Nat := beNat bytes 8 2

/-- The bytes of a request frame: address, master, code, tag, item (column, first row), payload. -/
def requestFrame (address master code : Nat) (tag : Byte) (column row : Nat) (payload : List Byte) :
    List Byte :=
  withCrc (be8 address ++ be8 master ++ be8 code ++ [tag] ++ be16 column ++ be16 row ++
    be16 payload.length ++ payload)

end Sys2Proof.Machine
end

