-- ==== Sys2Proof/Decode.lean ====
section
/-! DEFINITION. Reading and writing commands as bits. The opcode table gives no bits for any row; the
requests have a wire form of their own (R205), which is read and written here. -/

namespace Sys2Proof

open Sys2Proof.Machine

/-- The command a word spells by the table's bits. No row of spec/opcode_table.json gives bits, so no
word spells a command. -/
def decodeTableWord (_nbits _w : Nat) : Option Instr := none

/-- The envelope with the payload judged against the length its fields take (R205). -/
def Envelope.fit (env : Envelope) (payload : List Byte) (length : Nat) : Envelope :=
  { env with payloadFits := decide (payload.length = length) }

/-- The envelope with a further condition on the payload: a presence byte that is neither 0 nor 1 is no
presence (R205). The bytes of an absent field are not looked at, by the model's choice (log 52). -/
def Envelope.fitOption (env : Envelope) (payload : List Byte) (length presenceAt : Nat) : Envelope :=
  { env with payloadFits := decide (payload.length = length) && decide (beNat payload presenceAt 1 ≤ 1) }

/-- An optional frame number: presence byte, then the frame (R205), which is not read when absent (log 52). -/
def optionalFrame (payload : List Byte) (offset : Nat) : Option Frame :=
  if beNat payload offset 1 = 1 then some (BitVec.ofNat 16 (beNat payload (offset + 1) 2)) else none

/-- An optional number of `width` bytes, which are not read when it is absent (log 52). -/
def optionalNat (payload : List Byte) (offset width : Nat) : Option Nat :=
  if beNat payload offset 1 = 1 then some (beNat payload (offset + 1) width) else none

/-- The map entry whose 7 bytes begin at an offset (R29). -/
def mapEntryAt (payload : List Byte) (offset : Nat) : MapEntry :=
  { sensor := beNat payload offset 1, first := beNat payload (offset + 1) 2,
    count := beNat payload (offset + 3) 2, column := beNat payload (offset + 5) 2 }

/-- The actuator record whose 10 bytes begin at an offset (R102). -/
def actFieldsAt (payload : List Byte) (offset : Nat) : ActFields :=
  { link := beNat payload offset 1, channel := beNat payload (offset + 1) 2,
    bias := beNat payload (offset + 3) 2, lo := beNat payload (offset + 5) 2,
    hi := beNat payload (offset + 7) 2, gainSet := beNat payload (offset + 9) 1 }

/-- The bytes of a map entry. -/
def mapEntryBytes (e : MapEntry) : List Byte :=
  be8 e.sensor ++ be16 e.first ++ be16 e.count ++ be16 e.column

/-- The bytes of an actuator record. -/
def actFieldsBytes (r : ActFields) : List Byte :=
  be8 r.link ++ be16 r.channel ++ be16 r.bias ++ be16 r.lo ++ be16 r.hi ++ be8 r.gainSet

/-- R205: the request that a code, an item (column, first row) and a payload spell; none for a code
the part does not know. `uncorrectable` is handed to CAPTURE_READ alone. The value of a FEATURE_SET of an unknown
feature is taken to have one byte, by the model's choice (log 54). -/
def requestOf (code : Nat) (env : Envelope) (column row : Nat) (p : List Byte)
    (uncorrectable : List Nat) : Option Instr :=
  match code with
  | 0x01 => some (.linkStatus (env.fit p 2) (beNat p 0 1) (beNat p 1 1))
  | 0x02 => some (.linkCountersClear (env.fit p 2) (beNat p 0 1) (beNat p 1 1))
  | 0x03 => some (.sensorRole (env.fit p 2) (beNat p 0 1) (beNat p 1 1))
  | 0x04 => some (.sensorTag (env.fit p 2) (beNat p 0 1) (beNat p 1 1))
  | 0x05 => some (.sensorScale (env.fit p 3) (beNat p 0 1) (beNat p 1 2))
  | 0x06 => some (.sensorCount (env.fit p 3) (beNat p 0 1) (beNat p 1 2))
  | 0x07 => some (.sensorRead (env.fit p 1) (beNat p 0 1))
  | 0x08 => some (.refWrite (env.fit p (5 + 2 * beNat p 3 2)) (beNat p 0 1) (beNat p 1 2)
      (beNat p 3 2) (beInt16s p 5 ((p.length - 5) / 2)))
  | 0x09 => some (.refRead (env.fit p 5) (beNat p 0 1) (beNat p 1 2) (beNat p 3 2))
  | 0x0A => some (.mapWrite (env.fit p (2 + 7 * beNat p 0 2))
      ((List.range ((p.length - 2) / 7)).map (fun i => mapEntryAt p (2 + 7 * i))))
  | 0x0B => some (.mapRead (env.fit p 0))
  | 0x0C => some (.storeRead (env.fit p 4) (beNat p 0 2) (beNat p 2 2))
  | 0x0D => some (.slotStatus (env.fit p 0))
  | 0x0E => some (.engineStatus (env.fit p 0))
  | 0x0F => some (.loadOpen (env.fit p 8) (beNat p 0 1) (beNat p 1 2) (beNat p 3 2) (beNat p 5 1)
      (beNat p 6 2))
  | 0x10 => some (.loadSegment (env.fit p (2 * (p.length / 2))) column row
      (beInt16s p 0 (p.length / 2)))
  | 0x11 => some (.loadFlush (env.fit p 0))
  | 0x12 => some (.loadClose (env.fit p 4) (BitVec.ofNat 32 (beNat p 0 4)))
  | 0x13 => some (.loadAbort (env.fit p 0))
  | 0x14 => some (.blockReopen (env.fit p 3) (beNat p 0 1) (beNat p 1 2))
  | 0x15 => some (.bankClear (env.fit p 1) (beNat p 0 1))
  | 0x16 => some (.loadStatus (env.fit p 5) (beNat p 0 1) (beNat p 1 2) (beNat p 3 2))
  | 0x17 => some (.swap (env.fitOption p 4 1) (beNat p 0 1) (optionalFrame p 1))
  | 0x18 => some (.swapCancel (env.fit p 0))
  | 0x19 => some (.actCount (env.fit p 2) (beNat p 0 2))
  | 0x1A => some (.actWrite (env.fit p (4 + 10 * beNat p 2 2)) (beNat p 0 2)
      ((List.range ((p.length - 4) / 10)).map (fun i => actFieldsAt p (4 + 10 * i))))
  | 0x1B => some (.actMode (env.fitOption p 6 3) (beNat p 0 2) (beNat p 2 1) (optionalNat p 3 2))
  | 0x1C => some (.actRead (env.fit p 3) (beNat p 0 2) (beNat p 2 1))
  | 0x1D => some (.gainWrite (env.fit p 5) (beNat p 0 1) (beNat p 1 2) (beNat p 3 2))
  | 0x1E => some (.gainRead (env.fit p 0))
  | 0x1F => some (.pairWrite (env.fit p 6) (beNat p 0 2) (beNat p 2 2) (beNat p 4 2))
  | 0x20 => some (.pairRemove (env.fit p 4) (beNat p 0 2) (beNat p 2 2))
  | 0x21 => some (.pairRead (env.fit p 3) (beNat p 0 2) (beNat p 2 1))
  | 0x22 => some (.stageStatus (env.fit p 0))
  | 0x23 => some (.linkReset (env.fit p 1) (beNat p 0 1))
  | 0x24 => some (.linkConfig (env.fit p 11) (beNat p 0 1) (beNat p 1 2) (beNat p 3 2) (beNat p 5 2)
      (beNat p 7 2) (beNat p 9 2))
  | 0x25 => some (.loopOpen (env.fitOption p 3 0) (optionalFrame p 0))
  | 0x26 => some (.loopClose (env.fitOption p 3 0) (optionalFrame p 0))
  | 0x27 => some (.loopStop (env.fit p 0))
  | 0x28 => some (.loopSafe (env.fit p 0))
  | 0x29 => some (.flatten (env.fit p 0))
  | 0x2A => some (.loopConfig (env.fit p 5) (beNat p 0 2) (beNat p 2 1) (beNat p 3 1) (beNat p 4 1))
  | 0x2B => some (.loopStatus (env.fit p 0))
  | 0x2C => some (.scanStart (env.fit p 9) (beNat p 0 2) (beNat p 2 2) (beNat p 4 2) (beNat p 6 1)
      (beNat p 7 1) (beNat p 8 1))
  | 0x2D => some (.scanStop (env.fit p 0))
  | 0x2E => some (.scanStatus (env.fit p 0))
  | 0x2F => some (.telemSelect (env.fit p 2) (BitVec.ofNat 16 (beNat p 0 2)))
  | 0x30 => some (.telemPop (env.fit p 1) (beNat p 0 1))
  | 0x31 => some (.captureRead (env.fit p 5) (beNat p 0 1) (beNat p 1 2) (beNat p 3 2) uncorrectable)
  | 0x32 => some (.telemStatus (env.fit p 0))
  | 0x33 => some (.telemReset (env.fit p 0))
  | 0x34 => some (.ident (env.fit p 0))
  | 0x35 => some (.portStatus (env.fit p 0))
  | 0x36 => some (.faultDetail (env.fit p 0))
  | 0x37 =>
    if beNat p 0 1 = 3 then some (.featureSet (env.fit p 3) (beNat p 0 1) (beNat p 1 2))
    else some (.featureSet (env.fit p 2) (beNat p 0 1) (beNat p 1 1))
  | 0x38 => some (.featureGet (env.fitOption p 2 0) (optionalNat p 0 1))
  | 0x39 => some (.attnMask (env.fit p 2) (BitVec.ofNat 16 (beNat p 0 2)))
  | 0x3A => some (.attnRead (env.fit p 0))
  | 0x3B => some (.attnAck (env.fit p 2) (BitVec.ofNat 16 (beNat p 0 2)))
  | 0x3C => some (.resetSoft (env.fit p 0))
  | _ => none

/-- What the wire carries of a request: its code, its item (column, first row) and its payload. -/
structure WireRequest where
  code : Nat
  column : Nat
  row : Nat
  payload : List Byte
deriving DecidableEq, Repr

/-- A request whose item is 0 (R205). -/
def plainRequest (code : Nat) (payload : List Byte) : WireRequest :=
  { code := code, column := 0, row := 0, payload := payload }

/-- R205: the envelope and the wire form of a request; none for an event. -/
def wireOf (i : Instr) : Option (Envelope × WireRequest) :=
  match i with
  | .linkStatus env kind link => some (env, plainRequest 0x01 (be8 kind ++ be8 link))
  | .linkCountersClear env kind link => some (env, plainRequest 0x02 (be8 kind ++ be8 link))
  | .sensorRole env sensor role => some (env, plainRequest 0x03 (be8 sensor ++ be8 role))
  | .sensorTag env sensor tag => some (env, plainRequest 0x04 (be8 sensor ++ be8 tag))
  | .sensorScale env sensor scale => some (env, plainRequest 0x05 (be8 sensor ++ be16 scale))
  | .sensorCount env sensor count => some (env, plainRequest 0x06 (be8 sensor ++ be16 count))
  | .sensorRead env sensor => some (env, plainRequest 0x07 (be8 sensor))
  | .refWrite env sensor first count offsets =>
    some (env, plainRequest 0x08 (be8 sensor ++ be16 first ++ be16 count ++ offsets.flatMap beInt16))
  | .refRead env sensor first count =>
    some (env, plainRequest 0x09 (be8 sensor ++ be16 first ++ be16 count))
  | .mapWrite env entries =>
    some (env, plainRequest 0x0A (be16 entries.length ++ entries.flatMap mapEntryBytes))
  | .mapRead env => some (env, plainRequest 0x0B [])
  | .storeRead env first count => some (env, plainRequest 0x0C (be16 first ++ be16 count))
  | .slotStatus env => some (env, plainRequest 0x0D [])
  | .engineStatus env => some (env, plainRequest 0x0E [])
  | .loadOpen env bank rows columns shift block =>
    some (env, plainRequest 0x0F (be8 bank ++ be16 rows ++ be16 columns ++ be8 shift ++ be16 block))
  | .loadSegment env column firstRow coefficients =>
    some (env, { code := 0x10, column := column, row := firstRow,
                 payload := coefficients.flatMap beInt16 })
  | .loadFlush env => some (env, plainRequest 0x11 [])
  | .loadClose env expected => some (env, plainRequest 0x12 (be32 expected.toNat))
  | .loadAbort env => some (env, plainRequest 0x13 [])
  | .blockReopen env bank block => some (env, plainRequest 0x14 (be8 bank ++ be16 block))
  | .bankClear env bank => some (env, plainRequest 0x15 (be8 bank))
  | .loadStatus env bank firstBlock count =>
    some (env, plainRequest 0x16 (be8 bank ++ be16 firstBlock ++ be16 count))
  | .swap env bank atFrame =>
    some (env, plainRequest 0x17 (be8 bank ++ beOption 2 (atFrame.map (fun f => be16 f.toNat))))
  | .swapCancel env => some (env, plainRequest 0x18 [])
  | .actCount env n => some (env, plainRequest 0x19 (be16 n))
  | .actWrite env first records =>
    some (env, plainRequest 0x1A (be16 first ++ be16 records.length ++
      records.flatMap actFieldsBytes))
  | .actMode env actuator mode value =>
    some (env, plainRequest 0x1B (be16 actuator ++ be8 mode ++ beOption 2 (value.map be16)))
  | .actRead env first count => some (env, plainRequest 0x1C (be16 first ++ be8 count))
  | .gainWrite env set gain leak =>
    some (env, plainRequest 0x1D (be8 set ++ be16 gain ++ be16 leak))
  | .gainRead env => some (env, plainRequest 0x1E [])
  | .pairWrite env a b dmax => some (env, plainRequest 0x1F (be16 a ++ be16 b ++ be16 dmax))
  | .pairRemove env a b => some (env, plainRequest 0x20 (be16 a ++ be16 b))
  | .pairRead env first count => some (env, plainRequest 0x21 (be16 first ++ be8 count))
  | .stageStatus env => some (env, plainRequest 0x22 [])
  | .linkReset env link => some (env, plainRequest 0x23 (be8 link))
  | .linkConfig env link channels park replyTimeout applyTimeout recoveryWindow =>
    some (env, plainRequest 0x24 (be8 link ++ be16 channels ++ be16 park ++ be16 replyTimeout ++
      be16 applyTimeout ++ be16 recoveryWindow))
  | .loopOpen env atFrame =>
    some (env, plainRequest 0x25 (beOption 2 (atFrame.map (fun f => be16 f.toNat))))
  | .loopClose env atFrame =>
    some (env, plainRequest 0x26 (beOption 2 (atFrame.map (fun f => be16 f.toNat))))
  | .loopStop env => some (env, plainRequest 0x27 [])
  | .loopSafe env => some (env, plainRequest 0x28 [])
  | .flatten env => some (env, plainRequest 0x29 [])
  | .loopConfig env deadline missed stroke drive =>
    some (env, plainRequest 0x2A (be16 deadline ++ be8 missed ++ be8 stroke ++ be8 drive))
  | .loopStatus env => some (env, plainRequest 0x2B [])
  | .scanStart env low high amplitude dwell pattern cycles =>
    some (env, plainRequest 0x2C (be16 low ++ be16 high ++ be16 amplitude ++ be8 dwell ++
      be8 pattern ++ be8 cycles))
  | .scanStop env => some (env, plainRequest 0x2D [])
  | .scanStatus env => some (env, plainRequest 0x2E [])
  | .telemSelect env kinds => some (env, plainRequest 0x2F (be16 kinds.toNat))
  | .telemPop env count => some (env, plainRequest 0x30 (be8 count))
  | .captureRead env slot offset length _ =>
    some (env, plainRequest 0x31 (be8 slot ++ be16 offset ++ be16 length))
  | .telemStatus env => some (env, plainRequest 0x32 [])
  | .telemReset env => some (env, plainRequest 0x33 [])
  | .ident env => some (env, plainRequest 0x34 [])
  | .portStatus env => some (env, plainRequest 0x35 [])
  | .faultDetail env => some (env, plainRequest 0x36 [])
  | .featureSet env feature value =>
    some (env, plainRequest 0x37 (be8 feature ++ if feature = 3 then be16 value else be8 value))
  | .featureGet env feature => some (env, plainRequest 0x38 (beOption 1 (feature.map be8)))
  | .attnMask env causes => some (env, plainRequest 0x39 (be16 causes.toNat))
  | .attnRead env => some (env, plainRequest 0x3A [])
  | .attnAck env causes => some (env, plainRequest 0x3B (be16 causes.toNat))
  | .resetSoft env => some (env, plainRequest 0x3C [])
  | .lockAchieved _ => none
  | .lossOfLock _ => none
  | .silenceTimerExpiry _ => none
  | .startDelimiter _ => none
  | .idleFillCut _ => none
  | .excessByte _ => none
  | .segmentArrival _ _ => none
  | .slopeWork _ => none
  | .deadlineExpiry _ => none
  | .fillInColumn _ => none
  | .residualsDone => none
  | .shapeChecked => none
  | .transactionBegin _ _ => none
  | .recoveryLineIdle _ => none
  | .recoveryWindowExpiry _ _ => none
  | .takenReply _ _ _ => none
  | .refusedReply _ _ _ _ _ => none
  | .replyTimerExpiry _ => none
  | .returnFrameDiscard _ _ => none
  | .appliedReply _ _ => none
  | .applyTimerExpiry _ => none
  | .faultReport _ _ _ _ => none
  | .verifyColumnRead _ => none
  | .busSilenceGap => none
  | .overlengthHeader => none
  | .requestFrameComplete _ _ => none
  | .replySent => none
  | .replyLost => none
  | .hardReset => none
  | .resetRelease _ => none
  | .replyWouldHaveEnded => none

/-- The frame a master sends for a request to a part address; none for an event. -/
def requestBytes (address : Nat) (i : Instr) : Option (List Byte) :=
  (wireOf i).map (fun w =>
    requestFrame (if w.1.broadcast then Config.broadcastAddress else address) w.1.master w.2.code
      w.1.tag w.2.column w.2.row w.2.payload)

end Sys2Proof
end

