-- ==== Sys2Proof/Machine/State.lean ====
section
/-! DEFINITION. The state of the part as plain data, block by block in the order of the chapters, its
reset values, and the reasons a step could stop. A Table's unlisted index holds the `reset` value of
its kind. -/

namespace Sys2Proof.Machine

/-- A stop the manual gives. The manual gives none: link failures, DRAM errors, refusals and resets are
all states of the part, so no command of this model raises a fault and the type has no constructor. -/
inductive Fault where
deriving DecidableEq, Repr

/-- A command without a meaning. -/
inductive Refusal where
  /-- Raised by an arm of `exec` whose command is not modelled; no arm does so. It is safe: the model
  stops where the part goes on. -/
  | notModelled (mnemonic : String)
deriving DecidableEq, Repr

/-! ### Slope links (R5, R10) -/

/-- Line state of a receiver (R5). -/
inductive Line where
  | down
  | up
deriving DecidableEq, Repr

/-- A link-queue entry (R10). -/
structure Segment where
  sensor : Nat
  frame : Frame
  first : Nat
  count : Nat
  last : Bool
  slopes : List Int
deriving DecidableEq, Repr

/-- A slope link receiver (R5, R13). -/
structure Receiver where
  line : Line
  silenceRunning : Bool
  /-- none, or the bytes of a segment whose end delimiter has not yet come -/
  reception : Option (List Byte)
  queue : List Segment
  headWaiting : Bool
  accepted : Count32
  crcFail : Count32
  misrouted : Count32
  range : Count32
  queueOverflow : Count32
  late : Count32
  duplicate : Count32
  downCount : Count32
deriving DecidableEq, Repr

/-- R16. -/
def Receiver.reset (_ : Nat) : Receiver :=
  { line := .down, silenceRunning := false, reception := none, queue := [], headWaiting := false,
    accepted := 0, crcFail := 0, misrouted := 0, range := 0, queueOverflow := 0, late := 0,
    duplicate := 0, downCount := 0 }

/-! ### Sensors (R18) -/

/-- Sensor roles (R18). -/
inductive Role where
  | required
  | optional
  | ignored
deriving DecidableEq, Repr

/-- A sensor record (R18). The reference table's unlisted entries are 0. -/
structure Sensor where
  role : Role
  slopeCount : Nat
  scale : Nat
  tag : Nat
  refs : Table Int
deriving DecidableEq, Repr

/-- R33. -/
def Sensor.reset (n : Nat) : Sensor :=
  { role := .ignored, slopeCount := 0, scale := 16384, tag := n, refs := [] }

/-! ### Assembly slots (R34) -/

/-- Slot states (R34). -/
inductive SlotState where
  | free
  | opened
  | fill
  | ready
  | command
deriving DecidableEq, Repr

/-- Close causes (R34, R42). -/
inductive CloseCause where
  | allComplete
  | deadline
  | displaced
deriving DecidableEq, Repr

/-- Arrival states (R41). -/
inductive Arrival where
  | none
  | partly
  | complete
deriving DecidableEq, Repr

/-- An assembly slot (R34). `deadline` is the running timer's duration in microseconds. `acc` holds
the accumulators, and the residuals once the pass is done (R63). -/
structure Slot where
  state : SlotState
  frame : Frame
  bank : Nat
  openedAt : Nat
  deadline : Option Nat
  closeCause : Option CloseCause
  arrivals : Table Arrival
  coverage : NatSet
  acc : Table Int
  invalid : Nat
  saturated : Nat
  substituted : Nat
  degraded : Bool
  mixed : Bool
  conditioned : NatSet
  changed : NatSet
  peak : Option (Nat × Nat)
deriving DecidableEq, Repr

/-- A FREE slot holds no record (R34, R51). -/
def Slot.reset (_ : Nat) : Slot :=
  { state := .free, frame := 0, bank := 0, openedAt := 0, deadline := none, closeCause := none,
    arrivals := [], coverage := [], acc := [], invalid := 0, saturated := 0, substituted := 0,
    degraded := false, mixed := false, conditioned := [], changed := [], peak := none }

/-! ### Reconstruction engine (R52) -/

/-- The SUBSTITUTE feature (R32). -/
inductive Substitute where
  | holdLast
  | zero
deriving DecidableEq, Repr

/-- The work of one segment (R52), with the scale and reference table as they stood when it began
(R25). -/
structure SegmentWork where
  slot : Nat
  link : Nat
  frame : Frame
  first : Nat
  count : Nat
  worked : Nat
  rest : List Int
  scale : Nat
  refs : Table Int
deriving DecidableEq, Repr

/-- The fill-in pass of one slot (R52, R61): SUBSTITUTE and the role of each sensor present as read at its
start, and how many columns of the entries it visits have been visited. -/
structure FillWork where
  slot : Nat
  frame : Frame
  substitute : Substitute
  roles : List Role
  position : Nat
deriving DecidableEq, Repr

/-- The engine's state and current work item (R52). -/
inductive Work where
  | idle
  | segment (work : SegmentWork)
  | fill (work : FillWork)
deriving DecidableEq, Repr

/-- The engine (R52). -/
structure Engine where
  work : Work
  lastServed : Option Nat
  segmentsDone : Count32
  segmentsCut : Count32
  passesDone : Count32
  passesCut : Count32
deriving DecidableEq, Repr

/-- R67. -/
def Engine.reset : Engine :=
  { work := .idle, lastServed := none, segmentsDone := 0, segmentsCut := 0, passesDone := 0,
    passesCut := 0 }

/-! ### Matrix banks and loader (R68, R69) -/

/-- Bank states (R68). -/
inductive BankState where
  | empty
  | loading
  | verifying
  | loaded
  | ready
  | pending
  | active
  | retiring
deriving DecidableEq, Repr

/-- Verify outcomes (R68). -/
inductive VerifyOutcome where
  | matched
  | mismatch
  | failed
deriving DecidableEq, Repr

/-- When a pending swap takes effect (R88). -/
inductive PendingFrame where
  | next
  | frame (f : Frame)
deriving DecidableEq, Repr

/-- A bank descriptor (R68). -/
structure Bank where
  state : BankState
  rows : Option Nat
  columns : Option Nat
  shift : Option Nat
  block : Option Nat
  committed : NatSet
  zeroFilled : Nat
  expectedCrc : Option (BitVec 32)
  wholeCrc : Option (BitVec 32)
  blockCrcs : List (BitVec 32)
  outcome : Option VerifyOutcome
  verified : Nat
  failingColumn : Option Nat
  unverified : Option Nat
  recordedOwner : Option Nat
  errorCount : Count32
  pendingFrame : Option PendingFrame
deriving DecidableEq, Repr

/-- An EMPTY bank's descriptor (R68, R93). A verified count of 0 and an empty block CRC list are the model's choice
(log 50). -/
def Bank.reset (_ : Nat) : Bank :=
  { state := .empty, rows := none, columns := none, shift := none, block := none, committed := [],
    zeroFilled := 0, expectedCrc := none, wholeCrc := none, blockCrcs := [], outcome := none,
    verified := 0, failingColumn := none, unverified := none, recordedOwner := none,
    errorCount := 0, pendingFrame := none }

/-- A combining buffer that holds a column (R69). `touched` is the serial of its last touch. -/
structure Buffer where
  column : Nat
  rows : NatSet
  values : Table Int
  touched : Nat
deriving DecidableEq, Repr

/-- Loader states (R69). -/
inductive LoaderState where
  | idle
  | loading (bank : Nat) (owner : Nat)
  | verifying (bank : Nat) (owner : Nat)
deriving DecidableEq, Repr

/-- The loader (R69), with the CRC registers of the verify pass (R78) and the touch serial (log 20). -/
structure Loader where
  state : LoaderState
  bufferA : Option Buffer
  bufferB : Option Buffer
  lastActivity : Nat
  reopened : Bool
  touches : Nat
  wholeReg : BitVec 32
  blockReg : BitVec 32
deriving DecidableEq, Repr

/-- R93; DESIGN CHOICE for the fields the manual gives no reset value (log 31). -/
def Loader.reset : Loader :=
  { state := .idle, bufferA := none, bufferB := none, lastActivity := 0, reopened := false,
    touches := 0, wholeReg := 0xFFFFFFFF#32, blockReg := 0xFFFFFFFF#32 }

/-! ### Actuator table (R95 to R99) -/

/-- Actuator modes (R95). -/
inductive Mode where
  | loop
  | held
  | forced
deriving DecidableEq, Repr

/-- An actuator record (R95). -/
structure Actuator where
  link : Nat
  channel : Nat
  bias : Nat
  lo : Nat
  hi : Nat
  gainSet : Nat
  mode : Mode
  x : Nat
  lastOutput : Nat
deriving DecidableEq, Repr

/-- R108: record i rests on channel i of link 0. -/
def Actuator.reset (i : Nat) : Actuator :=
  { link := 0, channel := i, bias := 32768, lo := 0, hi := 65535, gainSet := 0, mode := .loop,
    x := 8388608, lastOutput := 32768 }

/-- A gain set (R97). -/
structure Gain where
  gain : Nat
  leak : Nat
deriving DecidableEq, Repr

/-- R108. -/
def Gain.reset (_ : Nat) : Gain := { gain := 0, leak := 0 }

/-- A pair-list entry (R98). -/
structure Pair where
  a : Nat
  b : Nat
  dmax : Nat
deriving DecidableEq, Repr

/-- The part of the table that edits change: N, the records and the pair list (R95, R98, R99). -/
structure ActTable where
  n : Nat
  records : Table Actuator
  pairs : List Pair
deriving DecidableEq, Repr

/-- R108. -/
def ActTable.reset : ActTable := { n := 0, records := [], pairs := [] }

/-- An edit, kept whole with its arguments (R99). -/
inductive Edit where
  | write (first : Nat) (records : List ActFields)
  | mode (actuator : Nat) (mode : Mode) (value : Option Nat)
  | pairAdd (pair : Pair)
  | pairDrop (a : Nat) (b : Nat)
deriving DecidableEq, Repr

/-! ### Loop state and command stage (R110, R147) -/

/-- Loop states (R148). -/
inductive LoopState where
  | stopped
  | opened
  | closed
  | hold
  | safe
deriving DecidableEq, Repr

/-- A poke: the actuator and the signed offset (R117). -/
structure Poke where
  actuator : Nat
  offset : Int
deriving DecidableEq, Repr

/-- What the stage reads when it begins a frame (R111). -/
structure StageFrame where
  slot : Nat
  frame : Frame
  loopRead : LoopState
  n : Nat
  records : Table Actuator
  gains : Table Gain
  pairs : List Pair
  poke : Option Poke
deriving DecidableEq, Repr

/-- The staged shape: x' and o of actuators 0..N-1, and the clamp count (R110). -/
structure Shape where
  states : List Nat
  outputs : List Nat
  clamp : Nat
deriving DecidableEq, Repr

/-- The stage's state (R110). -/
inductive StagePhase where
  | idle
  | building (work : StageFrame)
  | sending (work : StageFrame) (shape : Shape)
deriving DecidableEq, Repr

/-- The command stage (R110). -/
structure Stage where
  phase : StagePhase
  committed : Count32
  droppedStroke : Count32
  droppedDrive : Count32
  held : Count32
  cut : Count32
deriving DecidableEq, Repr

/-- R128. -/
def Stage.reset : Stage :=
  { phase := .idle, committed := 0, droppedStroke := 0, droppedDrive := 0, held := 0, cut := 0 }

/-! ### Drive links (R129) -/

/-- Drive link states (R129). -/
inductive DriveState where
  | disabled
  | idle
  | recovering
  | loading
  | loaded
  | applying
  | faulted
deriving DecidableEq, Repr

/-- Last statuses of a drive link (R142). -/
inductive DriveStatus where
  | none
  | loadSent
  | taken
  | refusedCrc
  | refusedLength
  | refusedChannel
  | replyTimeout
  | applied
  | applyTimeout
  | recovered
  | lineStuck
  | faultReport
deriving DecidableEq, Repr

/-- Transaction kinds (R131). -/
inductive TxKind where
  | shape
  | bias
deriving DecidableEq, Repr

/-- The transaction a link is taking part in (R129); the frame is present for SHAPE. -/
structure TxRef where
  number : Byte
  kind : TxKind
  frame : Option Frame
deriving DecidableEq, Repr

/-- A running timer of a drive link, with its duration in microseconds (R129). -/
inductive LinkTimer where
  | reply (duration : Nat)
  | apply (duration : Nat)
  | recovery (duration : Nat)
deriving DecidableEq, Repr

/-- What a link last sent on its forward half: nothing, a resync burst (which carries no bytes), or a
LOAD frame (R132, R133). The model's own record of the output (log 22). -/
inductive Forward where
  | quiet
  | resync
  | load (bytes : List Byte)
deriving DecidableEq, Repr

/-- A drive link controller (R129, R142). -/
structure DriveLink where
  state : DriveState
  channels : Nat
  park : Nat
  replyTimeout : Nat
  applyTimeout : Nat
  recoveryWindow : Nat
  outstanding : Option TxRef
  timer : Option LinkTimer
  status : DriveStatus
  forward : Forward
  loads : Count32
  taken : Count32
  refusedCrc : Count32
  refusedLength : Count32
  refusedChannel : Count32
  replyTimeouts : Count32
  applied : Count32
  applyTimeouts : Count32
  recovered : Count32
  lineStuck : Count32
  faultReports : Count32
  stray : Count32
  rxError : Count32
deriving DecidableEq, Repr

/-- R145. -/
def DriveLink.reset (v : Variant) (_ : Nat) : DriveLink :=
  { state := .disabled, channels := Config.channels v, park := 32768, replyTimeout := 50,
    applyTimeout := 200, recoveryWindow := 100, outstanding := none, timer := none, status := .none,
    forward := .quiet, loads := 0, taken := 0, refusedCrc := 0, refusedLength := 0,
    refusedChannel := 0, replyTimeouts := 0, applied := 0, applyTimeouts := 0, recovered := 0,
    lineStuck := 0, faultReports := 0, stray := 0, rxError := 0 }

/-- A participating link of a transaction: the values it loads and the configuration read when the
transaction began (R131). -/
structure TxLink where
  link : Nat
  values : List Nat
  replyTimeout : Nat
  applyTimeout : Nat
  recoveryWindow : Nat
deriving DecidableEq, Repr

/-- The current transaction (R129, R131). `dropped` says it was dropped or abandoned before its pulse;
`timeoutReported` that a first apply timeout was reported (R137); `applied` lists the links that
reached APPLIED in it (R141). -/
structure Transaction where
  number : Byte
  kind : TxKind
  frame : Option Frame
  links : List TxLink
  pulsed : Bool
  dropped : Bool
  timeoutReported : Bool
  applied : List Nat
deriving DecidableEq, Repr

/-- A transaction requested and not yet begun (R131); `values` are those of actuators 0..N-1. -/
structure TxRequest where
  kind : TxKind
  frame : Option Frame
  values : List Nat
deriving DecidableEq, Repr

/-- A bias send in flight: the biases of actuators 0..N-1 read when it began (R140). -/
structure BiasSend where
  biases : List Nat
deriving DecidableEq, Repr

/-- The update line (R129). -/
inductive UpdateLine where
  | atRest
  | pulsing
deriving DecidableEq, Repr

/-- The drive links' shared state (R129). -/
structure Drive where
  links : Table DriveLink
  number : Byte
  current : Option Transaction
  request : Option TxRequest
  pulses : Count32
  updateLine : UpdateLine
  biasSend : Option BiasSend
deriving DecidableEq, Repr

/-- R145. -/
def Drive.reset : Drive :=
  { links := [], number := 0, current := none, request := none, pulses := 0, updateLine := .atRest,
    biasSend := none }

/-! ### Loop controller (R147) -/

/-- Causes of a change of loop state, in the order of the table of R149. -/
inductive LoopCause where
  | loopOpen
  | loopClose
  | loopStop
  | loopSafe
  | scheduledOpen
  | scheduledClose
  | missedRun
  | strokeRun
  | driveRun
  | lineStuck
  | refusedChannel
  | faultReport
deriving DecidableEq, Repr

/-- The target of a scheduled transition (R152). -/
inductive Target where
  | opened
  | closed
deriving DecidableEq, Repr

/-- A scheduled transition (R147). -/
structure PendingTransition where
  target : Target
  frame : Frame
  sender : Nat
deriving DecidableEq, Repr

/-- The most recent change of loop state (R147, R149). -/
structure LastTransition where
  entered : LoopState
  cause : LoopCause
  frame : Option Frame
deriving DecidableEq, Repr

/-- The loop controller (R147). -/
structure Loop where
  state : LoopState
  missedRun : Nat
  strokeRun : Nat
  driveRun : Nat
  missedThreshold : Nat
  strokeThreshold : Nat
  driveThreshold : Nat
  deadline : Nat
  pendingTransition : Option PendingTransition
  safeConfirmed : Bool
  lastTransition : Option LastTransition
  holdEntries : Count32
  safeEntries : Count32
deriving DecidableEq, Repr

/-- R165. -/
def Loop.reset : Loop :=
  { state := .stopped, missedRun := 0, strokeRun := 0, driveRun := 0, missedThreshold := 4,
    strokeThreshold := 2, driveThreshold := 3, deadline := 1000, pendingTransition := none,
    safeConfirmed := false, lastTransition := none, holdEntries := 0, safeEntries := 0 }

/-! ### Scan unit (R167) -/

/-- Scan states (R167). -/
inductive ScanState where
  | idle
  | running
  | done
  | aborted
deriving DecidableEq, Repr

/-- Scan patterns (R167). -/
inductive Pattern where
  | push
  | pushPull
deriving DecidableEq, Repr

/-- Scan phases (R167). -/
inductive Phase where
  | push
  | pull
deriving DecidableEq, Repr

/-- Why a scan left RUNNING (R167). -/
inductive EndCause where
  | complete
  | scanStop
  | hold
  | stopped
  | safe
deriving DecidableEq, Repr

/-- Parameters and position of a scan and its end cause, absent in IDLE (R167). -/
structure ScanRun where
  low : Nat
  high : Nat
  amplitude : Nat
  dwell : Nat
  pattern : Pattern
  cycles : Nat
  actuator : Nat
  phase : Phase
  framesLeft : Nat
  cyclesDone : Byte
  endCause : Option EndCause
deriving DecidableEq, Repr

/-- The scan unit (R167). `poked` counts in every state and is 0 in IDLE (R173). -/
structure Scan where
  state : ScanState
  run : Option ScanRun
  poked : Count32
deriving DecidableEq, Repr

/-- R173. -/
def Scan.reset : Scan := { state := .idle, run := none, poked := 0 }

/-! ### Telemetry unit (R174 to R179) -/

/-- Record kinds (R174). -/
inductive RecordKind where
  | committed
  | scan
  | droppedStroke
  | droppedDrive
  | held
  | missed
  | abandoned
  | event
deriving DecidableEq, Repr

/-- EVENT details (R175). -/
inductive EventDetail where
  | loopState (entered : LoopState) (cause : LoopCause)
  | swap (bank : Nat)
  | scanEnd (state : ScanState) (cause : Option EndCause)
deriving DecidableEq, Repr

/-- A telemetry record (R174). `firstViolated` is list position, a, b. -/
structure Record where
  kind : RecordKind
  frame : Option Frame
  loop : LoopState
  bank : Option Nat
  arrivals : Table Arrival
  closeCause : Option CloseCause
  covered : Nat
  substituted : Nat
  invalid : Nat
  saturated : Nat
  degraded : Bool
  mixed : Bool
  clamp : Nat
  violated : Nat
  firstViolated : Option (Nat × Nat × Nat)
  peak : Option (Nat × Nat)
  poke : Option Poke
  capture : Option Nat
  captureLost : Bool
  captureDamaged : Bool
  event : Option EventDetail
deriving DecidableEq, Repr

/-- A capture slot in use (R179): `slopes` holds the C values of the image, unlisted ones 0. -/
structure Capture where
  frame : Frame
  columns : Nat
  n : Nat
  slopes : Table Int
  outputs : List Nat
deriving DecidableEq, Repr

/-- The telemetry unit (R177 to R179). -/
structure Telem where
  fifo : List Record
  overflow : Bool
  lost : Count32
  selection : BitVec 7
  captures : Table (Option Capture)
  images : Table (Option (Table Int))
deriving DecidableEq, Repr

/-- R176: DROPPED_STROKE, DROPPED_DRIVE, MISSED, ABANDONED and EVENT. -/
def Telem.defaultSelection : BitVec 7 := 0b1110110#7

/-- R184. -/
def Telem.reset : Telem :=
  { fifo := [], overflow := false, lost := 0, selection := Telem.defaultSelection, captures := [],
    images := [] }

/-! ### Supervisory port (R185) -/

/-- Reply statuses, in the order of the reply-status table (R189, R205). -/
inductive Status where
  | ok
  | accepted
  | unknownRequest
  | notPresent
  | badArgument
  | wrongState
  | busy
  | notOwner
  | noMatrix
  | mismatch
  | conflict
  | limit
  | full
  | incomplete
  | columnDone
  | tooLate
  | broadcastNotAllowed
deriving DecidableEq, Repr

/-- Detail codes (R191). -/
inductive Detail where
  | none
  | rows
  | columns
  | noRequired
  | linkFaulted
  | bankState (state : BankState)
deriving DecidableEq, Repr

/-- A fault-detail entry (R191). -/
structure FaultEntry where
  code : Nat
  status : Status
  tag : Byte
  position : Nat
  detail : Detail
  value : Option Int
  owner : Option Nat
deriving DecidableEq, Repr

/-- A reply (R189). -/
structure Reply where
  address : Nat
  master : Nat
  status : Status
  clamped : Bool
  tag : Byte
  payload : List Byte
deriving DecidableEq, Repr

/-- The four features (R195). -/
structure Features where
  keep : Bool
  substitute : Substitute
  capture : Bool
  loadIdleLimit : Nat
deriving DecidableEq, Repr

/-- R195. -/
def Features.reset : Features :=
  { keep := true, substitute := .holdLast, capture := false, loadIdleLimit := 2000 }

/-- The supervisory port (R185, R194). `resetAfterReply` holds an addressed RESET_SOFT until its reply has
been sent, and `resetsAtReplyEnd` counts those whose lost reply has still to end (R200). -/
structure Port where
  address : Nat
  reception : Option (List Byte)
  reply : Option Reply
  resetAfterReply : Bool
  resetsAtReplyEnd : Nat
  entries : Table (Option FaultEntry)
  features : Features
  causes : BitVec 13
  mask : BitVec 13
  framesTaken : Count32
  broadcastsTaken : Count32
  crcFail : Count32
  badMaster : Count32
  gap : Count32
  overlength : Count32
  replyLost : Count32
deriving DecidableEq, Repr

/-- R201, with the strap value read at the release. -/
def Port.reset (straps : Nat) : Port :=
  { address := straps, reception := none, reply := none, resetAfterReply := false,
    resetsAtReplyEnd := 0, entries := [], features := Features.reset, causes := 0, mask := 0,
    framesTaken := 0, broadcastsTaken := 0, crcFail := 0, badMaster := 0, gap := 0,
    overlength := 0, replyLost := 0 }

/-! ### The part -/

/-- The state of the part. -/
structure State where
  /-- which of the two parts answers (R193); fixed -/
  variant : Variant
  /-- the reset line is held low (R201) -/
  resetLow : Bool
  /-- part time in microseconds (R34, R69) -/
  now : Nat
  receivers : Table Receiver
  sensors : Table Sensor
  slopeMap : List MapEntry
  store : Table Int
  slots : Table Slot
  /-- L (R35) -/
  lastClosed : Option Frame
  engine : Engine
  banks : Table Bank
  /-- the coefficients of both banks by DRAM address (log 14) -/
  dram : Table Int
  loader : Loader
  table : ActTable
  gains : Table Gain
  /-- the edits held during a flight (R99) -/
  hold : List Edit
  stage : Stage
  drive : Drive
  loop : Loop
  scan : Scan
  telem : Telem
  port : Port
  /-- the commands that wait, first in first out -/
  pending : List Instr
deriving DecidableEq, Repr

/-- The part of a variant right after the hard reset, with the straps at a value (R16, R33, R51, R67,
R93, R108, R128, R145, R165, R173, R184, R201). -/
def State.resetOf (v : Variant) (straps : Nat) : State :=
  { variant := v, resetLow := false, now := 0, receivers := [], sensors := [], slopeMap := [],
    store := [], slots := [], lastClosed := none, engine := Engine.reset, banks := [], dram := [],
    loader := Loader.reset, table := ActTable.reset, gains := [], hold := [], stage := Stage.reset,
    drive := Drive.reset, loop := Loop.reset, scan := Scan.reset, telem := Telem.reset,
    port := Port.reset straps, pending := [] }

/-- The machine right after reset: a DQ1024 (log 4) strapped to address 0 (log 5), with the reset line
released. -/
def State.reset : State := State.resetOf .dq1024 0

end Sys2Proof.Machine
end

