-- ==== Sys2Proof/Machine/Flags.lean ====
section
/-! DEFINITION. The attention causes and the line they drive (R197). -/

namespace Sys2Proof.Machine

/-- The thirteen attention causes, in the order of the table of R197. -/
inductive Cause where
  | linkDown
  | matrixError
  | loadDone
  | swapDone
  | swapCancelled
  | swapLate
  | driveFault
  | loopHold
  | safeEntered
  | scanDone
  | telemHalf
  | telemOverflow
  | broadcastRefused
deriving DecidableEq, Repr

/-- The position of a cause in a set of causes: the first-listed is bit 0 (R205). -/
def Cause.index : Cause → Nat
  | .linkDown => 0
  | .matrixError => 1
  | .loadDone => 2
  | .swapDone => 3
  | .swapCancelled => 4
  | .swapLate => 5
  | .driveFault => 6
  | .loopHold => 7
  | .safeEntered => 8
  | .scanDone => 9
  | .telemHalf => 10
  | .telemOverflow => 11
  | .broadcastRefused => 12

/-- The set that holds one cause. -/
def Cause.bit (c : Cause) : BitVec 13 := 1#13 <<< c.index

/-- R197: adds a cause to the attention cause set; a cause already there leaves the set as it was. -/
def raise (c : Cause) (s : State) : State :=
  { s with port := { s.port with causes := s.port.causes ||| c.bit } }

/-- The cause is in the attention cause set. -/
def State.hasCause (s : State) (c : Cause) : Bool := s.port.causes.getLsbD c.index

/-- R197: the attention line is asserted exactly when the set and the mask share a cause; it is
released while the reset line is low (R201). -/
def State.attentionLine (s : State) : Bool :=
  !s.resetLow && decide (s.port.causes &&& s.port.mask ≠ 0)

/-- A 16-bit set of names as the wire carries it names only the thirteen causes (R198, R205). -/
def causesKnown (causes : BitVec 16) : Bool := decide (causes.toNat < 8192)

end Sys2Proof.Machine
end

