-- ==== Sys2Proof/Machine/Operands.lean ====
section
/-! DEFINITION. Named values as numbers on the wire: a name is carried as its position in the list in
which the owning rule gives the names (R202). -/

namespace Sys2Proof.Machine

/-- The kinds of LINK_STATUS (R14): SLOPE, DRIVE. -/
inductive LinkKind where
  | slope
  | drive
deriving DecidableEq, Repr

/-- R14. -/
def linkKind : Nat → Option LinkKind
  | 0 => some .slope
  | 1 => some .drive
  | _ => none

/-- R19. -/
def roleOf : Nat → Option Role
  | 0 => some .required
  | 1 => some .optional
  | 2 => some .ignored
  | _ => none

/-- R19. -/
def Role.number : Role → Nat
  | .required => 0
  | .optional => 1
  | .ignored => 2

/-- R104. -/
def modeOf : Nat → Option Mode
  | 0 => some .loop
  | 1 => some .held
  | 2 => some .forced
  | _ => none

/-- R104. -/
def Mode.number : Mode → Nat
  | .loop => 0
  | .held => 1
  | .forced => 2

/-- R168. -/
def patternOf : Nat → Option Pattern
  | 0 => some .push
  | 1 => some .pushPull
  | _ => none

/-- R168. -/
def Pattern.number : Pattern → Nat
  | .push => 0
  | .pushPull => 1

/-- R167. -/
def Phase.number : Phase → Nat
  | .push => 0
  | .pull => 1

/-- R5. -/
def Line.number : Line → Nat
  | .down => 0
  | .up => 1

/-- R34. -/
def SlotState.number : SlotState → Nat
  | .free => 0
  | .opened => 1
  | .fill => 2
  | .ready => 3
  | .command => 4

/-- R34. -/
def CloseCause.number : CloseCause → Nat
  | .allComplete => 0
  | .deadline => 1
  | .displaced => 2

/-- R34. -/
def Arrival.number : Arrival → Nat
  | .none => 0
  | .partly => 1
  | .complete => 2

/-- R68. -/
def BankState.number : BankState → Nat
  | .empty => 0
  | .loading => 1
  | .verifying => 2
  | .loaded => 3
  | .ready => 4
  | .pending => 5
  | .active => 6
  | .retiring => 7

/-- R68. -/
def VerifyOutcome.number : VerifyOutcome → Nat
  | .matched => 0
  | .mismatch => 1
  | .failed => 2

/-- R129. -/
def DriveState.number : DriveState → Nat
  | .disabled => 0
  | .idle => 1
  | .recovering => 2
  | .loading => 3
  | .loaded => 4
  | .applying => 5
  | .faulted => 6

/-- R142. -/
def DriveStatus.number : DriveStatus → Nat
  | .none => 0
  | .loadSent => 1
  | .taken => 2
  | .refusedCrc => 3
  | .refusedLength => 4
  | .refusedChannel => 5
  | .replyTimeout => 6
  | .applied => 7
  | .applyTimeout => 8
  | .recovered => 9
  | .lineStuck => 10
  | .faultReport => 11

/-- R129. -/
def TxKind.number : TxKind → Nat
  | .shape => 0
  | .bias => 1

/-- R202. -/
def LoopState.number : LoopState → Nat
  | .stopped => 0
  | .opened => 1
  | .closed => 2
  | .hold => 3
  | .safe => 4

/-- R149. -/
def LoopCause.number : LoopCause → Nat
  | .loopOpen => 0
  | .loopClose => 1
  | .loopStop => 2
  | .loopSafe => 3
  | .scheduledOpen => 4
  | .scheduledClose => 5
  | .missedRun => 6
  | .strokeRun => 7
  | .driveRun => 8
  | .lineStuck => 9
  | .refusedChannel => 10
  | .faultReport => 11

/-- The place in the list of targets of R147, OPEN or CLOSED, not that of the loop state of the same name: the
model's choice (log 44). -/
def Target.number : Target → Nat
  | .opened => 0
  | .closed => 1

/-- R167. -/
def ScanState.number : ScanState → Nat
  | .idle => 0
  | .running => 1
  | .done => 2
  | .aborted => 3

/-- R167. -/
def EndCause.number : EndCause → Nat
  | .complete => 0
  | .scanStop => 1
  | .hold => 2
  | .stopped => 3
  | .safe => 4

/-- R174. -/
def RecordKind.number : RecordKind → Nat
  | .committed => 0
  | .scan => 1
  | .droppedStroke => 2
  | .droppedDrive => 3
  | .held => 4
  | .missed => 5
  | .abandoned => 6
  | .event => 7

/-- R189. -/
def Status.number : Status → Nat
  | .ok => 0
  | .accepted => 1
  | .unknownRequest => 2
  | .notPresent => 3
  | .badArgument => 4
  | .wrongState => 5
  | .busy => 6
  | .notOwner => 7
  | .noMatrix => 8
  | .mismatch => 9
  | .conflict => 10
  | .limit => 11
  | .full => 12
  | .incomplete => 13
  | .columnDone => 14
  | .tooLate => 15
  | .broadcastNotAllowed => 16

/-- Detail codes in the order R191 names them, then the bank states (log 12). -/
def Detail.number : Detail → Nat
  | .none => 0
  | .rows => 1
  | .columns => 2
  | .noRequired => 3
  | .linkFaulted => 4
  | .bankState state => 5 + state.number

/-- R195. -/
def Substitute.number : Substitute → Nat
  | .holdLast => 0
  | .zero => 1

/-- ON and OFF, as R195 lists them (log 32). -/
def onOffNumber (on : Bool) : Nat := if on then 0 else 1

/-- R195. -/
def onOffOf : Nat → Option Bool
  | 0 => some true
  | 1 => some false
  | _ => none

/-- R195. -/
def substituteOf : Nat → Option Substitute
  | 0 => some .holdLast
  | 1 => some .zero
  | _ => none

/-- R193. -/
def variantNumber : Variant → Nat
  | .dq1024 => 0
  | .dq512 => 1

/-- The position of a record kind in a selection (R176): the seven kinds, SCAN not among them. -/
def RecordKind.selectionIndex : RecordKind → Option Nat
  | .committed => some 0
  | .scan => none
  | .droppedStroke => some 1
  | .droppedDrive => some 2
  | .held => some 3
  | .missed => some 4
  | .abandoned => some 5
  | .event => some 6

/-- A 16-bit set of names names only the seven kinds (R176). -/
def kindsKnown (kinds : BitVec 16) : Bool := decide (kinds.toNat < 128)

end Sys2Proof.Machine
end

