-- ==== Sys2Proof/Machine/Ops.lean ====
section
/-! DEFINITION. The named operations over the state's storage: reading and writing the indexed records,
coefficients of the banks, telemetry records, and the edits of the actuator table. -/

namespace Sys2Proof.Machine

/-- A command's effect while the reset line is released; while it is low the part takes no event and
no frame, and every block keeps its hard-reset state (R16, R201). -/
def awake (s : State) (f : State → State) : Host.Outcome State Fault Refusal :=
  .next (if s.resetLow then s else f s)

/-! ### Indexed records -/

/-- Receiver n. -/
def State.receiver (s : State) (n : Nat) : Receiver := Table.get Receiver.reset s.receivers n

/-- Replaces receiver n. -/
def State.setReceiver (s : State) (n : Nat) (r : Receiver) : State :=
  { s with receivers := Table.set Receiver.reset s.receivers n r }

/-- Changes receiver n. -/
def State.modifyReceiver (s : State) (n : Nat) (f : Receiver → Receiver) : State :=
  s.setReceiver n (f (s.receiver n))

/-- The sensor record n. -/
def State.sensor (s : State) (n : Nat) : Sensor := Table.get Sensor.reset s.sensors n

/-- Replaces sensor record n. -/
def State.setSensor (s : State) (n : Nat) (r : Sensor) : State :=
  { s with sensors := Table.set Sensor.reset s.sensors n r }

/-- Assembly slot k. -/
def State.slot (s : State) (k : Nat) : Slot := Table.get Slot.reset s.slots k

/-- Replaces assembly slot k. -/
def State.setSlot (s : State) (k : Nat) (r : Slot) : State :=
  { s with slots := Table.set Slot.reset s.slots k r }

/-- Changes assembly slot k. -/
def State.modifySlot (s : State) (k : Nat) (f : Slot → Slot) : State := s.setSlot k (f (s.slot k))

/-- The descriptor of bank b. -/
def State.bank (s : State) (b : Nat) : Bank := Table.get Bank.reset s.banks b

/-- Replaces the descriptor of bank b. -/
def State.setBank (s : State) (b : Nat) (r : Bank) : State :=
  { s with banks := Table.set Bank.reset s.banks b r }

/-- Changes the descriptor of bank b. -/
def State.modifyBank (s : State) (b : Nat) (f : Bank → Bank) : State := s.setBank b (f (s.bank b))

/-- Drive link l. -/
def State.driveLink (s : State) (l : Nat) : DriveLink :=
  Table.get (DriveLink.reset s.variant) s.drive.links l

/-- Replaces drive link l. -/
def State.setDriveLink (s : State) (l : Nat) (r : DriveLink) : State :=
  { s with drive := { s.drive with links := Table.set (DriveLink.reset s.variant) s.drive.links l r } }

/-- Changes drive link l. -/
def State.modifyDriveLink (s : State) (l : Nat) (f : DriveLink → DriveLink) : State :=
  s.setDriveLink l (f (s.driveLink l))

/-- The record of actuator a. -/
def ActTable.actuator (t : ActTable) (a : Nat) : Actuator := Table.get Actuator.reset t.records a

/-- Replaces the record of actuator a. -/
def ActTable.setActuator (t : ActTable) (a : Nat) (r : Actuator) : ActTable :=
  { t with records := Table.set Actuator.reset t.records a r }

/-- Gain set k. -/
def State.gain (s : State) (k : Nat) : Gain := Table.get Gain.reset s.gains k

/-- No fault-detail entry. -/
def noEntry (_ : Nat) : Option FaultEntry := none

/-- The fault-detail entry of master m. -/
def Port.entry (p : Port) (m : Nat) : Option FaultEntry := Table.get noEntry p.entries m

/-- Replaces the fault-detail entry of master m. -/
def Port.setEntry (p : Port) (m : Nat) (e : Option FaultEntry) : Port :=
  { p with entries := Table.set noEntry p.entries m e }

/-- A free capture slot. -/
def noCapture (_ : Nat) : Option Capture := none

/-- Capture slot k. -/
def Telem.captureSlot (t : Telem) (k : Nat) : Option Capture := Table.get noCapture t.captures k

/-- No frame image. -/
def noImage (_ : Nat) : Option (Table Int) := none

/-- The frame image of assembly slot k. -/
def Telem.image (t : Telem) (k : Nat) : Option (Table Int) := Table.get noImage t.images k

/-- Replaces the frame image of assembly slot k. -/
def State.setImage (s : State) (k : Nat) (i : Option (Table Int)) : State :=
  { s with telem := { s.telem with images := Table.set noImage s.telem.images k i } }

/-- The arrival state NONE. -/
def noArrival (_ : Nat) : Arrival := .none

/-- The arrival state of a sensor in a slot or record (R41). -/
def arrivalOf (t : Table Arrival) (n : Nat) : Arrival := Table.get noArrival t n

/-- The slope links (and sensors) present in the variant. -/
def State.slopeLinkList (s : State) : List Nat := List.range (Config.slopeLinks s.variant)

/-- The drive links present in the variant. -/
def State.driveLinkList (s : State) : List Nat := List.range (Config.driveLinks s.variant)

/-- Slope link n is present in the variant. -/
def State.hasSlopeLink (s : State) (n : Nat) : Bool := decide (n < Config.slopeLinks s.variant)

/-- Drive link l is present in the variant. -/
def State.hasDriveLink (s : State) (l : Nat) : Bool := decide (l < Config.driveLinks s.variant)

/-- Applies a change to every receiver present. -/
def State.forReceivers (s : State) (f : Receiver → Receiver) : State :=
  s.slopeLinkList.foldl (fun t n => t.modifyReceiver n f) s

/-- OPEN, CLOSED and HOLD are the running states (R148). -/
def LoopState.running : LoopState → Bool
  | .opened => true
  | .closed => true
  | .hold => true
  | .stopped => false
  | .safe => false

/-! ### Bank coefficients in DRAM (R68) -/

/-- Where coefficient m[a][j] of a bank stands: column by column, 1,024 places a column (log 14). -/
def dramAddress (b j a : Nat) : Nat := (b * 8192 + j) * 1024 + a

/-- The coefficient m[a][j] of bank b. An unwritten place reads 0 (log 13). -/
def State.coefficient (s : State) (b j a : Nat) : Int := Table.get zeroes s.dram (dramAddress b j a)

/-- The R coefficients of a column, row by row. -/
def State.column (s : State) (b j rows : Nat) : List Int :=
  Table.getList zeroes s.dram (dramAddress b j 0) rows

/-- Writes a column to DRAM, row 0 first. -/
def State.writeColumn (s : State) (b j : Nat) (values : List Int) : State :=
  { s with dram := Table.setList zeroes s.dram (dramAddress b j 0) values }

/-- The ACTIVE bank, if there is one. -/
def State.activeBank (s : State) : Option Nat :=
  [0, 1].find? (fun b => decide ((s.bank b).state = .active))

/-- The PENDING bank, if there is one. -/
def State.pendingBank (s : State) : Option Nat :=
  [0, 1].find? (fun b => decide ((s.bank b).state = .pending))

/-- A swap is pending (R88). -/
def State.swapPending (s : State) : Bool := s.pendingBank.isSome

/-- Some slot that is not FREE names bank b (R90). -/
def State.bankNamed (s : State) (b : Nat) : Bool :=
  [0, 1].any (fun k => decide ((s.slot k).state ≠ .free) && decide ((s.slot k).bank = b))

/-! ### Slope map (R28) -/

/-- The columns slope i of sensor n is assigned to, in map order. -/
def slopeColumns (entries : List MapEntry) (n i : Nat) : List Nat :=
  entries.filterMap (fun e =>
    if e.sensor = n ∧ e.first ≤ i ∧ i < e.first + e.count then some (e.column + (i - e.first))
    else none)

/-- The columns of an entry in rising order. -/
def entryColumns (e : MapEntry) : List Nat := (List.range e.count).map (fun i => e.column + i)

/-- The highest mapped column; none for an empty map. -/
def highestColumn (entries : List MapEntry) : Option Nat :=
  entries.foldl (fun h e => some (max (h.getD 0) (e.column + e.count - 1))) none

/-- A bank with C columns is fit for the map (R28). -/
def mapFits (entries : List MapEntry) (columns : Nat) : Bool :=
  match highestColumn entries with
  | none => true
  | some h => decide (h < columns)

/-! ### Telemetry records (R174 to R179) -/

/-- A record of a kind with every other field absent, 0 or clear. -/
def Record.blank (kind : RecordKind) (loop : LoopState) : Record :=
  { kind := kind, frame := none, loop := loop, bank := none, arrivals := [], closeCause := none,
    covered := 0, substituted := 0, invalid := 0, saturated := 0, degraded := false, mixed := false,
    clamp := 0, violated := 0, firstViolated := none, peak := none, poke := none, capture := none,
    captureLost := false, captureDamaged := false, event := none }

/-- R175: an EVENT record made now. -/
def eventRecord (s : State) (detail : EventDetail) (frame : Option Frame) (bank : Option Nat) : Record :=
  { Record.blank .event s.loop.state with frame := frame, bank := bank, event := some detail }

/-- The fields of a frame's record that come from its slot (R46, R126). -/
def slotRecord (kind : RecordKind) (loop : LoopState) (slot : Slot) : Record :=
  { Record.blank kind loop with
    frame := some slot.frame
    bank := some slot.bank
    arrivals := slot.arrivals
    closeCause := slot.closeCause
    covered := slot.coverage.length
    substituted := slot.substituted
    invalid := slot.invalid
    saturated := slot.saturated
    degraded := slot.degraded
    mixed := slot.mixed
    peak := slot.peak }

/-- What a record that joins the FIFO copies into a capture slot, and whether a value was damaged
(R179). -/
structure CaptureCopy where
  capture : Capture
  damaged : Bool
deriving DecidableEq, Repr

/-- The lowest-numbered free capture slot (R179). -/
def Telem.freeCapture (t : Telem) : Option Nat :=
  (List.range Config.captureSlots).find? (fun k => (t.captureSlot k).isNone)

/-- R176: records of this kind go to the FIFO; SCAN always does. -/
def Telem.selects (t : Telem) (kind : RecordKind) : Bool :=
  match kind.selectionIndex with
  | none => true
  | some i => t.selection.getLsbD i

/-- R179: the record as stored, and the capture slots after it. -/
def Telem.capture (t : Telem) (r : Record) : Option CaptureCopy → Record × Table (Option Capture)
  | none => (r, t.captures)
  | some copy =>
    match t.freeCapture with
    | some k =>
      ({ r with capture := some k, captureDamaged := copy.damaged },
        Table.set noCapture t.captures k (some copy.capture))
    | none => ({ r with captureLost := true }, t.captures)

/-- R177: a record that the selection passes joins the FIFO, or is lost. -/
def joinFifo (r : Record) (copy : Option CaptureCopy) (s : State) : State :=
  if s.telem.overflow then { s with telem := { s.telem with lost := s.telem.lost + 1 } }
  else if Config.fifoRecords ≤ s.telem.fifo.length then
    raise .telemOverflow
      { s with telem := { s.telem with overflow := true, lost := s.telem.lost + 1 } }
  else
    let stored := s.telem.capture r copy
    let t := { s with telem := { s.telem with fifo := s.telem.fifo ++ [stored.1], captures := stored.2 } }
    if t.telem.fifo.length = Config.fifoHalf then raise .telemHalf t else t

/-- R176, R177: a record offered to the telemetry unit. -/
def offer (r : Record) (copy : Option CaptureCopy) (s : State) : State :=
  if s.telem.selects r.kind then joinFifo r copy s else s

/-! ### The actuator table and its edits (R95 to R106) -/

/-- R103: a record with new fields; x is saturated into the new limits, mode and last output kept. -/
def Actuator.rewrite (r : Actuator) (f : ActFields) : Actuator :=
  { r with link := f.link, channel := f.channel, bias := f.bias, lo := f.lo, hi := f.hi,
           gainSet := f.gainSet, x := clamp (256 * f.lo) (256 * f.hi) r.x }

/-- Writes consecutive records. -/
def ActTable.rewrite (t : ActTable) (first : Nat) : List ActFields → ActTable
  | [] => t
  | f :: fs => ActTable.rewrite (t.setActuator first ((t.actuator first).rewrite f)) (first + 1) fs

/-- R104: a record with a new mode; FORCED also sets x. -/
def Actuator.setMode (r : Actuator) (mode : Mode) (value : Option Nat) : Actuator :=
  match mode, value with
  | .forced, some v => { r with mode := .forced, x := 256 * v }
  | _, _ => { r with mode := mode }

/-- The pair names the two actuators, in either order (R98). -/
def Pair.names (p : Pair) (a b : Nat) : Bool :=
  (decide (p.a = a) && decide (p.b = b)) || (decide (p.a = b) && decide (p.b = a))

/-- The effect of an edit on application (R103 to R106). -/
def ActTable.apply (t : ActTable) : Edit → ActTable
  | .write first records => t.rewrite first records
  | .mode a mode value => t.setActuator a ((t.actuator a).setMode mode value)
  | .pairAdd p => { t with pairs := t.pairs ++ [p] }
  | .pairDrop a b => { t with pairs := t.pairs.filter (fun p => !p.names a b) }

/-- R99: the table with every edit of the hold applied in hold order. -/
def State.effective (s : State) : ActTable := s.hold.foldl ActTable.apply s.table

/-- R99: the table is in flight, from the stage's begin or a bias send's begin to its end. -/
def State.inFlight (s : State) : Bool := decide (s.stage.phase ≠ .idle) || s.drive.biasSend.isSome

/-- R130: a drive link is enabled when an actuator below N has it. -/
def ActTable.enables (t : ActTable) (l : Nat) : Bool :=
  (List.range t.n).any (fun a => decide ((t.actuator a).link = l))

/-- R130: the state a link takes outside transactions. -/
def State.restState (s : State) (l : Nat) : DriveState :=
  if s.table.enables l then .idle else .disabled

/-- R130: a link in IDLE or DISABLED takes the one that the table gives; other states are kept. -/
def settleLink (l : Nat) (s : State) : State :=
  match (s.driveLink l).state with
  | .idle => s.modifyDriveLink l (fun r => { r with state := s.restState l })
  | .disabled => s.modifyDriveLink l (fun r => { r with state := s.restState l })
  | _ => s

/-- R130, for every link present. -/
def settleLinks (s : State) : State := s.driveLinkList.foldl (fun t l => settleLink l t) s

/-- R100: the held edits are applied in hold order, and the hold is empty. -/
def applyHold (s : State) : State :=
  settleLinks { s with table := s.effective, hold := [] }

end Sys2Proof.Machine
end

