-- ==== Sys2Proof/Machine/Loops.lean ====
section
/-! DEFINITION. Changes of loop state, the run reports, the scan unit's abort and advance, and the bank
controller's swap effects: what several blocks call on. -/

namespace Sys2Proof.Machine

/-! ### Scan unit (R169 to R171) -/

/-- The SCAN_END record (R175). -/
def offerScanEnd (state : ScanState) (cause : EndCause) (frame : Option Frame) (s : State) : State :=
  offer (eventRecord s (.scanEnd state (some cause)) frame s.activeBank) none s

/-- R171: a RUNNING scan becomes ABORTED with its end cause, and offers SCAN_END. -/
def scanAbort (cause : EndCause) (s : State) : State :=
  if s.scan.state = .running then
    offerScanEnd .aborted cause none
      { s with scan := { s.scan with state := .aborted,
                                     run := s.scan.run.map (fun r => { r with endCause := some cause }) } }
  else s

/-- The signed offset of a scan's next poke (R117, R169). -/
def ScanRun.offset (r : ScanRun) : Int :=
  match r.phase with
  | .push => (r.amplitude : Int)
  | .pull => -(r.amplitude : Int)

/-- R170: the end of an actuator: the next actuator, the next cycle, or the end of the scan. -/
def ScanRun.endActuator (r : ScanRun) (poked : Count32) : Scan :=
  if r.actuator < r.high then
    { state := .running, poked := poked,
      run := some { r with actuator := r.actuator + 1, phase := .push, framesLeft := r.dwell } }
  else
    let cycles := r.cyclesDone + 1
    if r.cycles ≠ 0 ∧ cycles.toNat = r.cycles then
      { state := .done, poked := poked, run := some { r with cyclesDone := cycles, endCause := some .complete } }
    else
      { state := .running, poked := poked,
        run := some { r with actuator := r.low, phase := .push, framesLeft := r.dwell,
                             cyclesDone := cycles } }

/-- R169: the position after one advancing frame, which brings the poked frames to a count. -/
def ScanRun.advance (r : ScanRun) (poked : Count32) : Scan :=
  let stepped := { r with framesLeft := r.framesLeft - 1 }
  if 0 < stepped.framesLeft then { state := .running, run := some stepped, poked := poked }
  else
    match r.pattern, r.phase with
    | .pushPull, .push =>
      { state := .running, poked := poked,
        run := some { stepped with phase := .pull, framesLeft := r.dwell } }
    | _, _ => stepped.endActuator poked

/-- R169: the committed frame's poke is the one the scan asks for. -/
def ScanRun.asksFor (r : ScanRun) (poke : Option Poke) : Bool :=
  decide (poke = some { actuator := r.actuator, offset := r.offset })

/-- R169, R170: the scan unit is told of a committed frame and its poke. -/
def scanCommit (frame : Frame) (poke : Option Poke) (s : State) : State :=
  match s.scan.state, s.scan.run with
  | .running, some r =>
    if r.asksFor poke then
      let s1 := { s with scan := r.advance (s.scan.poked + 1) }
      if s1.scan.state = .done then
        offerScanEnd .done .complete (some frame) (raise .scanDone s1)
      else s1
    else s
  | _, _ => s

/-! ### Changes of loop state (R149, R157, R158) -/

/-- R149: the loop enters a state: last transition, and the LOOP_STATE record. -/
def changeLoop (entered : LoopState) (cause : LoopCause) (frame : Option Frame) (s : State) : State :=
  let s1 := { s with loop := { s.loop with state := entered,
                                           lastTransition := some { entered := entered, cause := cause, frame := frame } } }
  offer (eventRecord s1 (.loopState entered cause) frame s1.activeBank) none s1

/-- The three runs become 0. -/
def clearRuns (s : State) : State :=
  { s with loop := { s.loop with missedRun := 0, strokeRun := 0, driveRun := 0 } }

/-- R158: entry to OPEN or CLOSED. -/
def enterTracking (target : Target) (cause : LoopCause) (frame : Option Frame) (s : State) : State :=
  clearRuns (changeLoop (match target with | .opened => .opened | .closed => .closed) cause frame s)

/-- R157: entry to HOLD. -/
def enterHold (cause : LoopCause) (frame : Option Frame) (s : State) : State :=
  let s1 := changeLoop .hold cause frame s
  let s2 := { s1 with loop := { s1.loop with holdEntries := s1.loop.holdEntries + 1,
                                             pendingTransition := none } }
  scanAbort .hold (raise .loopHold s2)

/-- R160: an increased run is compared in OPEN and CLOSED; reaching the threshold enters HOLD. -/
def compareRun (run threshold : Nat) (cause : LoopCause) (frame : Option Frame) (s : State) : State :=
  match s.loop.state with
  | .opened => if threshold ≤ run then enterHold cause frame s else s
  | .closed => if threshold ≤ run then enterHold cause frame s else s
  | _ => s

/-- A saturating run increased by one (R147). -/
def bumpRun (run : Nat) : Nat := if run < 255 then run + 1 else run

/-- R159: a missed frame is reported. -/
def reportMissed (frame : Frame) (s : State) : State :=
  if s.loop.state.running then
    let s1 := { s with loop := { s.loop with missedRun := bumpRun s.loop.missedRun } }
    compareRun s1.loop.missedRun s1.loop.missedThreshold .missedRun (some frame) s1
  else s

/-- R159: a used frame is reported. -/
def reportUsed (s : State) : State :=
  if s.loop.state.running then { s with loop := { s.loop with missedRun := 0 } } else s

/-- R159: a stroke drop is reported. -/
def reportStroke (frame : Frame) (s : State) : State :=
  if s.loop.state.running then
    let s1 := { s with loop := { s.loop with strokeRun := bumpRun s.loop.strokeRun } }
    compareRun s1.loop.strokeRun s1.loop.strokeThreshold .strokeRun (some frame) s1
  else s

/-- R159: a passed pair check is reported. -/
def reportPassed (s : State) : State :=
  if s.loop.state.running then { s with loop := { s.loop with strokeRun := 0 } } else s

/-- R159: a drive failure is reported, with the SHAPE transaction's frame. -/
def reportDrive (frame : Option Frame) (s : State) : State :=
  if s.loop.state.running then
    let s1 := { s with loop := { s.loop with driveRun := bumpRun s.loop.driveRun } }
    compareRun s1.loop.driveRun s1.loop.driveThreshold .driveRun frame s1
  else s

/-- R159: a committed frame is reported. -/
def reportCommitted (s : State) : State :=
  if s.loop.state.running then { s with loop := { s.loop with driveRun := 0 } } else s

/-- R153: a slot with frame g enters COMMAND; a pending transition that is due takes effect. -/
def testScheduled (g : Frame) (s : State) : State :=
  match s.loop.pendingTransition with
  | none => s
  | some p =>
    if g = p.frame ∨ newer g p.frame then
      let s1 := { s with loop := { s.loop with pendingTransition := none } }
      match p.target with
      | .opened =>
        if s1.loop.state = .opened then s1 else enterTracking .opened .scheduledOpen (some g) s1
      | .closed =>
        if s1.loop.state = .closed then s1 else enterTracking .closed .scheduledClose (some g) s1
    else s

/-! ### Swaps (R87 to R92) -/

/-- The SWAP record (R175), with the new ACTIVE bank. -/
def offerSwap (b : Nat) (frame : Option Frame) (s : State) : State :=
  offer (eventRecord s (.swap b) frame (some b)) none s

/-- The bank becomes ACTIVE, and its pending frame is cleared. -/
def activate (b : Nat) (s : State) : State :=
  s.modifyBank b (fun r => { r with state := .active, pendingFrame := none })

/-- R89: whether a pending swap is due when a slot opens for g. -/
def swapDue (at? : Option PendingFrame) (g : Frame) : Bool :=
  match at? with
  | some .next => true
  | some (.frame f) => decide (g = f) || newer g f
  | none => false

/-- R89: a slot is opening for frame g; a swap that is due takes effect. -/
def applySwap (g : Frame) (s : State) : State :=
  match s.pendingBank with
  | none => s
  | some b =>
    if swapDue (s.bank b).pendingFrame g then
      let old := s.activeBank
      let s1 := activate b s
      let s2 :=
        match old with
        | none => s1
        | some o =>
          s1.modifyBank o (fun r => { r with state := if s1.bankNamed o then .retiring else .ready })
      offerSwap b (some g) (raise .swapDone s2)
    else s

/-- R90: a slot that named bank b has become FREE. -/
def releaseBank (b : Nat) (s : State) : State :=
  if (s.bank b).state = .retiring ∧ ¬ s.bankNamed b then
    s.modifyBank b (fun r => { r with state := .ready })
  else s

/-- R91, R92: a PENDING bank returns to READY, and SWAP_CANCELLED is raised. -/
def cancelSwap (s : State) : State :=
  match s.pendingBank with
  | none => s
  | some b =>
    raise .swapCancelled (s.modifyBank b (fun r => { r with state := .ready, pendingFrame := none }))

end Sys2Proof.Machine
end

