-- ==== Sys2Proof/Machine/Assembly.lean ====
section
/-! DEFINITION. The frame assembler: slots opening, closing, being abandoned and becoming FREE, and the
fate of an offered queue head (R34 to R47). -/

namespace Sys2Proof.Machine

/-! ### A slot becomes FREE (R47) -/

/-- R47, R60, R65: the engine's work on slot k ends at once, and is counted as cut. -/
def cutWork (k : Nat) (s : State) : State :=
  match s.engine.work with
  | .segment w =>
    if w.slot = k then
      { s with engine := { s.engine with work := .idle, segmentsCut := s.engine.segmentsCut + 1 } }
    else s
  | .fill w =>
    if w.slot = k then
      { s with engine := { s.engine with work := .idle, passesCut := s.engine.passesCut + 1 } }
    else s
  | .idle => s

/-- R40: every waiting head stops waiting. -/
def releaseHeads (s : State) : State := s.forReceivers (fun r => { r with headWaiting := false })

/-- R47: slot k becomes FREE. -/
def freeSlot (k : Nat) (s : State) : State :=
  if (s.slot k).state = .free then s
  else
    let bank := (s.slot k).bank
    let s1 := cutWork k s
    let s2 := (s1.setSlot k (Slot.reset k)).setImage k none
    releaseHeads (releaseBank bank s2)

/-! ### Closure (R42 to R46) -/

/-- The other assembly slot. -/
def otherSlot (k : Nat) : Nat := 1 - k

/-- R44, R46: slot k is abandoned, and an ABANDONED record is offered. -/
def abandonSlot (k : Nat) (s : State) : State :=
  let r := { slotRecord .abandoned s.loop.state (s.slot k) with closeCause := none }
  offer r none (freeSlot k s)

/-- R45: some REQUIRED sensor has arrival state NONE in the slot. -/
def slotMissed (s : State) (slot : Slot) : Bool :=
  s.slopeLinkList.any (fun n =>
    decide ((s.sensor n).role = .required) && decide (arrivalOf slot.arrivals n = .none))

/-- R45, R46: the MISSED decision for slot k, whose close cause is set. -/
def decideMissed (k : Nat) (s : State) : State :=
  let slot := s.slot k
  if slotMissed s slot then
    reportMissed slot.frame (offer (slotRecord .missed s.loop.state slot) none (freeSlot k s))
  else
    reportUsed (s.modifySlot k (fun r => { r with state := .fill }))

/-- R43: an OPEN slot closes; a slot that is not OPEN is not closed again (R42). -/
def closeSlot (k : Nat) (cause : CloseCause) (s : State) : State :=
  if (s.slot k).state = .opened then
    let f := (s.slot k).frame
    let s1 := s.modifySlot k (fun r => { r with closeCause := some cause, deadline := none })
    let s2 := { s1 with lastClosed := some f }
    let o := s2.slot (otherSlot k)
    let s3 :=
      if o.state = .opened ∧ older o.frame f then abandonSlot (otherSlot k) s2 else s2
    decideMissed k s3
  else s

/-- R42: every REQUIRED or OPTIONAL sensor present is COMPLETE in the slot. -/
def allComplete (s : State) (slot : Slot) : Bool :=
  s.slopeLinkList.all (fun n =>
    decide ((s.sensor n).role = .ignored) || decide (arrivalOf slot.arrivals n = .complete))

/-- R40: the oldest OPEN slot, if any. -/
def oldestOpen (s : State) : Option Nat :=
  let a := s.slot 0
  let b := s.slot 1
  if a.state = .opened then
    if b.state = .opened then
      if newer b.frame a.frame then some 0
      else if newer a.frame b.frame then some 1
      else if Config.oldestIsSlotZero a.frame b.frame then some 0 else some 1
    else some 0
  else if b.state = .opened then some 1 else none

/-! ### Placing a queue head (R36 to R41) -/

/-- R37: a head of frame f is late. -/
def headLate (s : State) (f : Frame) : Bool :=
  (match s.lastClosed with
    | none => false
    | some l => !newer f l) ||
  [0, 1].any (fun k =>
    decide ((s.slot k).frame = f) &&
      (decide ((s.slot k).state = .fill) || decide ((s.slot k).state = .ready) ||
        decide ((s.slot k).state = .command)))

/-- R36 step 3: the slot that is OPEN with frame f. -/
def slotOpenFor (s : State) (f : Frame) : Option Nat :=
  [0, 1].find? (fun k => decide ((s.slot k).state = .opened) && decide ((s.slot k).frame = f))

/-- R36 step 4: a FREE slot, slot 0 first. -/
def slotFree (s : State) : Option Nat :=
  [0, 1].find? (fun k => decide ((s.slot k).state = .free))

/-- R38, R178: slot k opens for frame f, after a swap that is due has been applied. -/
def openSlot (k : Nat) (f : Frame) (s : State) : State :=
  let s1 := applySwap f s
  let slot := { Slot.reset k with state := .opened, frame := f, bank := s1.activeBank.getD 0,
                                  openedAt := s1.now, deadline := some s1.loop.deadline }
  (s1.setSlot k slot).setImage k (if s1.port.features.capture then some [] else none)

/-- Removes the head of a queue; the next segment becomes the head (R11). -/
def popHead (n : Nat) (s : State) : State :=
  s.modifyReceiver n (fun r => { r with queue := r.queue.tail, headWaiting := false })

/-- R41: the arrival state after an accepted segment. -/
def nextArrival (a : Arrival) (last : Bool) : Arrival :=
  if a = .complete ∨ last then .complete else .partly

/-- The mapped columns of a segment, slope by slope (R39). -/
def segmentColumns (entries : List MapEntry) (seg : Segment) : List Nat :=
  (List.range seg.count).flatMap (fun i => slopeColumns entries seg.sensor (seg.first + i))

/-- R27, R52, R56: the segment's work begins in slot k: the marks are set, and the sensor's scale and
reference table are those of this moment (R25). -/
def beginSegment (k n : Nat) (seg : Segment) (s : State) : State :=
  let slot := s.slot k
  let s1 := s.setSlot k { slot with mixed := slot.mixed || slot.changed.contains seg.sensor,
                                    conditioned := NatSet.add slot.conditioned seg.sensor }
  let w : SegmentWork :=
    { slot := k, link := n, frame := seg.frame, first := seg.first, count := seg.count, worked := 0,
      rest := seg.slopes, scale := (s.sensor seg.sensor).scale, refs := (s.sensor seg.sensor).refs }
  { s1 with engine := { s1.engine with work := .segment w } }

/-- R39, R41, R42: a segment is accepted into slot k: its columns join the coverage set, the arrival
state is updated, and a change of it is followed by the ALL_COMPLETE test. -/
def acceptSegment (k n : Nat) (seg : Segment) (s : State) : State :=
  let slot := s.slot k
  let before := arrivalOf slot.arrivals n
  let after := nextArrival before seg.last
  let s1 := s.setSlot k { slot with
    coverage := NatSet.addAll slot.coverage (segmentColumns s.slopeMap seg)
    arrivals := Table.set noArrival slot.arrivals n after }
  let s2 :=
    if before ≠ after ∧ allComplete s1 (s1.slot k) then closeSlot k .allComplete s1 else s1
  if (s2.slot k).state = .free then s2 else beginSegment k n seg s2

/-- R39: a head placed in slot k is a duplicate, or is accepted. -/
def placeHead (k n : Nat) (seg : Segment) (s : State) : State :=
  let s1 := popHead n s
  if (segmentColumns s.slopeMap seg).any (fun j => (s.slot k).coverage.contains j) then
    s1.modifyReceiver n (fun r => { r with duplicate := r.duplicate + 1 })
  else acceptSegment k n seg s1

/-- R40: the head of link n finds no slot: it waits, and the oldest OPEN slot is displaced. -/
def waitHead (n : Nat) (s : State) : State :=
  let s1 := s.modifyReceiver n (fun r => { r with headWaiting := true })
  match oldestOpen s1 with
  | some k => closeSlot k .displaced s1
  | none => s1

/-- R36: the fate of the head of link n. -/
def decideHead (n : Nat) (seg : Segment) (s : State) : State :=
  if (s.sensor n).role = .ignored then popHead n s
  else if headLate s seg.frame then
    (popHead n s).modifyReceiver n (fun r => { r with late := r.late + 1 })
  else
    match slotOpenFor s seg.frame with
    | some k => placeHead k n seg s
    | none =>
      match slotFree s with
      | some k => placeHead k n seg (openSlot k seg.frame s)
      | none => waitHead n s

end Sys2Proof.Machine
end

