-- ==== Sys2Proof/Machine/EngineOps.lean ====
section
/-! DEFINITION. The reconstruction engine: the arbiter's choices, the work of one slope, the fill-in of
one column, and the residuals (R53 to R65). -/

namespace Sys2Proof.Machine

/-! ### The arbiter (R53, R54) -/

/-- R54 step 1: the earliest-closed of the slots in FILL. Frames close in increasing order (R43), so of
two slots in FILL the one whose frame the other's is newer than closed first (log 19). -/
def fillCandidate (s : State) : Option Nat :=
  let a := s.slot 0
  let b := s.slot 1
  if a.state = .fill then
    if b.state = .fill ∧ newer a.frame b.frame then some 1 else some 0
  else if b.state = .fill then some 1 else none

/-- R61: the role of each sensor present in the variant, sensor 0 first. -/
def sensorRoles (s : State) : List Role := s.slopeLinkList.map (fun n => (s.sensor n).role)

/-- R61: the fill-in pass of slot k begins, with SUBSTITUTE and the roles as they stand. -/
def beginFill (k : Nat) (s : State) : State :=
  let w : FillWork := { slot := k, frame := (s.slot k).frame, substitute := s.port.features.substitute,
                        roles := sensorRoles s, position := 0 }
  { s with engine := { s.engine with work := .fill w } }

/-- R54 step 2: the links in round-robin order, from the one after the last link served. -/
def linkOrder (s : State) : List Nat :=
  let links := Config.slopeLinks s.variant
  let start :=
    match s.engine.lastServed with
    | none => 0
    | some n => n + 1
  (List.range links).map (fun i => (start + i) % links)

/-- R54 step 2: the first link in that order whose queue has a head that does not wait. -/
def linkCandidate (s : State) : Option Nat :=
  (linkOrder s).find? (fun n => !(s.receiver n).queue.isEmpty && !(s.receiver n).headWaiting)

/-- R54, R55: the head of link n is offered, and the link becomes the last served. -/
def offerHead (n : Nat) (s : State) : State :=
  let s1 := { s with engine := { s.engine with lastServed := some n } }
  match (s1.receiver n).queue with
  | [] => s1
  | seg :: _ => decideHead n seg s1

/-- R53: choices are made while the engine is IDLE and there is something to choose. `fuel` bounds the
number of choices. -/
def arbitrate (fuel : Nat) (s : State) : State :=
  match fuel with
  | 0 => s
  | more + 1 =>
    if s.engine.work = .idle ∧ s.loop.state.running then
      match fillCandidate s with
      | some k => beginFill k s
      | none =>
        match linkCandidate s with
        | some n => arbitrate more (offerHead n s)
        | none => s
    else s

/-- Choices enough for every queued head to be discarded, and for every head to wait again after each
of the two slots was displaced. -/
def arbiterFuel (s : State) : Nat :=
  (s.slopeLinkList.map (fun n => (s.receiver n).queue.length)).sum + 16

/-- R53: the arbiter acts until the engine is busy or there is nothing to choose. -/
def arbiter (s : State) : State := arbitrate (arbiterFuel s) s

/-! ### Products (R56 to R59) -/

/-- R58: an uncorrectable read of a column: the slot is DEGRADED, the bank's error count increases and
MATRIX_ERROR is raised. -/
def uncorrectableRead (k : Nat) (s : State) : State :=
  let b := (s.slot k).bank
  raise .matrixError
    ((s.modifySlot k (fun r => { r with degraded := true })).modifyBank b
      (fun r => { r with errorCount := r.errorCount + 1 }))

/-- Adds v times a column's coefficients to the accumulators, row by row. -/
def accumulate (acc : Table Int) (v : Int) (row : Nat) : List Int → Table Int
  | [] => acc
  | m :: ms => accumulate (Table.set zeroes acc row (Table.get zeroes acc row + m * v)) v (row + 1) ms

/-- The row count of a bank; 0 where it has none. -/
def State.bankRows (s : State) (b : Nat) : Nat := (s.bank b).rows.getD 0

/-- R56 step 3, R62 step 3: column j with value v is added to slot k's accumulators; a value of 0 reads
nothing. -/
def addColumn (k j : Nat) (v : Int) (uncorrectable : Bool) (s : State) : State :=
  if v = 0 then s
  else if uncorrectable then uncorrectableRead k s
  else
    let b := (s.slot k).bank
    s.modifySlot k (fun r => { r with acc := accumulate r.acc v 0 (s.column b j (s.bankRows b)) })

/-- R178: the frame image of slot k, where present, takes a value for a column. -/
def writeImage (k j : Nat) (v : Int) (s : State) : State :=
  match s.telem.image k with
  | none => s
  | some i => s.setImage k (some (Table.set zeroes i j v))

/-! ### Segment work (R25, R26, R56) -/

/-- R26: the conditioned value of a valid slope before saturation. -/
def conditionRaw (slope ref : Int) (scale : Nat) : Int := roundDiv ((slope - ref) * scale) 16384

/-- R26: the conditioned value of a valid slope. -/
def condition (slope ref : Int) (scale : Nat) : Int :=
  saturate (-32767) 32767 (conditionRaw slope ref scale)

/-- R26: saturation acted on the slope. -/
def conditionSaturated (slope ref : Int) (scale : Nat) : Bool :=
  saturated (-32767) 32767 (conditionRaw slope ref scale)

/-- The invalid marker (R26). -/
def invalidMarker : Int := -32768

/-- R26, R56: a valid slope with conditioned value c at one of its columns. -/
def workColumn (k : Nat) (c : Int) (uncorrectable : List Nat) (s : State) (j : Nat) : State :=
  let s1 := writeImage k j c { s with store := Table.set zeroes s.store j c }
  addColumn k j c (uncorrectable.contains j) s1

/-- R26: one slope of slot k with its columns. -/
def workSlope (k : Nat) (slope ref : Int) (scale : Nat) (columns uncorrectable : List Nat)
    (s : State) : State :=
  if slope = invalidMarker then
    columns.foldl (fun t j => writeImage k j 0 t)
      (s.modifySlot k (fun r => { r with invalid := r.invalid + columns.length }))
  else
    let added := if conditionSaturated slope ref scale then columns.length else 0
    columns.foldl (workColumn k (condition slope ref scale) uncorrectable)
      (s.modifySlot k (fun r => { r with saturated := r.saturated + added }))

/-- R56: the item ends when its last slope has been worked. -/
def segmentStep (w : SegmentWork) (rest : List Int) (s : State) : State :=
  match rest with
  | [] =>
    { s with engine := { s.engine with work := .idle, segmentsDone := s.engine.segmentsDone + 1 } }
  | _ :: _ =>
    { s with engine := { s.engine with work := .segment { w with worked := w.worked + 1, rest := rest } } }

/-! ### The fill-in pass (R61, R62) -/

/-- R61: the columns a pass visits, entries in list order, those of sensors that were IGNORED at its start
passed over. -/
def fillColumns (entries : List MapEntry) (roles : List Role) : List Nat :=
  (entries.filter (fun e => decide (roles[e.sensor]? ≠ some .ignored))).flatMap entryColumns

/-- The next uncovered column of a pass, with the number of columns visited once it has been. -/
def nextUncovered (coverage : NatSet) (visited : Nat) : List Nat → Option (Nat × Nat)
  | [] => none
  | j :: js => if coverage.contains j then nextUncovered coverage (visited + 1) js else some (j, visited + 1)

/-- R61: where the pass stands: its next uncovered column. -/
def State.fillNext (s : State) (w : FillWork) : Option (Nat × Nat) :=
  nextUncovered (s.slot w.slot).coverage w.position
    ((fillColumns s.slopeMap w.roles).drop w.position)

/-- R32, R62 step 1: the value given to column j. -/
def fillValue (s : State) (substitute : Substitute) (j : Nat) : Int :=
  match substitute with
  | .holdLast => Table.get zeroes s.store j
  | .zero => 0

/-- R62: column j of the pass is filled in. -/
def fillColumn (w : FillWork) (j : Nat) (uncorrectable : Bool) (s : State) : State :=
  let v := fillValue s w.substitute j
  let s1 := s.modifySlot w.slot (fun r => { r with substituted := r.substituted + 1 })
  addColumn w.slot j v uncorrectable (writeImage w.slot j v s1)

/-! ### Residuals (R63, R64) -/

/-- R63: the residual of an accumulator under shift S. -/
def residual (acc : Int) (shift : Nat) : Int :=
  saturate (-8388608) 8388607 (roundDiv acc (2 ^ shift))

/-- R63: the residuals of rows 0..R-1. -/
def residuals (acc : Table Int) (rows shift : Nat) : List Int :=
  (Table.getList zeroes acc 0 rows).map (fun a => residual a shift)

/-- R64: the largest magnitude and the lowest row where it occurs, from row `row` on. -/
def peakFrom (best : Nat × Nat) (row : Nat) : List Int → Nat × Nat
  | [] => best
  | r :: rs => peakFrom (if best.1 < r.natAbs then (r.natAbs, row) else best) (row + 1) rs

/-- R64: the peak residual and its actuator; all residuals 0 give 0 at actuator 0. -/
def peakOf (rs : List Int) : Nat × Nat := peakFrom (0, 0) 0 rs

/-- R63 to R65: the pass of slot k ends with the slot in READY and its residuals in place. -/
def finishPass (k : Nat) (s : State) : State :=
  let slot := s.slot k
  let rs := residuals slot.acc (s.bankRows slot.bank) (((s.bank slot.bank).shift).getD 0)
  let s1 := s.setSlot k { slot with state := .ready, acc := Table.setList zeroes slot.acc 0 rs,
                                    peak := some (peakOf rs) }
  { s1 with engine := { s1.engine with work := .idle, passesDone := s1.engine.passesDone + 1 } }

end Sys2Proof.Machine
end

