-- ==== Sys2Proof/Machine/StageOps.lean ====
section
/-! DEFINITION. The command stage: beginning a frame, the staged shape, the pair check, commit, drop,
the HOLD path and abandonment (R48, R110 to R125). -/

namespace Sys2Proof.Machine

/-! ### The integrator and the outputs (R113 to R117) -/

/-- R113: the leak of an actuator at x with bias b and leak l. -/
def leakTerm (x bias leak : Nat) : Int :=
  roundDiv (((x : Int) - 256 * (bias : Int)) * (65536 - (leak : Int))) 65536

/-- R114: the gain term of a residual. -/
def gainTerm (gain : Nat) (r : Int) : Int := roundDiv ((gain : Int) * r) 4096

/-- R114: the exact sum of bias, leak and gain terms. -/
def integratorSum (rec : Actuator) (g : Gain) (r : Int) : Int :=
  256 * (rec.bias : Int) + leakTerm rec.x rec.bias g.leak + gainTerm g.gain r

/-- R112: the actuator is integrated on the path of this loop state. -/
def integrated (loopRead : LoopState) (rec : Actuator) : Bool :=
  decide (rec.mode = .loop) && decide (loopRead = .closed)

/-- R114, R115: the staged integrator state. -/
def stagedState (loopRead : LoopState) (rec : Actuator) (g : Gain) (r : Int) : Nat :=
  if integrated loopRead rec then
    (saturate (256 * (rec.lo : Int)) (256 * (rec.hi : Int)) (integratorSum rec g r)).toNat
  else rec.x

/-- R114: the actuator counts in the clamp count. -/
def stagedClamped (loopRead : LoopState) (rec : Actuator) (g : Gain) (r : Int) : Bool :=
  integrated loopRead rec &&
    saturated (256 * (rec.lo : Int)) (256 * (rec.hi : Int)) (integratorSum rec g r)

/-- R116: the output of a staged state. -/
def outputOf (x : Nat) : Nat := (roundDiv (x : Int) 256).toNat

/-- R117: the output of actuator a with the frame's poke applied. -/
def pokedOutput (rec : Actuator) (a o : Nat) : Option Poke → Nat
  | none => o
  | some p =>
    if p.actuator = a then (saturate (rec.lo : Int) (rec.hi : Int) ((o : Int) + p.offset)).toNat else o

/-- The record of actuator a as the stage read it. -/
def StageFrame.actuator (w : StageFrame) (a : Nat) : Actuator := Table.get Actuator.reset w.records a

/-- The gain set of actuator a as the stage read it. -/
def StageFrame.gainOf (w : StageFrame) (a : Nat) : Gain :=
  Table.get Gain.reset w.gains (w.actuator a).gainSet

/-- The staged state of actuator a from the slot's residuals. -/
def StageFrame.stateOf (w : StageFrame) (acc : Table Int) (a : Nat) : Nat :=
  stagedState w.loopRead (w.actuator a) (w.gainOf a) (Table.get zeroes acc a)

/-- The output of actuator a, poke included. -/
def StageFrame.outputFor (w : StageFrame) (acc : Table Int) (a : Nat) : Nat :=
  pokedOutput (w.actuator a) a (outputOf (w.stateOf acc a)) w.poke

/-- R113 to R117: the staged shape. -/
def buildShape (w : StageFrame) (acc : Table Int) : Shape :=
  { states := (List.range w.n).map (fun a => w.stateOf acc a)
    outputs := (List.range w.n).map (fun a => w.outputFor acc a)
    clamp := ((List.range w.n).filter (fun a =>
      stagedClamped w.loopRead (w.actuator a) (w.gainOf a) (Table.get zeroes acc a))).length }

/-! ### The pair check (R118) -/

/-- |o_a - o_b|. -/
def outputGap (outputs : List Nat) (a b : Nat) : Nat :=
  ((outputs.getD a 0 : Int) - (outputs.getD b 0 : Int)).natAbs

/-- R118: the entry is violated. -/
def Pair.violated (p : Pair) (outputs : List Nat) : Bool :=
  decide (p.dmax < outputGap outputs p.a p.b)

/-- R118: the number of violated entries. -/
def violatedCount (pairs : List Pair) (outputs : List Nat) : Nat :=
  (pairs.filter (fun p => p.violated outputs)).length

/-- R118: the first violated entry: its list position and its two actuators. -/
def firstViolated (outputs : List Nat) (position : Nat) : List Pair → Option (Nat × Nat × Nat)
  | [] => none
  | p :: ps => if p.violated outputs then some (position, p.a, p.b) else firstViolated outputs (position + 1) ps

/-! ### Beginning and ending a frame -/

/-- The stage's work on its frame ends: held edits, IDLE, slot FREE (R119, R121, R122, R123). -/
def endStage (slot : Nat) (s : State) : State :=
  let s1 := applyHold s
  freeSlot slot { s1 with stage := { s1.stage with phase := .idle } }

/-- R111 step 5: the poke of a frame whose stage begins now. -/
def readPoke (s : State) : Option Poke :=
  match s.scan.state, s.scan.run with
  | .running, some r => some { actuator := r.actuator, offset := r.offset }
  | _, _ => none

/-- R111 steps 2 to 6: the stage reads what it uses for the whole frame and becomes BUILDING. -/
def beginBuilding (k : Nat) (s : State) : State :=
  let w : StageFrame :=
    { slot := k, frame := (s.slot k).frame, loopRead := s.loop.state, n := s.table.n,
      records := s.table.records, gains := s.gains, pairs := s.table.pairs, poke := readPoke s }
  { s with stage := { s.stage with phase := .building w } }

/-- R123: the HOLD path. -/
def holdPath (k : Nat) (s : State) : State :=
  let s1 := offer (slotRecord .held .hold (s.slot k)) none s
  endStage k { s1 with stage := { s1.stage with held := s1.stage.held + 1 } }

/-- R48, R111, R112: slot k enters COMMAND, and the stage begins its frame. -/
def enterCommand (k : Nat) (s : State) : State :=
  let s1 := s.modifySlot k (fun r => { r with state := .command })
  let s2 := testScheduled (s1.slot k).frame s1
  match s2.loop.state with
  | .hold => holdPath k s2
  | _ => beginBuilding k s2

/-- R48: a READY slot that enters COMMAND now: no slot is in COMMAND. Of two, the older frame first. -/
def readyCandidate (s : State) : Option Nat :=
  let a := s.slot 0
  let b := s.slot 1
  if a.state = .command ∨ b.state = .command then none
  else if a.state = .ready then
    if b.state = .ready ∧ newer a.frame b.frame then some 1 else some 0
  else if b.state = .ready then some 1 else none

/-- R48: READY slots enter COMMAND while none is in COMMAND and the stage is IDLE; a frame on the HOLD
path ends at once, so that the other slot may follow. -/
def enterCommands (fuel : Nat) (s : State) : State :=
  match fuel with
  | 0 => s
  | more + 1 =>
    if s.loop.state.running ∧ s.stage.phase = .idle then
      match readyCandidate s with
      | some k => enterCommands more (enterCommand k s)
      | none => s
    else s

/-- What follows at once when slots, heads or the engine were freed: a READY slot enters COMMAND (R48),
and then the arbiter acts (R53). The order is the model's (log 15). -/
def settle (s : State) : State := arbiter (enterCommands 2 s)

/-! ### Commit, drop, abandonment -/

/-- R119, R121, R122, R126: the frame's record with its clamp count and poke. -/
def stageRecord (kind : RecordKind) (w : StageFrame) (clamp : Nat) (s : State) : Record :=
  { slotRecord kind w.loopRead (s.slot w.slot) with clamp := clamp, poke := w.poke }

/-- R119: the frame violates one or more pairs and is dropped with reason STROKE. -/
def strokeDrop (w : StageFrame) (shape : Shape) (s : State) : State :=
  let r := { stageRecord .droppedStroke w shape.clamp s with
    violated := violatedCount w.pairs shape.outputs
    firstViolated := firstViolated shape.outputs 0 w.pairs }
  let s1 := offer r none s
  let s2 := { s1 with stage := { s1.stage with droppedStroke := s1.stage.droppedStroke + 1 } }
  endStage w.slot (reportStroke w.frame s2)

/-- R120: a passing shape is handed to the drive links as a SHAPE transaction request. -/
def handOver (w : StageFrame) (shape : Shape) (s : State) : State :=
  let s1 := reportPassed s
  { s1 with
    stage := { s1.stage with phase := .sending w shape }
    drive := { s1.drive with
      request := some { kind := .shape, frame := some w.frame, values := shape.outputs } } }

/-- Writes x and the last committed output of consecutive actuators (R121 steps 1 and 2). -/
def ActTable.commit (t : ActTable) (a : Nat) : List Nat → List Nat → ActTable
  | x :: xs, o :: os =>
    ActTable.commit (t.setActuator a { t.actuator a with x := x, lastOutput := o }) (a + 1) xs os
  | _, _ => t

/-- R179: the copy of a committed frame, where CAPTURE is on and its image is present: values whose
read is uncorrectable are 0. -/
def captureCopy (w : StageFrame) (shape : Shape) (uncorrectable : List Nat) (s : State) :
    Option CaptureCopy :=
  match s.port.features.capture, s.telem.image w.slot with
  | true, some image =>
    let c := ((s.bank (s.slot w.slot).bank).columns).getD 0
    let hit := uncorrectable.filter (fun j => decide (j < c))
    some { capture := { frame := w.frame, columns := c, n := w.n,
                        slopes := hit.foldl (fun t j => Table.set zeroes t j 0) image,
                        outputs := shape.outputs }
           damaged := !hit.isEmpty }
  | _, _ => none

/-- R126: a committed frame that carried a poke makes a SCAN record, any other a COMMITTED record. -/
def committedKind (w : StageFrame) : RecordKind := if w.poke.isSome then .scan else .committed

/-- R121: the update pulse commits the frame in SENDING. -/
def commitFrame (uncorrectable : List Nat) (s : State) : State :=
  match s.stage.phase with
  | .sending w shape =>
    let s1 := { s with table := s.table.commit 0 shape.states shape.outputs }
    let s2 := scanCommit w.frame w.poke (reportCommitted s1)
    let s3 := offer (stageRecord (committedKind w) w shape.clamp s2)
      (captureCopy w shape uncorrectable s2) s2
    let s4 := { s3 with stage := { s3.stage with committed := s3.stage.committed + 1 } }
    endStage w.slot s4
  | _ => s

/-- Why a transaction is dropped (R134, R138). -/
inductive DropReason where
  | refusedCrc
  | refusedLength
  | refusedChannel
  | replyTimeout
  | lineStuck
  | faultReport
deriving DecidableEq, Repr

/-- R134: the drop is reported to the loop controller as a drive failure. -/
def DropReason.isFailure : DropReason → Bool
  | .refusedCrc => true
  | .refusedLength => true
  | .replyTimeout => true
  | .refusedChannel => false
  | .lineStuck => false
  | .faultReport => false

/-- R122: the stage in SENDING takes the drop of its transaction. -/
def driveDrop (reason : DropReason) (s : State) : State :=
  match s.stage.phase with
  | .sending w shape =>
    let s1 := offer (stageRecord .droppedDrive w shape.clamp s) none s
    let s2 := { s1 with stage := { s1.stage with droppedDrive := s1.stage.droppedDrive + 1 } }
    let s3 := if reason.isFailure then reportDrive (some w.frame) s2 else s2
    endStage w.slot s3
  | _ => s

/-- R125: entry to STOPPED or SAFE abandons the stage; its slot is freed by the entry. -/
def abandonStage (s : State) : State :=
  match s.stage.phase with
  | .idle => s
  | _ =>
    let s1 := applyHold { s with stage := { s.stage with cut := s.stage.cut + 1 } }
    { s1 with stage := { s1.stage with phase := .idle } }

end Sys2Proof.Machine
end

