-- ==== Sys2Proof/Machine/DriveOps.lean ====
section
/-! DEFINITION. The drive-link transaction: beginning, line check, LOAD, drop, update pulse, end, and
the bias send (R130 to R141). -/

namespace Sys2Proof.Machine

/-! ### Beginning a transaction (R131 to R133) -/

/-- R131: a link in LOADING, LOADED or APPLYING makes a request wait. -/
def DriveState.busy : DriveState → Bool
  | .loading => true
  | .loaded => true
  | .applying => true
  | .disabled => false
  | .idle => false
  | .recovering => false
  | .faulted => false

/-- R131: some link is LOADING, LOADED or APPLYING. -/
def linksBusy (s : State) : Bool := s.driveLinkList.any (fun l => (s.driveLink l).state.busy)

/-- The enabled links (R130). -/
def enabledLinks (s : State) : List Nat := s.driveLinkList.filter (fun l => s.table.enables l)

/-- R131 step 3: the enabled links that are not FAULTED as the transaction begins. A link reset while a bias
send's transaction still waits to begin is among them, by the model's choice (log 39). -/
def participants (s : State) : List Nat :=
  (enabledLinks s).filter (fun l => decide ((s.driveLink l).state ≠ .faulted))

/-- The actuator below N that uses channel c of link l (R95: at most one). -/
def channelUser (t : ActTable) (l c : Nat) : Option Nat :=
  (List.range t.n).find? (fun a =>
    decide ((t.actuator a).link = l) && decide ((t.actuator a).channel = c))

/-- R131 step 4: the values of channels 0..M-1 of link l. -/
def channelValues (t : ActTable) (values : List Nat) (l m park : Nat) : List Nat :=
  (List.range m).map (fun c =>
    match channelUser t l c with
    | some a => values.getD a park
    | none => park)

/-- R131: what the transaction reads of a participating link. -/
def txLink (s : State) (values : List Nat) (l : Nat) : TxLink :=
  let r := s.driveLink l
  { link := l, values := channelValues s.table values l r.channels r.park,
    replyTimeout := r.replyTimeout, applyTimeout := r.applyTimeout, recoveryWindow := r.recoveryWindow }

/-- The transaction as its links hold it (R129). -/
def Transaction.ref (tx : Transaction) : TxRef := { number := tx.number, kind := tx.kind, frame := tx.frame }

/-- The kind byte of a LOAD frame (R204). -/
def TxKind.loadByte : TxKind → Nat
  | .shape => 1
  | .bias => 2

/-- R133, R204: the LOAD frame of a participating link. -/
def Transaction.loadBytes (tx : Transaction) (p : TxLink) : List Byte :=
  loadFrame tx.kind.loadByte tx.number tx.frame p.values

/-- R133: the link sends its LOAD. -/
def sendLoad (tx : Transaction) (p : TxLink) (s : State) : State :=
  s.modifyDriveLink p.link (fun r =>
    { r with state := .loading, status := .loadSent, loads := r.loads + 1,
             timer := some (.reply p.replyTimeout), forward := .load (tx.loadBytes p) })

/-- R132: the return line is not idle: resync burst, RECOVERING, recovery window. -/
def sendResync (p : TxLink) (s : State) : State :=
  s.modifyDriveLink p.link (fun r =>
    { r with state := .recovering, forward := .resync, timer := some (.recovery p.recoveryWindow) })

/-- R131 steps 3 and 5: a participating link takes the transaction and makes its line check. -/
def startLink (tx : Transaction) (idle : Nat → Bool) (s : State) (p : TxLink) : State :=
  let s1 := s.modifyDriveLink p.link (fun r => { r with outstanding := some tx.ref })
  if idle p.link then sendLoad tx p s1 else sendResync p s1

/-! ### The end of a transaction (R137, R141) -/

/-- R137: the states in which a link keeps its transaction from ending. -/
def DriveState.inTransaction : DriveState → Bool
  | .loading => true
  | .loaded => true
  | .applying => true
  | .recovering => true
  | .disabled => false
  | .idle => false
  | .faulted => false

/-- R141: whether a bias send's end confirms the bias shape. -/
def biasConfirmed (tx : Transaction) (s : State) : Bool :=
  if tx.links.isEmpty then (enabledLinks s).isEmpty
  else tx.pulsed && (enabledLinks s).all (fun l => tx.applied.contains l)

/-- R141: the bias send ends: safe_confirmed, and the edits held during it. -/
def endBiasSend (tx : Transaction) (s : State) : State :=
  let s1 := { s with loop := { s.loop with safeConfirmed := biasConfirmed tx s } }
  applyHold { s1 with drive := { s1.drive with biasSend := none } }

/-- R137: the links' outstanding transaction becomes absent. -/
def clearOutstanding (s : State) (p : TxLink) : State :=
  s.modifyDriveLink p.link (fun r => { r with outstanding := none })

/-- R137, R141: the current transaction ends; with it a bias send. -/
def endTransaction (tx : Transaction) (s : State) : State :=
  let s1 := tx.links.foldl clearOutstanding s
  let s2 := { s1 with drive := { s1.drive with current := none } }
  match tx.kind with
  | .shape => s2
  | .bias => endBiasSend tx s2

/-- R137: the current transaction ends when none of its links is still in it. -/
def checkEnd (s : State) : State :=
  match s.drive.current with
  | none => s
  | some tx =>
    if tx.links.any (fun p => (s.driveLink p.link).state.inTransaction) then s else endTransaction tx s

/-- R131: a requested transaction begins. -/
def beginTransaction (request : TxRequest) (idle : Nat → Bool) (s : State) : State :=
  let number := s.drive.number + 1
  let links := (participants s).map (txLink s request.values)
  let tx : Transaction :=
    { number := number, kind := request.kind, frame := request.frame, links := links, pulsed := false,
      dropped := false, timeoutReported := false, applied := [] }
  let s1 := { s with drive := { s.drive with number := number, current := some tx, request := none } }
  checkEnd (links.foldl (startLink tx idle) s1)

/-! ### Drop and abandonment before the pulse (R134, R139) -/

/-- R134: what a drop does to a participating link. -/
def releaseLink (s : State) (p : TxLink) : State :=
  match (s.driveLink p.link).state with
  | .loaded => s.modifyDriveLink p.link (fun r => { r with state := s.restState p.link })
  | .recovering =>
    s.modifyDriveLink p.link (fun r => { r with state := s.restState p.link, timer := none })
  | _ => s

/-- R134, R139: the transaction is marked as one without a pulse, and its links are released. -/
def releaseTransaction (tx : Transaction) (s : State) : State :=
  tx.links.foldl releaseLink
    { s with drive := { s.drive with current := some { tx with dropped := true } } }

/-- R134: the current transaction is dropped before its pulse, unless it is past it or already dropped. -/
def dropTransaction (reason : DropReason) (s : State) : State :=
  match s.drive.current with
  | none => s
  | some tx =>
    if tx.pulsed || tx.dropped then s
    else
      let s1 := releaseTransaction tx s
      match tx.kind with
      | .shape => checkEnd (driveDrop reason s1)
      | .bias => checkEnd s1

/-- R131, R139: the loop enters STOPPED or SAFE: a SHAPE request is withdrawn, and a SHAPE transaction
before its pulse is abandoned. -/
def abandonShape (s : State) : State :=
  let s1 :=
    match s.drive.request with
    | some r => if r.kind = TxKind.shape then { s with drive := { s.drive with request := none } } else s
    | none => s
  match s1.drive.current with
  | none => s1
  | some tx =>
    if tx.kind = TxKind.shape ∧ tx.pulsed = false ∧ tx.dropped = false then checkEnd (releaseTransaction tx s1)
    else s1

/-! ### The update pulse (R136) -/

/-- R136: a participating link becomes APPLYING. -/
def applyLink (s : State) (p : TxLink) : State :=
  s.modifyDriveLink p.link (fun r =>
    { r with state := .applying, timer := some (.apply p.applyTimeout) })

/-- R141: the last committed outputs of actuators 0..N-1 become their biases. -/
def ActTable.biasOutputs (t : ActTable) (a : Nat) : List Nat → ActTable
  | [] => t
  | b :: bs => ActTable.biasOutputs (t.setActuator a { t.actuator a with lastOutput := b }) (a + 1) bs

/-- R141: the bias send takes its pulse. -/
def pulseBias (s : State) : State :=
  match s.drive.biasSend with
  | none => s
  | some b => { s with table := s.table.biasOutputs 0 b.biases }

/-- R136: the update line pulses for the current transaction. -/
def updatePulse (tx : Transaction) (uncorrectable : List Nat) (s : State) : State :=
  let s1 := { s with drive := { s.drive with
    updateLine := .pulsing, pulses := s.drive.pulses + 1, current := some { tx with pulsed := true } } }
  let s2 := tx.links.foldl applyLink s1
  let s3 :=
    match tx.kind with
    | .shape => commitFrame uncorrectable s2
    | .bias => pulseBias s2
  { s3 with drive := { s3.drive with updateLine := .atRest } }

/-- R136: the pulse comes when every participating link is LOADED. -/
def pulseIfLoaded (uncorrectable : List Nat) (s : State) : State :=
  match s.drive.current with
  | none => s
  | some tx =>
    if !tx.pulsed && !tx.dropped && !tx.links.isEmpty &&
        tx.links.all (fun p => decide ((s.driveLink p.link).state = .loaded)) then
      updatePulse tx uncorrectable s
    else s

/-! ### The bias send (R140) -/

/-- R140 step 2: x of actuators a, a+1, … becomes 256 times the bias. -/
def ActTable.biasStates (t : ActTable) (a : Nat) : List Nat → ActTable
  | [] => t
  | b :: bs => ActTable.biasStates (t.setActuator a { t.actuator a with x := 256 * b }) (a + 1) bs

/-- The biases of actuators 0..N-1. -/
def ActTable.biases (t : ActTable) : List Nat := (List.range t.n).map (fun a => (t.actuator a).bias)

/-- R140: a bias send begins. -/
def beginBiasSend (s : State) : State :=
  let biases := s.table.biases
  { s with
    table := s.table.biasStates 0 biases
    loop := { s.loop with safeConfirmed := false }
    drive := { s.drive with
      biasSend := some { biases := biases }
      request := some { kind := .bias, frame := none, values := biases } } }

/-! ### Replies (R135) -/

/-- R135: the link is LOADING and the number is that of its outstanding transaction. -/
def DriveLink.awaitsLoadReply (r : DriveLink) (number : Byte) : Bool :=
  decide (r.state = .loading) && decide (r.outstanding.map (fun o => o.number) = some number)

/-- R135: the link is APPLYING and the number is that of its outstanding transaction. -/
def DriveLink.awaitsApplied (r : DriveLink) (number : Byte) : Bool :=
  decide (r.state = .applying) && decide (r.outstanding.map (fun o => o.number) = some number)

/-- R135: the link's transaction was already dropped or abandoned, so that its reply is late. -/
def replyIsLate (s : State) (r : DriveLink) : Bool :=
  match s.drive.current with
  | none => true
  | some tx => tx.dropped || decide (r.outstanding ≠ some tx.ref)

/-- R135: a stray reply is counted. -/
def strayReply (l : Nat) (s : State) : State :=
  s.modifyDriveLink l (fun r => { r with stray := r.stray + 1 })

/-- R149: the frame a SAFE cause of a link carries: that of the SHAPE transaction it arose in. -/
def DriveLink.causeFrame (r : DriveLink) : Option Frame :=
  match r.outstanding with
  | some o => if o.kind = TxKind.shape then o.frame else none
  | none => none

end Sys2Proof.Machine
end

