-- ==== Sys2Proof/Machine/LoopEntry.lean ====
section
/-! DEFINITION. Entry of the loop to STOPPED and to SAFE (R154 to R156). -/

namespace Sys2Proof.Machine

/-- R12: every link queue is emptied, a waiting head included. -/
def emptyQueues (s : State) : State :=
  s.forReceivers (fun r => { r with queue := [], headWaiting := false })

/-- R49: both slots become FREE, and L becomes none. -/
def freeSlots (s : State) : State := { freeSlot 1 (freeSlot 0 s) with lastClosed := none }

/-- R156: what every entry to STOPPED or SAFE does. -/
def enterRest (entered : LoopState) (cause : LoopCause) (frame : Option Frame) (scanCause : EndCause)
    (s : State) : State :=
  let s1 := clearRuns (changeLoop entered cause frame s)
  let s2 := scanAbort scanCause { s1 with loop := { s1.loop with pendingTransition := none } }
  let s3 := abandonStage (cancelSwap s2)
  abandonShape (emptyQueues (freeSlots s3))

/-- R155, R156: entry to STOPPED. -/
def enterStopped (s : State) : State := enterRest .stopped .loopStop none .stopped s

/-- R154, R156: entry to SAFE from any other state; in SAFE a further cause changes nothing. Any bias send in
flight serves for SAFE: one begun by FLATTEN by R140, and one that an earlier entry to SAFE began by the
model's choice (log 40). So does one whose transaction is dropped and waits for a late reply (log 38). -/
def enterSafe (cause : LoopCause) (frame : Option Frame) (s : State) : State :=
  if s.loop.state = .safe then s
  else
    let s1 := raise .safeEntered (enterRest .safe cause frame .safe s)
    let s2 := { s1 with loop := { s1.loop with safeEntries := s1.loop.safeEntries + 1 } }
    if s2.drive.biasSend.isSome then s2 else beginBiasSend s2

/-- R122, R138, R141: a drop and the entry to SAFE that come together, in the order that is taken. What a
freed slot lets begin follows the drop before the entry (log 15, log 17). `between` is what a request does
that is taken between the act of the link and the entry (R154). -/
def dropAndSafe (order : SafeOrder) (reason : DropReason) (cause : LoopCause) (frame : Option Frame)
    (between : State → State) (s : State) : State :=
  match order with
  | .dropFirst => enterSafe cause frame (between (settle (dropTransaction reason s)))
  | .safeFirst => dropTransaction reason (enterSafe cause frame (between s))

end Sys2Proof.Machine
end

