-- ==== Sys2Proof/Machine/PortOps.lean ====
section
/-! DEFINITION. The supervisory port: taking a request, the verdict of its owning block, the reply and
the fault-detail entry (R187 to R192), and the bytes of a reply frame (R205). -/

namespace Sys2Proof.Machine

/-- What the owning block decides on a request, with the state it leaves: OK with a payload and CLAMPED,
ACCEPTED, or a refusal with what the fault detail holds (R189, R191). -/
inductive Verdict where
  | ok (payload : List Byte) (clamped : Bool) (after : State)
  | accepted (after : State)
  | refused (status : Status) (position : Nat) (detail : Detail) (value : Option Int)
      (owner : Option Nat) (after : State)
deriving DecidableEq, Repr

/-- OK without payload. -/
def Verdict.done (s : State) : Verdict := .ok [] false s

/-- OK with a payload, changing nothing. -/
def Verdict.report (payload : List Byte) (s : State) : Verdict := .ok payload false s

/-- A refusal with the detail NONE, changing nothing. -/
def refuse (status : Status) (position : Nat) (s : State) : Verdict :=
  .refused status position .none none none s

/-- A refusal with an offending value. -/
def refuseValue (status : Status) (position : Nat) (value : Int) (s : State) : Verdict :=
  .refused status position .none (some value) none s

/-- A refusal with a detail code and an offending value. -/
def refuseDetail (status : Status) (position : Nat) (detail : Detail) (value : Option Int) (s : State) :
    Verdict :=
  .refused status position detail value none s

/-- A refusal with an owner id. -/
def refuseOwner (status : Status) (position : Nat) (owner : Option Nat) (s : State) : Verdict :=
  .refused status position .none none owner s

/-- R205: a payload whose length does not match its fields. -/
def refusePayload (s : State) : Verdict := refuse .badArgument 0 s

/-- The checks and effect of a request once its payload is known to fit (R205). -/
def whenFits (env : Envelope) (s : State) (body : Verdict) : Verdict :=
  if env.payloadFits then body else refusePayload s

/-- R190: the requests that may be sent as broadcasts, by code: SWAP, SWAP_CANCEL, LOOP_OPEN,
LOOP_CLOSE, LOOP_STOP, LOOP_SAFE, FLATTEN and RESET_SOFT. -/
def mayBroadcast (code : Nat) : Bool :=
  [0x17, 0x18, 0x25, 0x26, 0x27, 0x28, 0x29, 0x3C].contains code

/-- R187 step 4, R192: the request is counted as taken, and the master's entry is removed. -/
def takeFrame (env : Envelope) (s : State) : State :=
  { s with port :=
    { s.port.setEntry env.master none with
      framesTaken := if env.broadcast then s.port.framesTaken else s.port.framesTaken + 1
      broadcastsTaken := if env.broadcast then s.port.broadcastsTaken + 1 else s.port.broadcastsTaken } }

/-- R189: the reply to an addressed request; a broadcast gets none. -/
def replyWith (env : Envelope) (status : Status) (clamped : Bool) (payload : List Byte) (s : State) :
    State :=
  if env.broadcast then s
  else
    { s with port := { s.port with
      reply := some { address := s.port.address, master := env.master, status := status,
                      clamped := clamped, tag := env.tag, payload := payload } } }

/-- R190: a refused broadcast raises BROADCAST_REFUSED, and a SWAP refused TOO_LATE also SWAP_LATE. -/
def reportRefusal (env : Envelope) (code : Nat) (status : Status) (s : State) : State :=
  if env.broadcast then
    let s1 := raise .broadcastRefused s
    if code = 0x17 ∧ status = .tooLate then raise .swapLate s1 else s1
  else s

/-- R191: the master's new fault-detail entry. -/
def enterFault (env : Envelope) (code : Nat) (status : Status) (position : Nat) (detail : Detail)
    (value : Option Int) (owner : Option Nat) (s : State) : State :=
  let e : FaultEntry := { code := code, status := status, tag := env.tag, position := position,
                          detail := detail, value := value, owner := owner }
  { s with port := s.port.setEntry env.master (some e) }

/-- R189 to R191: the outcome of a verdict. -/
def conclude (env : Envelope) (code : Nat) : Verdict → State
  | .ok payload clamped s => replyWith env .ok clamped payload s
  | .accepted s => replyWith env .accepted false [] s
  | .refused status position detail value owner s =>
    replyWith env status false []
      (reportRefusal env code status (enterFault env code status position detail value owner s))

/-- R188: the port's check of broadcasts, and the owning block's verdict. -/
def verdictOf (env : Envelope) (code : Nat) (body : State → Verdict) (s : State) : Verdict :=
  if env.broadcast && !mayBroadcast code then refuse .broadcastNotAllowed 0 s else body s

/-- R187 to R192: a request of a known code is taken and judged. A master id of 0 is counted BAD_MASTER;
a part strapped to 31 takes no addressed request (R185). -/
def takeRequest (env : Envelope) (code : Nat) (body : State → Verdict) (s : State) : State :=
  if env.master = 0 then { s with port := { s.port with badMaster := s.port.badMaster + 1 } }
  else if !env.broadcast && decide (s.port.address = Config.broadcastAddress) then s
  else conclude env code (verdictOf env code body (takeFrame env s))

/-- A request of a known code, while the reset line is released. -/
def request (env : Envelope) (code : Nat) (body : State → Verdict) (s : State) :
    Host.Outcome State Fault Refusal :=
  awake s (takeRequest env code body)

/-- R188 check 1: a request of a code the part does not know. -/
def takeUnknown (env : Envelope) (code : Nat) (s : State) : State :=
  conclude env code (refuse .unknownRequest 0 (takeFrame env s))

/-- R205: the bytes of a reply frame. -/
def Reply.frame (r : Reply) : List Byte :=
  withCrc (be8 r.address ++ be8 r.master ++ be8 ((if r.clamped then 128 else 0) + r.status.number) ++
    [r.tag] ++ be16 r.payload.length ++ r.payload)

/-- The bytes of an optional number of `width` bytes (R205). -/
def beOptNat (width : Nat) (field : Nat → List Byte) (n : Option Nat) : List Byte :=
  beOption width (n.map field)

/-- The bytes of an optional frame number. -/
def beOptFrame (f : Option Frame) : List Byte := beOption 2 (f.map (fun f => be16 f.toNat))

/-- The bytes of a 32-bit counter or CRC. -/
def beCount (c : Count32) : List Byte := be32 c.toNat

/-- The bytes of a signed 32-bit number, two's complement. -/
def beInt32 (i : Int) : List Byte := be32 (BitVec.ofInt 32 i).toNat

/-- The bytes of a set of names: the first-listed name is bit 0. -/
def beSet (n : Nat) : List Byte := be16 n

end Sys2Proof.Machine
end

