-- ==== Sys2Proof/Machine/TableOps.lean ====
section
/-! DEFINITION. The checks of edits and of the actuator count against the effective table, and taking an
edit (R95, R98 to R106). -/

namespace Sys2Proof.Machine

/-- Two actuators share a drive link and channel (R95). -/
def ActTable.sameChannel (t : ActTable) (a b : Nat) : Bool :=
  decide ((t.actuator a).link = (t.actuator b).link) &&
    decide ((t.actuator a).channel = (t.actuator b).channel)

/-- The lowest actuator below a that shares a's link and channel. -/
def ActTable.partner (t : ActTable) (a : Nat) : Option Nat :=
  (List.range a).find? (fun b => t.sameChannel b a)

/-- R95, R101, R102: the offender among actuators 0..n-1 that share a channel: the lowest actuator that
shares with a lower one (log 27). -/
def ActTable.duplicate (t : ActTable) (n : Nat) : Option Nat :=
  (List.range n).find? (fun a => (t.partner a).isSome)

/-- R95: the lowest actuator below n whose channel is not below its link's channel count. -/
def badChannel (s : State) (t : ActTable) (n : Nat) : Option Nat :=
  (List.range n).find? (fun a => decide ((s.driveLink (t.actuator a).link).channels ≤ (t.actuator a).channel))

/-- R101: the list position of the first pair that names an actuator at or above n. -/
def pairBeyond (pairs : List Pair) (n : Nat) : Option Nat :=
  pairs.findIdx? (fun p => decide (n ≤ p.a) || decide (n ≤ p.b))

/-- The difference of two actuators' biases (R98). -/
def ActTable.biasGap (t : ActTable) (a b : Nat) : Nat :=
  (((t.actuator a).bias : Int) - ((t.actuator b).bias : Int)).natAbs

/-- R98, R102: the list position of the first pair whose biases differ by more than its Dmax. -/
def ActTable.biasFault (t : ActTable) : Option Nat :=
  t.pairs.findIdx? (fun p => decide (p.dmax < t.biasGap p.a p.b))

/-- R105: the list position of a pair, in either order. -/
def ActTable.pairPosition (t : ActTable) (a b : Nat) : Option Nat :=
  t.pairs.findIdx? (fun p => p.names a b)

/-- R102 check 3: why a record fails: status and offending value. Where link and channel both fail one condition,
the value is the link, by the model's choice (log 10). -/
def recordFault (s : State) (t : ActTable) (a : Nat) (f : ActFields) : Option (Status × Int) :=
  if !s.hasDriveLink f.link then some (.notPresent, f.link)
  else if Config.channels s.variant ≤ f.channel then some (.notPresent, f.channel)
  else if 7 < f.gainSet then some (.badArgument, f.gainSet)
  else if f.bias < f.lo ∨ f.hi < f.bias then some (.limit, f.bias)
  else if s.loop.state ≠ .stopped ∧ f.link ≠ (t.actuator a).link then some (.wrongState, f.link)
  else if s.loop.state ≠ .stopped ∧ f.channel ≠ (t.actuator a).channel then
    some (.wrongState, f.channel)
  else none

/-- R102 check 3: the first record that fails, with its position. -/
def recordsFault (s : State) (t : ActTable) (first position : Nat) :
    List ActFields → Option (Nat × Status × Int)
  | [] => none
  | f :: rest =>
    match recordFault s t (first + position) f with
    | some e => some (position, e.1, e.2)
    | none => recordsFault s t first (position + 1) rest

/-- The position in a request of the record of one of two actuators (log 9). -/
def recordPosition (first count a b : Nat) : Nat :=
  if first ≤ a ∧ a < first + count then a - first
  else if first ≤ b ∧ b < first + count then b - first else 0

/-- R99: an edit that passed its checks is applied at once, or joins the hold, or finds it full. -/
def takeEdit (e : Edit) (s : State) : Verdict :=
  if s.inFlight then
    if Config.holdEdits ≤ s.hold.length then refuse .busy 0 s
    else .done { s with hold := s.hold ++ [e] }
  else .done (settleLinks { s with table := s.table.apply e })

end Sys2Proof.Machine
end

