-- ==== Sys2Proof/Machine/Actuators.lean ====
section
/-! DEFINITION. The requests of the actuator table, the gain sets and the pair list (R97, R101 to R107). -/

namespace Sys2Proof.Machine

/-- R101 check 5: the effective table under a new N. -/
def countFault (s : State) (n : Nat) : Option Nat :=
  let t := s.effective
  match pairBeyond t.pairs n with
  | some i => some i
  | none =>
    match t.duplicate n with
    | some a => some a
    | none => badChannel s t n

/-- R101, R130: the checks and effect of ACT_COUNT. -/
def actCountBody (env : Envelope) (n : Nat) (s : State) : Verdict :=
  whenFits env s
    (if Config.actuators s.variant < n then refuse .notPresent 1 s
    else if s.swapPending then refuse .busy 0 s
    else if s.loop.state ≠ .stopped then refuse .wrongState 0 s
    else if s.drive.biasSend.isSome then refuse .busy 0 s
    else
      match countFault s n with
      | some v => refuseValue .conflict 1 v s
      | none => .done (settleLinks { s with table := { s.table with n := n } }))

/-- R102 check 4: the mapping conditions for actuators below N, then the bias condition of every pair. Of the
mapping conditions, sharing is tested for all actuators before the channel counts, by the model's choice (log
49). -/
def writeConflict (s : State) (t : ActTable) (first count : Nat) : Option (Nat × Nat) :=
  match t.duplicate t.n with
  | some a => some (recordPosition first count a ((t.partner a).getD a), a)
  | none =>
    match badChannel s t t.n with
    | some a => some (recordPosition first count a a, a)
    | none =>
      match t.biasFault with
      | some i =>
        match t.pairs[i]? with
        | some p => some (recordPosition first count p.a p.b, i)
        | none => some (0, i)
      | none => none

/-- R102: the checks and effect of ACT_WRITE. A record count outside 1..64 has position 0 and a range that ends
too high the position of first, by the model's choice (logs 9 and 47). -/
def actWriteBody (env : Envelope) (first : Nat) (records : List ActFields) (s : State) : Verdict :=
  whenFits env s
    (if records.length < 1 ∨ 64 < records.length then refuse .badArgument 0 s
    else if Config.actuators s.variant < first + records.length then refuse .notPresent 1 s
    else
      match recordsFault s s.effective first 0 records with
      | some e => refuseValue e.2.1 e.1 e.2.2 s
      | none =>
        match writeConflict s (s.effective.rewrite first records) first records.length with
        | some e => refuseValue .conflict e.1 e.2 s
        | none => takeEdit (.write first records) s)

/-- R104: the checks and effect of ACT_MODE. An unknown mode is named whether a value is there or not (log 47). -/
def actModeBody (env : Envelope) (actuator mode : Nat) (value : Option Nat) (s : State) : Verdict :=
  whenFits env s
    (if Config.actuators s.variant ≤ actuator then refuse .notPresent 1 s
    else
      match modeOf mode, value with
      | none, _ => refuse .badArgument 2 s
      | some .forced, none => refuse .badArgument 3 s
      | some .forced, some v =>
        let r := s.effective.actuator actuator
        if v < r.lo ∨ r.hi < v then refuse .limit 3 s
        else takeEdit (.mode actuator .forced (some v)) s
      | some _, some _ => refuse .badArgument 3 s
      | some m, none => takeEdit (.mode actuator m none) s)

/-- R107: the fields of a record, in the order of R95. -/
def Actuator.bytes (r : Actuator) : List Byte :=
  be8 r.link ++ be16 r.channel ++ be16 r.bias ++ be16 r.lo ++ be16 r.hi ++ be8 r.gainSet ++
    be8 r.mode.number ++ be24 r.x ++ be16 r.lastOutput

/-- R107: ACT_READ. A range that ends too high is refused with the position of first (log 47). -/
def actReadBody (env : Envelope) (first count : Nat) (s : State) : Verdict :=
  whenFits env s
    (if count < 1 ∨ 64 < count then refuse .badArgument 2 s
    else if Config.actuators s.variant < first + count then refuse .notPresent 1 s
    else
      .report ((List.range count).flatMap (fun i => (s.table.actuator (first + i)).bytes) ++
        be16 s.table.n ++ be8 s.hold.length) s)

/-- R97: the checks and effect of GAIN_WRITE. -/
def gainWriteBody (env : Envelope) (set gain leak : Nat) (s : State) : Verdict :=
  whenFits env s
    (if 7 < set then refuse .badArgument 1 s
    else .done { s with gains := Table.set Gain.reset s.gains set { gain := gain, leak := leak } })

/-- R97: GAIN_READ. The eight gain sets are no list with a count (log 45). -/
def gainReadBody (env : Envelope) (s : State) : Verdict :=
  whenFits env s
    (.report ((List.range Config.gainSets).flatMap (fun k =>
      be16 (s.gain k).gain ++ be16 (s.gain k).leak)) s)

/-- R105: the checks and effect of PAIR_WRITE. Where a and b both fail a check, a is named, by the model's choice
(log 47). -/
def pairWriteBody (env : Envelope) (a b dmax : Nat) (s : State) : Verdict :=
  whenFits env s
    (let t := s.effective
    if Config.actuators s.variant ≤ a then refuse .notPresent 1 s
    else if Config.actuators s.variant ≤ b then refuse .notPresent 2 s
    else if a = b then refuse .conflict 0 s
    else if t.n ≤ a then refuse .conflict 1 s
    else if t.n ≤ b then refuse .conflict 2 s
    else
      match t.pairPosition a b with
      | some i => refuseValue .conflict 0 i s
      | none =>
        if dmax < t.biasGap a b then refuseValue .conflict 3 (t.biasGap a b) s
        else if Config.pairEntries ≤ t.pairs.length then refuse .full 0 s
        else takeEdit (.pairAdd { a := a, b := b, dmax := dmax }) s)

/-- R106: the checks and effect of PAIR_REMOVE. Where a and b are both too high, a is named, by the model's choice
(log 47). -/
def pairRemoveBody (env : Envelope) (a b : Nat) (s : State) : Verdict :=
  whenFits env s
    (if Config.actuators s.variant ≤ a then refuse .notPresent 1 s
    else if Config.actuators s.variant ≤ b then refuse .notPresent 2 s
    else
      match s.effective.pairPosition a b with
      | none => refuse .badArgument 0 s
      | some _ => takeEdit (.pairDrop a b) s)

/-- A pair-list entry's bytes. -/
def Pair.bytes (p : Pair) : List Byte := be16 p.a ++ be16 p.b ++ be16 p.dmax

/-- R107: PAIR_READ. -/
def pairReadBody (env : Envelope) (first count : Nat) (s : State) : Verdict :=
  whenFits env s
    (if 128 < count then refuse .badArgument 2 s
    else
      .report (be16 s.table.pairs.length ++ be8 s.hold.length ++
        (List.range count).flatMap (fun i => beOption 6 (s.table.pairs[first + i]?.map Pair.bytes))) s)

/-- ACT_COUNT (R101). -/
def execActCount (env : Envelope) (n : Nat) (s : State) : Host.Outcome State Fault Refusal :=
  request env 0x19 (actCountBody env n) s

/-- ACT_WRITE (R102, R103). -/
def execActWrite (env : Envelope) (first : Nat) (records : List ActFields) (s : State) :
    Host.Outcome State Fault Refusal :=
  request env 0x1A (actWriteBody env first records) s

/-- ACT_MODE (R104). -/
def execActMode (env : Envelope) (actuator mode : Nat) (value : Option Nat) (s : State) :
    Host.Outcome State Fault Refusal :=
  request env 0x1B (actModeBody env actuator mode value) s

/-- ACT_READ (R107). -/
def execActRead (env : Envelope) (first count : Nat) (s : State) : Host.Outcome State Fault Refusal :=
  request env 0x1C (actReadBody env first count) s

/-- GAIN_WRITE (R97). -/
def execGainWrite (env : Envelope) (set gain leak : Nat) (s : State) :
    Host.Outcome State Fault Refusal :=
  request env 0x1D (gainWriteBody env set gain leak) s

/-- GAIN_READ (R97). -/
def execGainRead (env : Envelope) (s : State) : Host.Outcome State Fault Refusal :=
  request env 0x1E (gainReadBody env) s

/-- PAIR_WRITE (R105). -/
def execPairWrite (env : Envelope) (a b dmax : Nat) (s : State) : Host.Outcome State Fault Refusal :=
  request env 0x1F (pairWriteBody env a b dmax) s

/-- PAIR_REMOVE (R106). -/
def execPairRemove (env : Envelope) (a b : Nat) (s : State) : Host.Outcome State Fault Refusal :=
  request env 0x20 (pairRemoveBody env a b) s

/-- PAIR_READ (R107). -/
def execPairRead (env : Envelope) (first count : Nat) (s : State) : Host.Outcome State Fault Refusal :=
  request env 0x21 (pairReadBody env first count) s

end Sys2Proof.Machine
end

