-- ==== Sys2Proof/Machine/LoaderOps.lean ====
section
/-! DEFINITION. The loader: opening a load, the combining buffers, flushing, closing and the verify pass
(R69 to R83, R203). -/

namespace Sys2Proof.Machine

/-! ### Descriptors -/

/-- C of a bank; 0 where it has none. -/
def Bank.columnCount (b : Bank) : Nat := b.columns.getD 0

/-- R of a bank; 0 where it has none. -/
def Bank.rowCount (b : Bank) : Nat := b.rows.getD 0

/-- K of a bank; 0 where it has none. -/
def Bank.blockSize (b : Bank) : Nat := b.block.getD 0

/-- R68: the number of blocks, the smallest whole number not less than C / K. -/
def Bank.blockCount (b : Bank) : Nat := (b.columnCount + b.blockSize - 1) / b.blockSize

/-- R68: EMPTY, LOADED and READY, the states a fresh open and a clear take. -/
def BankState.replaceable : BankState → Bool
  | .empty => true
  | .loaded => true
  | .ready => true
  | .loading => false
  | .verifying => false
  | .pending => false
  | .active => false
  | .retiring => false

/-- R70 check 4: ACTIVE, PENDING and RETIRING. -/
def BankState.inUse : BankState → Bool
  | .active => true
  | .pending => true
  | .retiring => true
  | .empty => false
  | .loading => false
  | .verifying => false
  | .loaded => false
  | .ready => false

/-- The loader's owner, where it has one. -/
def LoaderState.owner : LoaderState → Option Nat
  | .idle => none
  | .loading _ owner => some owner
  | .verifying _ owner => some owner

/-- The bank the loader names, where it names one. -/
def LoaderState.bank : LoaderState → Option Nat
  | .idle => none
  | .loading bank _ => some bank
  | .verifying bank _ => some bank

/-- R69: the loader takes a request from its owner now. -/
def touchLoader (s : State) : State := { s with loader := { s.loader with lastActivity := s.now } }

/-! ### Opening (R70 to R72) -/

/-- R71: the descriptor of a bank whose load opens. -/
def openedBank (rows columns shift block : Nat) : Bank :=
  { Bank.reset 0 with
    state := .loading, rows := some rows, columns := some columns, shift := some shift,
    block := some block }

/-- R71: the effect of an accepted LOAD_OPEN. -/
def openLoad (b rows columns shift block owner : Nat) (s : State) : State :=
  let s1 := s.setBank b (openedBank rows columns shift block)
  { s1 with loader := { s1.loader with state := .loading b owner, bufferA := none, bufferB := none,
                                       lastActivity := s1.now, reopened := false } }

/-- R72: the bank of the old load becomes EMPTY. -/
def emptyOldLoad (old : Nat) (s : State) : State := s.setBank old (Bank.reset old)

/-- R70 check 5, R72: the load has been idle for more than the load-idle limit. -/
def loadIsIdle (s : State) : Bool :=
  decide (s.port.features.loadIdleLimit * 1000 < s.now - s.loader.lastActivity)

/-! ### Combining buffers (R74, R75) -/

/-- The two combining buffers. -/
inductive BufferName where
  | a
  | b
deriving DecidableEq, Repr

/-- What a buffer holds. -/
def Loader.buffer (l : Loader) : BufferName → Option Buffer
  | .a => l.bufferA
  | .b => l.bufferB

/-- Replaces what a buffer holds. -/
def Loader.setBuffer (l : Loader) (name : BufferName) (v : Option Buffer) : Loader :=
  match name with
  | .a => { l with bufferA := v }
  | .b => { l with bufferB := v }

/-- The buffer that holds a column. -/
def Loader.holder (l : Loader) (column : Nat) : Option BufferName :=
  if l.bufferA.map (fun b => b.column) = some column then some .a
  else if l.bufferB.map (fun b => b.column) = some column then some .b else none

/-- R74: the buffer taken for a further column: an empty one, A first, or the one touched longer ago. -/
def Loader.victim (l : Loader) : BufferName :=
  match l.bufferA, l.bufferB with
  | none, _ => .a
  | some _, none => .b
  | some x, some y => if y.touched < x.touched then .b else .a

/-- A column joins the committed set of bank b, its values written to DRAM. -/
def commitColumn (b column : Nat) (values : List Int) (s : State) : State :=
  (s.writeColumn b column values).modifyBank b (fun r => { r with committed := NatSet.add r.committed column })

/-- R75: the column of a buffer with the rows not received as 0. -/
def Buffer.column0 (x : Buffer) (rows : Nat) : List Int := Table.getList zeroes x.values 0 rows

/-- R75: a buffer of the load of bank b is flushed; an empty one is not. The zero-filled count, which
BLOCK_REOPEN keeps (R83), grows past 8,192 by the model's choice (log 46). -/
def flushBuffer (b : Nat) (name : BufferName) (s : State) : State :=
  match s.loader.buffer name with
  | none => s
  | some x =>
    let rows := s.bankRows b
    let s1 := commitColumn b x.column (x.column0 rows) s
    let s2 :=
      if x.rows.length < rows then s1.modifyBank b (fun r => { r with zeroFilled := r.zeroFilled + 1 })
      else s1
    { s2 with loader := s2.loader.setBuffer name none }

/-- R75: both buffers, A first. -/
def flushBoth (b : Nat) (s : State) : State := flushBuffer b .b (flushBuffer b .a s)

/-- R74: a buffer with the request's rows written into it, touched now. -/
def Buffer.fill (x : Buffer) (firstRow : Nat) (coefficients : List Int) (serial : Nat) : Buffer :=
  { x with rows := NatSet.addAll x.rows ((List.range coefficients.length).map (fun i => firstRow + i)),
           values := Table.setList zeroes x.values firstRow coefficients, touched := serial }

/-- R74: the column of a buffer that has received every row is committed. -/
def commitIfWhole (b : Nat) (name : BufferName) (s : State) : State :=
  match s.loader.buffer name with
  | none => s
  | some x =>
    if x.rows.length = s.bankRows b then
      let s1 := commitColumn b x.column (x.column0 (s.bankRows b)) s
      { s1 with loader := s1.loader.setBuffer name none }
    else s

/-- R74: the coefficients go into a buffer that holds `x`. -/
def fillBuffer (b : Nat) (name : BufferName) (x : Buffer) (firstRow : Nat) (coefficients : List Int)
    (s : State) : State :=
  let serial := s.loader.touches + 1
  let l := { s.loader.setBuffer name (some (x.fill firstRow coefficients serial)) with touches := serial }
  commitIfWhole b name { s with loader := l }

/-- R74: the coefficients of an accepted LOAD_SEGMENT are placed. -/
def placeCoefficients (b column firstRow : Nat) (coefficients : List Int) (s : State) : State :=
  match s.loader.holder column with
  | some name =>
    match s.loader.buffer name with
    | some x => fillBuffer b name x firstRow coefficients s
    | none => s
  | none =>
    if coefficients.length = s.bankRows b then commitColumn b column coefficients s
    else
      let name := s.loader.victim
      let s1 := flushBuffer b name s
      fillBuffer b name { column := column, rows := [], values := [], touched := 0 } firstRow coefficients s1

/-! ### Closing and verifying (R77 to R80) -/

/-- The lowest column 0..C-1 not in the committed set. -/
def Bank.lowestUncommitted (b : Bank) : Option Nat := NatSet.lowestMissing b.committed b.columnCount

/-- R77: the verify pass begins. -/
def beginVerify (b owner : Nat) (expected : BitVec 32) (s : State) : State :=
  let s1 := s.modifyBank b (fun r =>
    { r with state := .verifying, expectedCrc := some expected, verified := 0, outcome := none,
             wholeCrc := none, blockCrcs := [], failingColumn := none, unverified := none })
  { s1 with loader := { s1.loader with state := .verifying b owner, reopened := false,
                                       wholeReg := crc32Start, blockReg := crc32Start } }

/-- The loader becomes IDLE. -/
def idleLoader (s : State) : State :=
  { s with loader := { s.loader with state := .idle, bufferA := none, bufferB := none, reopened := false } }

/-- R79: the pass has read every column. -/
def endVerify (b owner : Nat) (s : State) : State :=
  let whole := crc32Final s.loader.wholeReg
  let s1 := s.modifyBank b (fun r =>
    if r.expectedCrc = some whole then
      { r with wholeCrc := some whole, outcome := some .matched, recordedOwner := none, state := .ready }
    else
      { r with wholeCrc := some whole, outcome := some .mismatch, recordedOwner := some owner,
               state := .loaded })
  raise .loadDone (idleLoader s1)

/-- R80: a read of column j is uncorrectable. -/
def failVerify (b owner j : Nat) (s : State) : State :=
  let s1 := s.modifyBank b (fun r =>
    { r with outcome := some .failed, failingColumn := some j, unverified := some (r.columnCount - j),
             errorCount := r.errorCount + 1, state := .loaded, recordedOwner := some owner })
  raise .loadDone (idleLoader s1)

/-- R78, R203: the bytes of a column as they enter the CRC. -/
def columnBytes (s : State) (b j : Nat) : List Byte := (s.column b j (s.bankRows b)).flatMap beInt16

/-- R78: column j is the last of its block. -/
def Bank.endsBlock (b : Bank) (j : Nat) : Bool :=
  decide ((j + 1) % b.blockSize = 0) || decide (j + 1 = b.columnCount)

/-- R78: column j enters both CRCs. -/
def readColumn (b j : Nat) (s : State) : State :=
  let bytes := columnBytes s b j
  let blockReg := crc32Feed s.loader.blockReg bytes
  let last := (s.bank b).endsBlock j
  let s1 := s.modifyBank b (fun r =>
    { r with verified := r.verified + 1,
             blockCrcs := if last then r.blockCrcs ++ [crc32Final blockReg] else r.blockCrcs })
  { s1 with loader := { s1.loader with wholeReg := crc32Feed s1.loader.wholeReg bytes,
                                       blockReg := if last then crc32Start else blockReg } }

/-- R78 to R80: one column of the verify pass. -/
def verifyColumn (b owner : Nat) (uncorrectable : Bool) (s : State) : State :=
  let j := (s.bank b).verified
  if (s.bank b).columnCount ≤ j then s
  else if uncorrectable then failVerify b owner j s
  else
    let s1 := readColumn b j s
    if j + 1 = (s.bank b).columnCount then endVerify b owner s1 else s1

end Sys2Proof.Machine
end

