-- ==== Sys2Proof/Machine/Banks.lean ====
section
/-! DEFINITION. Matrix banks: the verify pass's step and the requests of R70 to R91. -/

namespace Sys2Proof.Machine

/-- VERIFY_COLUMN_READ (R78 to R80): while the loader is VERIFYING. -/
def execVerifyColumnRead (uncorrectable : Bool) (s : State) : Host.Outcome State Fault Refusal :=
  awake s (fun t =>
    match t.loader.state with
    | .verifying b owner => verifyColumn b owner uncorrectable t
    | _ => t)

/-- R70 check 5: the loader's test of a LOAD_OPEN. -/
def loadOpenTest (b rows columns shift block master : Nat) (s : State) : Verdict :=
  match s.loader.state with
  | .idle =>
    if (s.bank b).state.replaceable then .done (openLoad b rows columns shift block master s)
    else refuse .busy 0 s
  | .loading old owner =>
    if old = b ∧ owner = master then .done (openLoad b rows columns shift block master s)
    else if loadIsIdle s then .done (openLoad b rows columns shift block master (emptyOldLoad old s))
    else refuseOwner .busy 0 (some owner) s
  | .verifying _ owner => refuseOwner .busy 0 (some owner) s

/-- R70 to R72: the checks and effect of LOAD_OPEN. -/
def loadOpenBody (env : Envelope) (bank rows columns shift block : Nat) (s : State) : Verdict :=
  whenFits env s
    (if 1 < bank then refuse .badArgument 1 s
    else if rows = 0 then refuse .badArgument 2 s
    else if columns = 0 then refuse .badArgument 3 s
    else if 31 < shift then refuse .badArgument 4 s
    else if block < 16 ∨ 512 < block then refuse .badArgument 5 s
    else if Config.actuators s.variant < rows then refuse .notPresent 2 s
    else if Config.columns s.variant < columns then refuse .notPresent 3 s
    else if (s.bank bank).state.inUse then refuse .wrongState 0 s
    else loadOpenTest bank rows columns shift block env.master s)

/-- R69: a request that only the owner in LOADING may make; `act` gets the bank. -/
def whenLoading (env : Envelope) (s : State) (act : Nat → Nat → Verdict) : Verdict :=
  match s.loader.state with
  | .idle => refuse .wrongState 0 s
  | .loading b owner =>
    if owner = env.master then act b owner else refuseOwner .notOwner 0 (some owner) s
  | .verifying _ owner =>
    if owner = env.master then refuse .busy 0 s else refuseOwner .notOwner 0 (some owner) s

/-- R73, R74: the checks and effect of LOAD_SEGMENT. COLUMN_DONE has the position of the column (log
48), and where column and rows both fail check 3 the column is named (log 47), by the model's choice. -/
def loadSegmentBody (env : Envelope) (column firstRow : Nat) (coefficients : List Int) (s : State) :
    Verdict :=
  whenFits env s
    (if coefficients.length < 1 ∨ 1024 < coefficients.length then refuse .badArgument 0 s
    else if Config.columns s.variant ≤ column then refuse .notPresent 1 s
    else whenLoading env s (fun b _ =>
      if (s.bank b).columnCount ≤ column then refuseValue .badArgument 1 column s
      else if (s.bank b).rowCount < firstRow + coefficients.length then
        refuseValue .badArgument 2 (firstRow + coefficients.length) s
      else if (s.bank b).committed.contains column then refuse .columnDone 1 s
      else .done (placeCoefficients b column firstRow coefficients (touchLoader s))))

/-- R76: how many buffers hold a column. -/
def heldCount (l : Loader) : Nat := l.bufferA.toList.length + l.bufferB.toList.length

/-- R76: the effect and reply of LOAD_FLUSH. -/
def loadFlushBody (env : Envelope) (s : State) : Verdict :=
  whenFits env s (whenLoading env s (fun b _ =>
    let s1 := touchLoader (flushBoth b s)
    .report (be8 (heldCount s.loader) ++ be8 ((s1.bank b).zeroFilled - (s.bank b).zeroFilled)) s1))

/-- R77: the checks and effect of LOAD_CLOSE. -/
def loadCloseBody (env : Envelope) (expected : BitVec 32) (s : State) : Verdict :=
  whenFits env s (whenLoading env s (fun b owner =>
    let s1 := touchLoader (flushBoth b s)
    match (s1.bank b).lowestUncommitted with
    | some j => refuseValue .incomplete 0 j s1
    | none => .accepted (beginVerify b owner expected s1)))

/-- R82: the load is abandoned. -/
def abortLoad (b : Nat) (s : State) : State := idleLoader (s.setBank b (Bank.reset b))

/-- R69, R82: the checks and effect of LOAD_ABORT. -/
def loadAbortBody (env : Envelope) (s : State) : Verdict :=
  whenFits env s
    (match s.loader.state with
      | .idle => refuse .wrongState 0 s
      | .loading b owner =>
        if owner = env.master then .done (abortLoad b s) else refuseOwner .notOwner 0 (some owner) s
      | .verifying b owner =>
        if owner = env.master then .done (abortLoad b s) else refuseOwner .notOwner 0 (some owner) s)

/-- R83: the columns of a block leave the committed set. -/
def uncommitBlock (b block : Nat) (s : State) : State :=
  s.modifyBank b (fun r =>
    { r with committed := r.committed.filter (fun j =>
        !(decide (block * r.blockSize ≤ j) && decide (j < (block + 1) * r.blockSize))) })

/-- R83: the last steps of an accepted BLOCK_REOPEN. -/
def markReopened (s : State) : State :=
  touchLoader { s with loader := { s.loader with reopened := true } }

/-- R83: a LOADED bank is reopened: it becomes LOADING for its owner, with empty buffers. -/
def reopenLoaded (b block owner : Nat) (s : State) : State :=
  let s1 := (uncommitBlock b block s).modifyBank b (fun r => { r with state := .loading, recordedOwner := none })
  markReopened { s1 with loader := { s1.loader with state := .loading b owner, bufferA := none,
                                                    bufferB := none } }

/-- R83: the checks and effect of BLOCK_REOPEN. -/
def blockReopenBody (env : Envelope) (bank block : Nat) (s : State) : Verdict :=
  whenFits env s
    (if 1 < bank then refuse .badArgument 1 s
    else
      let r := s.bank bank
      match r.state with
      | .loaded =>
        if s.loader.state ≠ .idle then refuseOwner .busy 0 s.loader.state.owner s
        else if r.recordedOwner ≠ some env.master then refuseOwner .notOwner 0 r.recordedOwner s
        else if r.blockCount ≤ block then refuse .badArgument 2 s
        else .done (reopenLoaded bank block env.master s)
      | .loading =>
        if !s.loader.reopened then refuse .wrongState 0 s
        else if s.loader.state.owner ≠ some env.master then refuseOwner .notOwner 0 s.loader.state.owner s
        else if r.blockCount ≤ block then refuse .badArgument 2 s
        else .done (markReopened (uncommitBlock bank block s))
      | _ => refuse .wrongState 0 s)

/-- R84: the checks and effect of BANK_CLEAR. -/
def bankClearBody (env : Envelope) (bank : Nat) (s : State) : Verdict :=
  whenFits env s
    (if 1 < bank then refuse .badArgument 1 s
    else if (s.bank bank).state.replaceable then .done (s.setBank bank (Bank.reset bank))
    else refuse .wrongState 0 s)

/-! ### LOAD_STATUS (R85) -/

/-- R85: a buffer: empty, or its column and the number of rows received. -/
def bufferBytes (x : Option Buffer) : List Byte :=
  beOption 4 (x.map (fun x => be16 x.column ++ be16 x.rows.length))

/-- R85: a pending frame: NEXT or a frame. -/
def PendingFrame.bytes : PendingFrame → List Byte
  | .next => beFlag true ++ be16 0
  | .frame f => beFlag false ++ be16 f.toNat

/-- R85: every descriptor field but the block CRC list. -/
def Bank.bytes (b : Bank) : List Byte :=
  be8 b.state.number ++ beOptNat 2 be16 b.rows ++ beOptNat 2 be16 b.columns ++ beOptNat 1 be8 b.shift ++
    beOptNat 2 be16 b.block ++ be16 b.committed.length ++ beOptNat 2 be16 b.lowestUncommitted ++
    be16 b.zeroFilled ++ beOption 4 (b.expectedCrc.map beCount) ++ beOption 4 (b.wholeCrc.map beCount) ++
    beOption 1 (b.outcome.map (fun o => be8 o.number)) ++ be16 b.verified ++
    beOptNat 2 be16 b.failingColumn ++ beOptNat 2 be16 b.unverified ++ beOptNat 1 be8 b.recordedOwner ++
    beCount b.errorCount ++ beOption 3 (b.pendingFrame.map PendingFrame.bytes)

/-- R85: the loader's state number. -/
def LoaderState.number : LoaderState → Nat
  | .idle => 0
  | .loading _ _ => 1
  | .verifying _ _ => 2

/-- R85: the time in ms since the loader's last activity, saturated; absent when IDLE. The manual does not
say how a part of a millisecond counts: it is cut off, by the model's choice (log 37). -/
def loaderAge (s : State) : Option Nat :=
  s.loader.state.bank.map (fun _ => min ((s.now - s.loader.lastActivity) / 1000) 65535)

/-- R85: `count` entries of a block CRC list, those beyond its end absent. -/
def blockCrcBytes (crcs : List (BitVec 32)) (first count : Nat) : List Byte :=
  (List.range count).flatMap (fun i => beOption 4 (crcs[first + i]?.map beCount))

/-- R85: LOAD_STATUS. -/
def loadStatusBody (env : Envelope) (bank firstBlock count : Nat) (s : State) : Verdict :=
  whenFits env s
    (if 1 < bank then refuse .badArgument 1 s
    else if 256 < count then refuse .badArgument 3 s
    else
      .report (be8 s.loader.state.number ++ beOptNat 1 be8 s.loader.state.bank ++
        beOptNat 1 be8 s.loader.state.owner ++ beOptNat 2 be16 (loaderAge s) ++
        bufferBytes s.loader.bufferA ++ bufferBytes s.loader.bufferB ++ (s.bank 0).bytes ++
        (s.bank 1).bytes ++ blockCrcBytes (s.bank bank).blockCrcs firstBlock count) s)

/-! ### Swaps (R86 to R91) -/

/-- R88: a frame that has been, or is being, assembled on the old bank. -/
def swapTooLate (s : State) (f : Frame) : Bool :=
  (match s.lastClosed with
    | none => false
    | some l => !newer f l) ||
  [0, 1].any (fun k => decide ((s.slot k).state = .opened) && !newer f (s.slot k).frame)

/-- R87: a swap in STOPPED takes effect at once. -/
def swapNow (b : Nat) (s : State) : State :=
  let s1 :=
    match s.activeBank with
    | none => s
    | some o => s.modifyBank o (fun r => { r with state := .ready })
  offerSwap b none (raise .swapDone (activate b s1))

/-- R88: the bank becomes PENDING. -/
def swapLater (b : Nat) (atFrame : Option Frame) (s : State) : State :=
  s.modifyBank b (fun r =>
    { r with state := .pending,
             pendingFrame := some (match atFrame with | none => .next | some f => .frame f) })

/-- R86 to R88: the checks and effect of SWAP. MISMATCH has the position of the bank, by the model's choice (log
48). -/
def swapBody (env : Envelope) (bank : Nat) (atFrame : Option Frame) (s : State) : Verdict :=
  whenFits env s
    (if 1 < bank then refuse .badArgument 1 s
    else if s.loop.state = .safe then refuse .wrongState 0 s
    else if s.swapPending then refuse .busy 0 s
    else if (s.bank bank).state ≠ .ready then
      refuseDetail .mismatch 1 (.bankState (s.bank bank).state) none s
    else if (s.bank bank).rowCount ≠ s.table.n then
      refuseDetail .mismatch 1 .rows (some (s.bank bank).rowCount) s
    else if !mapFits s.slopeMap (s.bank bank).columnCount then
      refuseDetail .mismatch 1 .columns (some (s.bank bank).columnCount) s
    else if s.loop.state = .stopped then .done (swapNow bank s)
    else if (atFrame.map (swapTooLate s)).getD false then refuse .tooLate 2 s
    else .done (swapLater bank atFrame s))

/-- R91: SWAP_CANCEL. -/
def swapCancelBody (env : Envelope) (s : State) : Verdict := whenFits env s (.done (cancelSwap s))

/-- LOAD_OPEN (R70). -/
def execLoadOpen (env : Envelope) (bank rows columns shift block : Nat) (s : State) :
    Host.Outcome State Fault Refusal :=
  request env 0x0F (loadOpenBody env bank rows columns shift block) s

/-- LOAD_SEGMENT (R73). -/
def execLoadSegment (env : Envelope) (column firstRow : Nat) (coefficients : List Int) (s : State) :
    Host.Outcome State Fault Refusal :=
  request env 0x10 (loadSegmentBody env column firstRow coefficients) s

/-- LOAD_FLUSH (R76). -/
def execLoadFlush (env : Envelope) (s : State) : Host.Outcome State Fault Refusal :=
  request env 0x11 (loadFlushBody env) s

/-- LOAD_CLOSE (R77). -/
def execLoadClose (env : Envelope) (expected : BitVec 32) (s : State) :
    Host.Outcome State Fault Refusal :=
  request env 0x12 (loadCloseBody env expected) s

/-- LOAD_ABORT (R82). -/
def execLoadAbort (env : Envelope) (s : State) : Host.Outcome State Fault Refusal :=
  request env 0x13 (loadAbortBody env) s

/-- BLOCK_REOPEN (R83). -/
def execBlockReopen (env : Envelope) (bank block : Nat) (s : State) :
    Host.Outcome State Fault Refusal :=
  request env 0x14 (blockReopenBody env bank block) s

/-- BANK_CLEAR (R84). -/
def execBankClear (env : Envelope) (bank : Nat) (s : State) : Host.Outcome State Fault Refusal :=
  request env 0x15 (bankClearBody env bank) s

/-- LOAD_STATUS (R85). -/
def execLoadStatus (env : Envelope) (bank firstBlock count : Nat) (s : State) :
    Host.Outcome State Fault Refusal :=
  request env 0x16 (loadStatusBody env bank firstBlock count) s

/-- SWAP (R86). -/
def execSwap (env : Envelope) (bank : Nat) (atFrame : Option Frame) (s : State) :
    Host.Outcome State Fault Refusal :=
  request env 0x17 (swapBody env bank atFrame) s

/-- SWAP_CANCEL (R91). -/
def execSwapCancel (env : Envelope) (s : State) : Host.Outcome State Fault Refusal :=
  request env 0x18 (swapCancelBody env) s

end Sys2Proof.Machine
end

