-- ==== Sys2Proof/Machine/DriveLinks.lean ====
section
/-! DEFINITION. The drive links' events and requests (R131 to R144). -/

namespace Sys2Proof.Machine

/-- A change of drive link l, where the link is present in the variant. -/
def onDriveLink (l : Nat) (f : State → State) (s : State) : State :=
  if s.hasDriveLink l then f s else s

/-- The participating link's part of the current transaction. -/
def txPart (s : State) (l : Nat) : Option (Transaction × TxLink) :=
  match s.drive.current with
  | none => none
  | some tx => (tx.links.find? (fun p => decide (p.link = l))).map (fun p => (tx, p))

/-! ### Beginning and line check -/

/-- TRANSACTION_BEGIN (R131): a request waits and no link is LOADING, LOADED or APPLYING. -/
def execTransactionBegin (idle0 idle1 : Bool) (s : State) : Host.Outcome State Fault Refusal :=
  awake s (fun t =>
    match t.drive.request with
    | none => t
    | some r =>
      if linksBusy t then t else beginTransaction r (fun l => if l = 0 then idle0 else idle1) t)

/-- R132: the return line falls idle: RECOVERED, then the LOAD. -/
def recoverLink (l : Nat) (s : State) : State :=
  match (s.driveLink l).state, txPart s l with
  | .recovering, some (tx, p) =>
    sendLoad tx p
      (s.modifyDriveLink l (fun r =>
        { r with status := .recovered, recovered := r.recovered + 1, timer := none }))
  | _, _ => s

/-- RECOVERY_LINE_IDLE (R132). -/
def execRecoveryLineIdle (link : Nat) (s : State) : Host.Outcome State Fault Refusal :=
  awake s (onDriveLink link (recoverLink link))

/-- R132, R134: the recovery window expires: FAULTED, the drop and the SAFE cause LINE_STUCK. -/
def stickLink (l : Nat) (order : SafeOrder) (between : State → State) (s : State) : State :=
  if (s.driveLink l).state = .recovering then
    let frame := (s.driveLink l).causeFrame
    dropAndSafe order .lineStuck .lineStuck frame between
      (s.modifyDriveLink l (fun r =>
        { r with state := .faulted, status := .lineStuck, lineStuck := r.lineStuck + 1, timer := none }))
  else s

/-! ### Replies to a LOAD -/

/-- R133, R135: TAKEN: the link becomes LOADED, or IDLE when the reply is late. -/
def takeTaken (l : Nat) (number : Byte) (uncorrectable : List Nat) (s : State) : State :=
  let r := s.driveLink l
  if r.awaitsLoadReply number then
    let late := replyIsLate s r
    let s1 := s.modifyDriveLink l (fun r =>
      { r with state := if late then s.restState l else .loaded, status := .taken, taken := r.taken + 1,
               timer := none })
    settle (if late then checkEnd s1 else pulseIfLoaded uncorrectable s1)
  else strayReply l s

/-- TAKEN_REPLY (R133, R135, R136). -/
def execTakenReply (link : Nat) (number : Byte) (uncorrectable : List Nat) (s : State) :
    Host.Outcome State Fault Refusal :=
  awake s (onDriveLink link (takeTaken link number uncorrectable))

/-- R133: what a REFUSED reply does to its link. -/
def DriveLink.refuse (r : DriveLink) (rest : DriveState) : RefuseReason → DriveLink
  | .crc => { r with state := rest, timer := none, status := .refusedCrc, refusedCrc := r.refusedCrc + 1 }
  | .length =>
    { r with state := rest, timer := none, status := .refusedLength, refusedLength := r.refusedLength + 1 }
  | .channelFault =>
    { r with state := rest, timer := none, status := .refusedChannel,
             refusedChannel := r.refusedChannel + 1 }

/-- R133, R134: the drop that a REFUSED reply makes; CHANNEL_FAULT also sends the SAFE cause. -/
def refusedOutcome (reason : RefuseReason) (order : SafeOrder) (frame : Option Frame)
    (between : State → State) (s : State) : State :=
  match reason with
  | .crc => settle (dropTransaction .refusedCrc s)
  | .length => settle (dropTransaction .refusedLength s)
  | .channelFault => dropAndSafe order .refusedChannel .refusedChannel frame between s

/-- R135: a late REFUSED drops nothing; CHANNEL_FAULT still sends the SAFE cause. -/
def lateRefused (reason : RefuseReason) (frame : Option Frame) (between : State → State) (s : State) :
    State :=
  let s1 := checkEnd s
  match reason with
  | .channelFault => enterSafe .refusedChannel frame (between s1)
  | _ => s1

/-- R133, R135: REFUSED. -/
def takeRefused (l : Nat) (number : Byte) (reason : RefuseReason) (order : SafeOrder)
    (between : State → State) (s : State) : State :=
  let r := s.driveLink l
  if r.awaitsLoadReply number then
    let s1 := s.setDriveLink l (r.refuse (s.restState l) reason)
    if replyIsLate s r then lateRefused reason r.causeFrame between s1
    else refusedOutcome reason order r.causeFrame between s1
  else strayReply l s

/-- R133, R135: the reply timer expires. -/
def expireReply (l : Nat) (s : State) : State :=
  let r := s.driveLink l
  match r.state, r.timer with
  | .loading, some (.reply _) =>
    let s1 := s.setDriveLink l
      { r with state := s.restState l, timer := none, status := .replyTimeout,
               replyTimeouts := r.replyTimeouts + 1 }
    if replyIsLate s r then checkEnd s1 else settle (dropTransaction .replyTimeout s1)
  | _, _ => s

/-- REPLY_TIMER_EXPIRY (R133 to R135). -/
def execReplyTimerExpiry (link : Nat) (s : State) : Host.Outcome State Fault Refusal :=
  awake s (onDriveLink link (expireReply link))

/-- R204: a reception cut short, or a complete frame that spells none of the four return frames, is
counted RX_ERROR. -/
def returnCounts : ReturnReception → Bool
  | .cutShort => true
  | .frame bytes => (returnFrame bytes).isNone

/-- RETURN_FRAME_DISCARD (R135, R204). -/
def execReturnFrameDiscard (link : Nat) (reception : ReturnReception) (s : State) :
    Host.Outcome State Fault Refusal :=
  awake s (onDriveLink link (fun t =>
    if returnCounts reception then
      t.modifyDriveLink link (fun r => { r with rxError := r.rxError + 1 })
    else t))

/-! ### After the pulse -/

/-- R141: the link has reached APPLIED in the current transaction. -/
def noteApplied (l : Nat) (s : State) : State :=
  match s.drive.current with
  | none => s
  | some tx => { s with drive := { s.drive with current := some { tx with applied := tx.applied ++ [l] } } }

/-- R137: APPLIED. -/
def takeApplied (l : Nat) (number : Byte) (s : State) : State :=
  if (s.driveLink l).awaitsApplied number then
    let s1 := s.modifyDriveLink l (fun r =>
      { r with state := s.restState l, timer := none, status := .applied, applied := r.applied + 1 })
    checkEnd (noteApplied l s1)
  else strayReply l s

/-- APPLIED_REPLY (R135, R137). -/
def execAppliedReply (link : Nat) (number : Byte) (s : State) : Host.Outcome State Fault Refusal :=
  awake s (onDriveLink link (takeApplied link number))

/-- R137: the first apply timeout of a SHAPE transaction is reported as a drive failure. -/
def reportApplyTimeout (s : State) : State :=
  match s.drive.current with
  | none => s
  | some tx =>
    if tx.kind = TxKind.shape ∧ tx.timeoutReported = false then
      reportDrive tx.frame
        { s with drive := { s.drive with current := some { tx with timeoutReported := true } } }
    else s

/-- R137: the apply timer expires. -/
def expireApply (l : Nat) (s : State) : State :=
  match (s.driveLink l).state, (s.driveLink l).timer with
  | .applying, some (.apply _) =>
    let s1 := s.modifyDriveLink l (fun r =>
      { r with state := s.restState l, timer := none, status := .applyTimeout,
               applyTimeouts := r.applyTimeouts + 1 })
    checkEnd (reportApplyTimeout (raise .driveFault s1))
  | _, _ => s

/-- APPLY_TIMER_EXPIRY (R137). -/
def execApplyTimerExpiry (link : Nat) (s : State) : Host.Outcome State Fault Refusal :=
  awake s (onDriveLink link (expireApply link))

/-! ### FAULT reports -/

/-- R138: the link becomes FAULTED with its timers stopped, and DRIVE_FAULT is raised. -/
def faultLink (l : Nat) (s : State) : State :=
  raise .driveFault
    (s.modifyDriveLink l (fun r =>
      { r with state := .faulted, status := .faultReport, faultReports := r.faultReports + 1,
               timer := none }))

/-- R138: before the pulse the link leaves its transaction (log 26). -/
def leaveTransaction (l : Nat) (s : State) : State :=
  s.modifyDriveLink l (fun r => { r with outstanding := none })

/-- R141: a report after the pulse leaves the link out of those that confirm (log 36). -/
def withdrawApplied (l : Nat) (tx : Transaction) (s : State) : State :=
  { s with drive := { s.drive with current := some { tx with applied := tx.applied.filter (fun m => m != l) } } }

/-- R138: the effect on the transaction and the loop after the link is FAULTED. -/
def afterFault (l : Nat) (order : SafeOrder) (frame : Option Frame) (between : State → State)
    (s : State) : State :=
  let safe := fun t => enterSafe .faultReport frame (between t)
  match txPart s l with
  | none => safe s
  | some (tx, _) =>
    if tx.pulsed then safe (checkEnd (withdrawApplied l tx s))
    else if tx.dropped then safe (checkEnd (leaveTransaction l s))
    else if s.loop.state.running then safe (leaveTransaction l s)
    else dropAndSafe order .faultReport .faultReport frame between (leaveTransaction l s)

/-- R138: a FAULT report. -/
def takeFault (l : Nat) (order : SafeOrder) (between : State → State) (s : State) : State :=
  let frame := (s.driveLink l).causeFrame
  afterFault l order frame between (faultLink l s)

/-! ### Requests -/

/-- R143: the checks and effect of LINK_RESET. -/
def linkResetBody (env : Envelope) (link : Nat) (s : State) : Verdict :=
  whenFits env s
    (if !s.hasDriveLink link then refuse .notPresent 1 s
    else if (s.driveLink link).state ≠ .faulted then refuse .wrongState 0 s
    else .done (s.modifyDriveLink link (fun r => { r with state := s.restState link })))

/-- R144 check 4: the lowest actuator below N in the effective table that the new M does not carry. -/
def uncarried (t : ActTable) (link m : Nat) : Option Nat :=
  (List.range t.n).find? (fun a =>
    decide ((t.actuator a).link = link) && decide (m ≤ (t.actuator a).channel))

/-- R144: the new configuration, its timers clamped. -/
def DriveLink.configure (r : DriveLink) (m park reply apply window : Nat) : DriveLink :=
  { r with channels := m, park := park, replyTimeout := clamp 5 500 reply,
           applyTimeout := clamp 5 2000 apply, recoveryWindow := clamp 10 1000 window }

/-- R144: some timer value was brought to an end of its range. -/
def timersClamped (reply apply window : Nat) : Bool :=
  decide (clamp 5 500 reply ≠ reply) || decide (clamp 5 2000 apply ≠ apply) ||
    decide (clamp 10 1000 window ≠ window)

/-- R144: the checks and effect of LINK_CONFIG. -/
def linkConfigBody (env : Envelope) (link m park reply apply window : Nat) (s : State) : Verdict :=
  whenFits env s
    (if !s.hasDriveLink link then refuse .notPresent 1 s
    else if m = 0 then refuse .badArgument 2 s
    else if Config.channels s.variant < m then refuse .notPresent 2 s
    else if m ≠ (s.driveLink link).channels ∧ s.loop.state ≠ .stopped then refuse .wrongState 0 s
    else
      match uncarried s.effective link m with
      | some a => refuseValue .conflict 2 a s
      | none =>
        .ok [] (timersClamped reply apply window)
          (s.modifyDriveLink link (fun r => r.configure m park reply apply window)))

/-- LINK_RESET (R143). -/
def execLinkReset (env : Envelope) (link : Nat) (s : State) : Host.Outcome State Fault Refusal :=
  request env 0x23 (linkResetBody env link) s

/-- LINK_CONFIG (R144). -/
def execLinkConfig (env : Envelope) (link m park reply apply window : Nat) (s : State) :
    Host.Outcome State Fault Refusal :=
  request env 0x24 (linkConfigBody env link m park reply apply window) s

end Sys2Proof.Machine
end

