-- ==== Sys2Proof/Machine/LoopControl.lean ====
section
/-! DEFINITION. The requests of the loop controller (R150 to R164). -/

namespace Sys2Proof.Machine

/-- The lowest FAULTED drive link (R150). -/
def faultedLink (s : State) : Option Nat :=
  s.driveLinkList.find? (fun l => decide ((s.driveLink l).state = .faulted))

/-- Some sensor is REQUIRED (R150 check 5). -/
def anyRequired (s : State) : Bool :=
  s.slopeLinkList.any (fun n => decide ((s.sensor n).role = .required))

/-- R150: LOOP_OPEN in STOPPED. -/
def openFromStopped (s : State) : Verdict :=
  if s.drive.biasSend.isSome then refuse .busy 0 s
  else
    match s.activeBank with
    | none => refuse .noMatrix 0 s
    | some b =>
      if (s.bank b).rows.getD 0 ≠ s.table.n then
        refuseDetail .mismatch 0 .rows (some ((s.bank b).rows.getD 0)) s
      else if !mapFits s.slopeMap ((s.bank b).columns.getD 0) then
        refuseDetail .mismatch 0 .columns (some ((s.bank b).columns.getD 0)) s
      else if !anyRequired s then refuseDetail .wrongState 0 .noRequired none s
      else
        match faultedLink s with
        | some l => refuseDetail .wrongState 0 .linkFaulted (some l) s
        | none => .done (enterTracking .opened .loopOpen none s)

/-- R150, R151: leaving HOLD, which no FAULTED link may stand against. -/
def leaveHold (target : Target) (cause : LoopCause) (s : State) : Verdict :=
  match faultedLink s with
  | some _ => refuseDetail .wrongState 0 .linkFaulted none s
  | none => .done (enterTracking target cause none s)

/-- R152: a transition is scheduled at a frame. -/
def schedule (env : Envelope) (target : Target) (f : Frame) (s : State) : Verdict :=
  if s.loop.state ≠ .opened ∧ s.loop.state ≠ .closed then refuse .wrongState 0 s
  else
    match s.loop.pendingTransition with
    | some p => refuseOwner .busy 0 (some p.sender) s
    | none =>
      match s.lastClosed with
      | some l =>
        if newer f l then
          .done { s with loop := { s.loop with
            pendingTransition := some { target := target, frame := f, sender := env.master } } }
        else refuseValue .tooLate 1 l.toNat s
      | none =>
        .done { s with loop := { s.loop with
          pendingTransition := some { target := target, frame := f, sender := env.master } } }

/-- R150: LOOP_OPEN without a frame. -/
def openNow (s : State) : Verdict :=
  match s.loop.state with
  | .stopped => openFromStopped s
  | .opened => .done s
  | .closed => .done (enterTracking .opened .loopOpen none s)
  | .hold => leaveHold .opened .loopOpen s
  | .safe => refuse .wrongState 0 s

/-- R151: LOOP_CLOSE without a frame. -/
def closeNow (s : State) : Verdict :=
  match s.loop.state with
  | .stopped => refuse .wrongState 0 s
  | .opened => .done (enterTracking .closed .loopClose none s)
  | .closed => .done s
  | .hold => leaveHold .closed .loopClose s
  | .safe => refuse .wrongState 0 s

/-- R150, R152: LOOP_OPEN. -/
def loopOpenBody (env : Envelope) (atFrame : Option Frame) (s : State) : Verdict :=
  whenFits env s
    (match atFrame with
      | none => openNow s
      | some f => schedule env .opened f s)

/-- R151, R152: LOOP_CLOSE. -/
def loopCloseBody (env : Envelope) (atFrame : Option Frame) (s : State) : Verdict :=
  whenFits env s
    (match atFrame with
      | none => closeNow s
      | some f => schedule env .closed f s)

/-- R155: LOOP_STOP. -/
def loopStopBody (env : Envelope) (s : State) : Verdict :=
  whenFits env s (if s.loop.state = .stopped then .done s else .done (enterStopped s))

/-- R154: LOOP_SAFE. -/
def loopSafeBody (env : Envelope) (s : State) : Verdict :=
  whenFits env s (.done (enterSafe .loopSafe none s))

/-- R140, R162: FLATTEN. A bias send in flight is judged first (log 33). -/
def flattenBody (env : Envelope) (s : State) : Verdict :=
  whenFits env s
    (if s.drive.biasSend.isSome then refuse .busy 0 s
    else if s.loop.state.running then refuse .wrongState 0 s
    else .accepted (beginBiasSend s))

/-- R161: some value was brought to an end of its range. -/
def loopConfigClamped (deadline missed stroke drive : Nat) : Bool :=
  decide (clamp 20 5000 deadline ≠ deadline) || decide (clamp 1 255 missed ≠ missed) ||
    decide (clamp 1 255 stroke ≠ stroke) || decide (clamp 1 255 drive ≠ drive)

/-- R161: LOOP_CONFIG. -/
def loopConfigBody (env : Envelope) (deadline missed stroke drive : Nat) (s : State) : Verdict :=
  whenFits env s
    (.ok [] (loopConfigClamped deadline missed stroke drive)
      { s with loop := { s.loop with
        deadline := clamp 20 5000 deadline, missedThreshold := clamp 1 255 missed,
        strokeThreshold := clamp 1 255 stroke, driveThreshold := clamp 1 255 drive } })

/-- R164: the last transition: state, cause, frame. -/
def LastTransition.bytes (t : LastTransition) : List Byte :=
  be8 t.entered.number ++ be8 t.cause.number ++ beOptFrame t.frame

/-- R164: the pending transition: target, frame, sender. -/
def PendingTransition.bytes (p : PendingTransition) : List Byte :=
  be8 p.target.number ++ be16 p.frame.toNat ++ be8 p.sender

/-- R164: LOOP_STATUS. -/
def loopStatusBody (env : Envelope) (s : State) : Verdict :=
  whenFits env s
    (let l := s.loop
    .report (be8 l.state.number ++ beOption 5 (l.lastTransition.map LastTransition.bytes) ++
      be8 l.missedRun ++ be8 l.strokeRun ++ be8 l.driveRun ++ be8 l.missedThreshold ++
      be8 l.strokeThreshold ++ be8 l.driveThreshold ++ be16 l.deadline ++
      beOption 4 (l.pendingTransition.map PendingTransition.bytes) ++ beFlag l.safeConfirmed ++
      beFlag s.drive.biasSend.isSome ++ beOptNat 1 be8 s.activeBank ++ beCount l.holdEntries ++
      beCount l.safeEntries) s)

/-- LOOP_OPEN (R150, R152). -/
def execLoopOpen (env : Envelope) (atFrame : Option Frame) (s : State) :
    Host.Outcome State Fault Refusal :=
  request env 0x25 (loopOpenBody env atFrame) s

/-- LOOP_CLOSE (R151, R152). -/
def execLoopClose (env : Envelope) (atFrame : Option Frame) (s : State) :
    Host.Outcome State Fault Refusal :=
  request env 0x26 (loopCloseBody env atFrame) s

/-- LOOP_STOP (R155). -/
def execLoopStop (env : Envelope) (s : State) : Host.Outcome State Fault Refusal :=
  request env 0x27 (loopStopBody env) s

/-- LOOP_SAFE (R154). -/
def execLoopSafe (env : Envelope) (s : State) : Host.Outcome State Fault Refusal :=
  request env 0x28 (loopSafeBody env) s

/-- FLATTEN (R162). -/
def execFlatten (env : Envelope) (s : State) : Host.Outcome State Fault Refusal :=
  request env 0x29 (flattenBody env) s

/-- LOOP_CONFIG (R161). -/
def execLoopConfig (env : Envelope) (deadline missed stroke drive : Nat) (s : State) :
    Host.Outcome State Fault Refusal :=
  request env 0x2A (loopConfigBody env deadline missed stroke drive) s

/-- LOOP_STATUS (R164). -/
def execLoopStatus (env : Envelope) (s : State) : Host.Outcome State Fault Refusal :=
  request env 0x2B (loopStatusBody env) s

end Sys2Proof.Machine
end

