-- ==== Sys2Proof/Machine/SlotsEngine.lean ====
section
/-! DEFINITION. The frame assembler's and the engine's own steps and their status requests (R42, R50, R56,
R61 to R66), and the command stage's check of a built shape (R118 to R120, R127). -/

namespace Sys2Proof.Machine

/-! ### Events -/

/-- R56: one slope of the current segment is worked. -/
def workNextSlope (w : SegmentWork) (slope : Int) (rest : List Int) (uncorrectable : List Nat)
    (s : State) : State :=
  let number := w.first + w.worked
  let s1 := workSlope w.slot slope (Table.get zeroes w.refs number) w.scale
    (slopeColumns s.slopeMap w.link number) uncorrectable s
  let s2 := segmentStep w rest s1
  if rest.isEmpty then settle s2 else s2

/-- SLOPE_WORK (R56): while the engine is in SEGMENT. -/
def execSlopeWork (uncorrectable : List Nat) (s : State) : Host.Outcome State Fault Refusal :=
  awake s (fun t =>
    match t.engine.work with
    | .segment w =>
      match w.rest with
      | [] => t
      | slope :: rest => workNextSlope w slope rest uncorrectable t
    | _ => t)

/-- DEADLINE_EXPIRY (R42): a slot whose deadline timer runs closes; the others are left as they are. -/
def execDeadlineExpiry (slot : Nat) (s : State) : Host.Outcome State Fault Refusal :=
  awake s (fun t =>
    if slot < 2 ∧ (t.slot slot).state = .opened ∧ (t.slot slot).deadline.isSome then
      settle (closeSlot slot .deadline t)
    else t)

/-- FILL_IN_COLUMN (R62): the next uncovered column of the pass. -/
def execFillInColumn (uncorrectable : Bool) (s : State) : Host.Outcome State Fault Refusal :=
  awake s (fun t =>
    match t.engine.work with
    | .fill w =>
      match t.fillNext w with
      | some next =>
        let t1 := fillColumn w next.1 uncorrectable t
        { t1 with engine := { t1.engine with work := .fill { w with position := next.2 } } }
      | none => t
    | _ => t)

/-- RESIDUALS_DONE (R63 to R65): once no uncovered column of the pass is left. -/
def execResidualsDone (s : State) : Host.Outcome State Fault Refusal :=
  awake s (fun t =>
    match t.engine.work with
    | .fill w =>
      match t.fillNext w with
      | some _ => t
      | none => settle (finishPass w.slot t)
    | _ => t)

/-- R118 to R120: the built shape passes or is dropped. -/
def checkShape (w : StageFrame) (s : State) : State :=
  let shape := buildShape w (s.slot w.slot).acc
  if violatedCount w.pairs shape.outputs = 0 then handOver w shape s else settle (strokeDrop w shape s)

/-- SHAPE_CHECKED (R113 to R120): while the stage is BUILDING. -/
def execShapeChecked (s : State) : Host.Outcome State Fault Refusal :=
  awake s (fun t =>
    match t.stage.phase with
    | .building w => checkShape w t
    | _ => t)

/-! ### Status requests -/

/-- R50: the age of a slot that is not FREE, saturated to 65,535. -/
def slotAge (s : State) (slot : Slot) : Nat := min (s.now - slot.openedAt) 65535

/-- R50: the field of a slot that is not FREE. -/
def unlessFree (slot : Slot) (field : List Byte) : Option (List Byte) :=
  if slot.state = .free then none else some field

/-- R50: the fields of one slot. The four arrival states are no list with a count (log 45). -/
def slotPayload (s : State) (slot : Slot) : List Byte :=
  be8 slot.state.number ++ beOption 2 (unlessFree slot (be16 slot.frame.toNat)) ++
    beOption 1 (unlessFree slot (be8 slot.bank)) ++
    beOption 2 (unlessFree slot (be16 (slotAge s slot))) ++
    beOption 1 (slot.closeCause.map (fun c => be8 c.number)) ++
    (List.range 4).flatMap (fun n => be8 (arrivalOf slot.arrivals n).number) ++
    be16 slot.coverage.length ++ be16 slot.invalid ++ be16 slot.saturated ++ be16 slot.substituted ++
    beFlag slot.degraded ++ beFlag slot.mixed

/-- R50: SLOT_STATUS. -/
def slotStatusBody (env : Envelope) (s : State) : Verdict :=
  whenFits env s
    (.report (beOptFrame s.lastClosed ++ slotPayload s (s.slot 0) ++ slotPayload s (s.slot 1)) s)

/-- R66: the engine's state number. -/
def Work.number : Work → Nat
  | .idle => 0
  | .segment _ => 1
  | .fill _ => 2

/-- R66: slot, link, frame, first slope, count and slopes worked, in SEGMENT. -/
def Work.segmentBytes : Work → Option (List Byte)
  | .segment w => some (be8 w.slot ++ be8 w.link ++ be16 w.frame.toNat ++ be16 w.first ++ be8 w.count ++
      be8 w.worked)
  | _ => none

/-- R66: slot and frame, in FILL. -/
def Work.fillBytes : Work → Option (List Byte)
  | .fill w => some (be8 w.slot ++ be16 w.frame.toNat)
  | _ => none

/-- R66: ENGINE_STATUS. -/
def engineStatusBody (env : Envelope) (s : State) : Verdict :=
  whenFits env s
    (let e := s.engine
    .report (be8 e.work.number ++ beOption 8 e.work.segmentBytes ++ beOption 3 e.work.fillBytes ++
      beOptNat 1 be8 e.lastServed ++ beCount e.segmentsDone ++ beCount e.segmentsCut ++
      beCount e.passesDone ++ beCount e.passesCut) s)

/-- A poke's bytes: actuator and signed offset (R206). -/
def Poke.bytes (p : Poke) : List Byte := be16 p.actuator ++ beInt16 p.offset

/-- R127: the frame in the stage: slot, frame, loop state, clamp count so far, poke. -/
def stageGroup (w : StageFrame) (clamp : Nat) : List Byte :=
  be8 w.slot ++ be16 w.frame.toNat ++ be8 w.loopRead.number ++ be16 clamp ++
    beOption 4 (w.poke.map Poke.bytes)

/-- R127: the stage's state number. -/
def StagePhase.number : StagePhase → Nat
  | .idle => 0
  | .building _ => 1
  | .sending _ _ => 2

/-- R127: the frame's fields in BUILDING and SENDING. -/
def StagePhase.group : StagePhase → Option (List Byte)
  | .idle => none
  | .building w => some (stageGroup w 0)
  | .sending w shape => some (stageGroup w shape.clamp)

/-- R127: STAGE_STATUS. -/
def stageStatusBody (env : Envelope) (s : State) : Verdict :=
  whenFits env s
    (let g := s.stage
    .report (be8 g.phase.number ++ beOption 11 g.phase.group ++ be8 s.hold.length ++
      beCount g.committed ++ beCount g.droppedStroke ++ beCount g.droppedDrive ++ beCount g.held ++
      beCount g.cut) s)

/-- SLOT_STATUS (R50). -/
def execSlotStatus (env : Envelope) (s : State) : Host.Outcome State Fault Refusal :=
  request env 0x0D (slotStatusBody env) s

/-- ENGINE_STATUS (R66). -/
def execEngineStatus (env : Envelope) (s : State) : Host.Outcome State Fault Refusal :=
  request env 0x0E (engineStatusBody env) s

/-- STAGE_STATUS (R127). -/
def execStageStatus (env : Envelope) (s : State) : Host.Outcome State Fault Refusal :=
  request env 0x22 (stageStatusBody env) s

end Sys2Proof.Machine
end

