-- ==== Sys2Proof/Machine/ScanTelemetry.lean ====
section
/-! DEFINITION. The requests of the scan unit and of the telemetry unit, and the layout of a record in a
reply (R168 to R183, R206). -/

namespace Sys2Proof.Machine

/-! ### Scan -/

/-- R168 check 2: A, P, pattern and Q in their ranges; the place of one that is not, in the order of the model
(log 47). -/
def scanArgumentFault (amplitude dwell pattern cycles : Nat) : Option Nat :=
  if amplitude < 1 ∨ 32767 < amplitude then some 3
  else if dwell < 1 ∨ 64 < dwell then some 4
  else if 255 < cycles then some 6
  else if (patternOf pattern).isNone then some 5 else none

/-- R168: a scan at its first position. -/
def startScan (low high amplitude dwell : Nat) (pattern : Pattern) (cycles : Nat) (s : State) : State :=
  { s with scan :=
    { state := .running, poked := 0,
      run := some { low := low, high := high, amplitude := amplitude, dwell := dwell, pattern := pattern,
                    cycles := cycles, actuator := low, phase := .push, framesLeft := dwell,
                    cyclesDone := 0, endCause := none } } }

/-- R168: the checks and effect of SCAN_START. A low above high is refused with the position of low, by the
model's choice (log 41). -/
def scanStartBody (env : Envelope) (low high amplitude dwell pattern cycles : Nat) (s : State) :
    Verdict :=
  whenFits env s
    (match scanArgumentFault amplitude dwell pattern cycles with
      | some place => refuse .badArgument place s
      | none =>
        if Config.actuators s.variant ≤ high then refuse .notPresent 2 s
        else if high < low then refuse .badArgument 1 s
        else if s.loop.state ≠ .opened then refuse .wrongState 0 s
        else if s.scan.state = .running then refuse .busy 0 s
        else if s.table.n ≤ high then refuseValue .conflict 2 s.table.n s
        else .done (startScan low high amplitude dwell ((patternOf pattern).getD .push) cycles s))

/-- R171: SCAN_STOP. -/
def scanStopBody (env : Envelope) (s : State) : Verdict :=
  whenFits env s (.done (scanAbort .scanStop s))

/-- R172: parameters, position, poked frames and end cause. -/
def ScanRun.bytes (r : ScanRun) (poked : Count32) : List Byte :=
  be16 r.low ++ be16 r.high ++ be16 r.amplitude ++ be8 r.dwell ++ be8 r.pattern.number ++
    be8 r.cycles ++ be16 r.actuator ++ be8 r.phase.number ++ be8 r.framesLeft ++ [r.cyclesDone] ++
    beCount poked ++ beOption 1 (r.endCause.map (fun c => be8 c.number))

/-- R172: SCAN_STATUS. -/
def scanStatusBody (env : Envelope) (s : State) : Verdict :=
  whenFits env s
    (.report (be8 s.scan.state.number ++ beOption 20 (s.scan.run.map (fun r => r.bytes s.scan.poked))) s)

/-! ### Records as bytes (R206) -/

/-- A presence bit. -/
def presentBit (present : Bool) (weight : Nat) : Nat := if present then weight else 0

/-- R206 byte 1. -/
def Record.presence (r : Record) : Nat :=
  presentBit r.frame.isSome 1 + presentBit r.bank.isSome 2 + presentBit r.closeCause.isSome 4 +
    presentBit r.firstViolated.isSome 8 + presentBit r.peak.isSome 16 + presentBit r.poke.isSome 32 +
    presentBit r.capture.isSome 64

/-- R206 byte 2. -/
def Record.flags (r : Record) : Nat :=
  presentBit r.degraded 1 + presentBit r.mixed 2 + presentBit r.captureLost 4 +
    presentBit r.captureDamaged 8

/-- R206 byte 7: two bits per sensor, sensor 0 lowest. -/
def Record.arrivalByte (r : Record) : Nat :=
  (arrivalOf r.arrivals 0).number + 4 * (arrivalOf r.arrivals 1).number +
    16 * (arrivalOf r.arrivals 2).number + 64 * (arrivalOf r.arrivals 3).number

/-- R206 bytes 37 to 39. DONE and ABORTED are carried as the scan states 2 and 3 of R167, by the model's
choice (log 43). -/
def eventBytes : Option EventDetail → List Byte
  | none => be8 0 ++ be8 0 ++ be8 0
  | some (.loopState entered cause) => be8 0 ++ be8 entered.number ++ be8 cause.number
  | some (.swap bank) => be8 1 ++ be8 bank ++ be8 0
  | some (.scanEnd state cause) =>
    be8 2 ++ be8 state.number ++ be8 ((cause.map EndCause.number).getD 0)

/-- R206: a record as 40 bytes. -/
def Record.bytes (r : Record) : List Byte :=
  let v := r.firstViolated.getD (0, 0, 0)
  let peak := r.peak.getD (0, 0)
  be8 r.kind.number ++ be8 r.presence ++ be8 r.flags ++ be16 ((r.frame.map BitVec.toNat).getD 0) ++
    be8 r.loop.number ++ be8 (r.bank.getD 0) ++ be8 r.arrivalByte ++
    be8 ((r.closeCause.map CloseCause.number).getD 0) ++ be16 r.covered ++ be16 r.substituted ++
    be16 r.invalid ++ be16 r.saturated ++ be16 r.clamp ++ be16 r.violated ++ be16 v.1 ++ be16 v.2.1 ++
    be16 v.2.2 ++ be24 peak.1 ++ be16 peak.2 ++ (r.poke.map Poke.bytes).getD (be16 0 ++ be16 0) ++
    be8 (r.capture.getD 0) ++ eventBytes r.event

/-! ### Telemetry -/

/-- R176: TELEM_SELECT. -/
def telemSelectBody (env : Envelope) (kinds : BitVec 16) (s : State) : Verdict :=
  whenFits env s
    (if !kindsKnown kinds then refuse .badArgument 1 s
    else
      .ok (beSet kinds.toNat) false
        { s with telem := { s.telem with selection := kinds.setWidth 7 } })

/-- R180: the capture slots named by popped records become free. -/
def freeCaptures (captures : Table (Option Capture)) (popped : List Record) : Table (Option Capture) :=
  popped.foldl (fun t r =>
    match r.capture with
    | some k => Table.set noCapture t k none
    | none => t) captures

/-- R180: the FIFO without its first records. -/
def popRecords (count : Nat) (s : State) : State :=
  { s with telem := { s.telem with
      fifo := s.telem.fifo.drop count
      captures := freeCaptures s.telem.captures (s.telem.fifo.take count) } }

/-- R180: TELEM_POP. -/
def telemPopBody (env : Envelope) (count : Nat) (s : State) : Verdict :=
  whenFits env s
    (if count < 1 ∨ 8 < count then refuse .badArgument 1 s
    else
      let popped := s.telem.fifo.take count
      let s1 := popRecords count s
      .ok (be8 popped.length ++ be16 s1.telem.fifo.length ++ beFlag s1.telem.overflow ++
        beCount s1.telem.lost ++ popped.flatMap Record.bytes) false s1)

/-- R181: the sequence of C slope values and N outputs of a capture slot, two bytes each. -/
def Capture.value (c : Capture) (i : Nat) : List Byte :=
  if i < c.columns then beInt16 (Table.get zeroes c.slopes i) else be16 (c.outputs.getD (i - c.columns) 0)

/-- R181: the values asked for; one whose read is uncorrectable is 0. -/
def Capture.values (c : Capture) (offset length : Nat) (uncorrectable : List Nat) : List Byte :=
  (List.range length).flatMap (fun i =>
    if uncorrectable.contains (offset + i) then be16 0 else c.value (offset + i))

/-- R181: some value asked for has an uncorrectable read. -/
def readDamaged (offset length : Nat) (uncorrectable : List Nat) : Bool :=
  uncorrectable.any (fun i => decide (offset ≤ i) && decide (i < offset + length))

/-- R181: CAPTURE_READ. Where slot and length both fail check 1, the slot is named (log 47), and an offset + length
beyond the slot's values is refused with the position of offset (log 42), both by the model's choice. -/
def captureReadBody (env : Envelope) (slot offset length : Nat) (uncorrectable : List Nat) (s : State) :
    Verdict :=
  whenFits env s
    (if 31 < slot then refuse .badArgument 1 s
    else if length < 1 ∨ 1000 < length then refuse .badArgument 3 s
    else
      match s.telem.captureSlot slot with
      | none => refuse .wrongState 0 s
      | some c =>
        if c.columns + c.n < offset + length then refuseValue .badArgument 2 (c.columns + c.n) s
        else
          .report (be16 c.frame.toNat ++ be16 c.columns ++ be16 c.n ++
            beFlag (readDamaged offset length uncorrectable) ++
            c.values offset length uncorrectable) s)

/-- R182: the position of the record that names capture slot k, from the head of the FIFO. -/
def capturePosition (t : Telem) (k : Nat) : Nat :=
  (t.fifo.findIdx? (fun r => decide (r.capture = some k))).getD 0

/-- R182: capture slot k: free, or its frame and the position of its record. -/
def captureSlotBytes (t : Telem) (k : Nat) : List Byte :=
  beOption 4 ((t.captureSlot k).map (fun c => be16 c.frame.toNat ++ be16 (capturePosition t k)))

/-- R182: TELEM_STATUS. The 32 capture slots are no list with a count (log 45). -/
def telemStatusBody (env : Envelope) (s : State) : Verdict :=
  whenFits env s
    (let t := s.telem
    .report (be16 t.fifo.length ++ beFlag t.overflow ++ beCount t.lost ++ beSet t.selection.toNat ++
      be8 (onOffNumber s.port.features.capture) ++
      (List.range Config.captureSlots).flatMap (captureSlotBytes t) ++
      beFlag (t.image 0).isSome ++ beFlag (t.image 1).isSome) s)

/-- R183: TELEM_RESET. -/
def telemResetBody (env : Envelope) (s : State) : Verdict :=
  whenFits env s
    (.done { s with telem := { s.telem with fifo := [], captures := [], overflow := false, lost := 0 } })

/-- SCAN_START (R168). -/
def execScanStart (env : Envelope) (low high amplitude dwell pattern cycles : Nat) (s : State) :
    Host.Outcome State Fault Refusal :=
  request env 0x2C (scanStartBody env low high amplitude dwell pattern cycles) s

/-- SCAN_STOP (R171). -/
def execScanStop (env : Envelope) (s : State) : Host.Outcome State Fault Refusal :=
  request env 0x2D (scanStopBody env) s

/-- SCAN_STATUS (R172). -/
def execScanStatus (env : Envelope) (s : State) : Host.Outcome State Fault Refusal :=
  request env 0x2E (scanStatusBody env) s

/-- TELEM_SELECT (R176). -/
def execTelemSelect (env : Envelope) (kinds : BitVec 16) (s : State) :
    Host.Outcome State Fault Refusal :=
  request env 0x2F (telemSelectBody env kinds) s

/-- TELEM_POP (R180). -/
def execTelemPop (env : Envelope) (count : Nat) (s : State) : Host.Outcome State Fault Refusal :=
  request env 0x30 (telemPopBody env count) s

/-- CAPTURE_READ (R181). -/
def execCaptureRead (env : Envelope) (slot offset length : Nat) (uncorrectable : List Nat) (s : State) :
    Host.Outcome State Fault Refusal :=
  request env 0x31 (captureReadBody env slot offset length uncorrectable) s

/-- TELEM_STATUS (R182). -/
def execTelemStatus (env : Envelope) (s : State) : Host.Outcome State Fault Refusal :=
  request env 0x32 (telemStatusBody env) s

/-- TELEM_RESET (R183). -/
def execTelemReset (env : Envelope) (s : State) : Host.Outcome State Fault Refusal :=
  request env 0x33 (telemResetBody env) s

end Sys2Proof.Machine
end

