-- ==== Sys2Proof/Machine/Sensors.lean ====
section
/-! DEFINITION. Sensor configuration, reference tables, slope map and slope store: the requests of R19
to R31. -/

namespace Sys2Proof.Machine

/-- R19: some sensor would be REQUIRED with sensor n given a role. -/
def someRequired (s : State) (n : Nat) (role : Role) : Bool :=
  s.slopeLinkList.any (fun m => decide ((if m = n then role else (s.sensor m).role) = .required))

/-- R19: the checks and effect of SENSOR_ROLE. -/
def sensorRoleBody (env : Envelope) (sensor role : Nat) (s : State) : Verdict :=
  whenFits env s
    (if !s.hasSlopeLink sensor then refuse .notPresent 1 s
    else
      match roleOf role with
      | none => refuse .badArgument 2 s
      | some r =>
        if s.loop.state.running && !someRequired s sensor r then refuse .conflict 2 s
        else .done (s.setSensor sensor { s.sensor sensor with role := r }))

/-- R20: the checks and effect of SENSOR_TAG. -/
def sensorTagBody (env : Envelope) (sensor tag : Nat) (s : State) : Verdict :=
  whenFits env s
    (if !s.hasSlopeLink sensor then refuse .notPresent 1 s
    else if 15 < tag then refuse .badArgument 2 s
    else .done (s.setSensor sensor { s.sensor sensor with tag := tag }))

/-- R27: the changed mark of sensor n is set in slot k when the slot is not FREE and has conditioned it. -/
def markSlot (n k : Nat) (s : State) : State :=
  if (s.slot k).state ≠ .free ∧ (s.slot k).conditioned.contains n then
    s.modifySlot k (fun r => { r with changed := NatSet.add r.changed n })
  else s

/-- R27, for both slots. -/
def markChanged (n : Nat) (s : State) : State := markSlot n 1 (markSlot n 0 s)

/-- R21: the checks and effect of SENSOR_SCALE. -/
def sensorScaleBody (env : Envelope) (sensor scale : Nat) (s : State) : Verdict :=
  whenFits env s
    (if !s.hasSlopeLink sensor then refuse .notPresent 1 s
    else .done (markChanged sensor (s.setSensor sensor { s.sensor sensor with scale := scale })))

/-- R22: the position of the first map entry of a sensor whose end lies beyond a slope count. -/
def entryBeyond (entries : List MapEntry) (sensor count : Nat) : Option Nat :=
  entries.findIdx? (fun e => decide (e.sensor = sensor) && decide (count < e.first + e.count))

/-- R22: the checks and effect of SENSOR_COUNT. -/
def sensorCountBody (env : Envelope) (sensor count : Nat) (s : State) : Verdict :=
  whenFits env s
    (if !s.hasSlopeLink sensor then refuse .notPresent 1 s
    else if Config.slopesPerSensor < count then refuse .badArgument 2 s
    else if s.swapPending then refuse .busy 0 s
    else if s.loop.state ≠ .stopped then refuse .wrongState 0 s
    else
      match entryBeyond s.slopeMap sensor count with
      | some i => refuseValue .conflict 2 i s
      | none => .done (s.setSensor sensor { s.sensor sensor with slopeCount := count }))

/-- R24: SENSOR_READ. -/
def sensorReadBody (env : Envelope) (sensor : Nat) (s : State) : Verdict :=
  whenFits env s
    (if !s.hasSlopeLink sensor then refuse .notPresent 1 s
    else
      let r := s.sensor sensor
      .report (be8 r.role.number ++ be16 r.slopeCount ++ be16 r.scale ++ be8 r.tag) s)

/-- R23: the checks and effect of REF_WRITE; the payload check is part of check 2. A count out of
range is named before a payload that does not hold count offsets, and a range that ends too high is refused with
the position of first, by the model's choice (log 47). -/
def refWriteBody (env : Envelope) (sensor first count : Nat) (offsets : List Int) (s : State) :
    Verdict :=
  if !s.hasSlopeLink sensor then refuse .notPresent 1 s
  else if count < 1 ∨ 1000 < count then refuse .badArgument 3 s
  else if !env.payloadFits then refusePayload s
  else if Config.slopesPerSensor < first + count then refuse .badArgument 2 s
  else
    match offsets.findIdx? (fun i => decide (i = invalidMarker)) with
    | some i => refuse .badArgument i s
    | none =>
      let r := s.sensor sensor
      .done (markChanged sensor (s.setSensor sensor { r with refs := Table.setList zeroes r.refs first offsets }))

/-- R24: REF_READ. A range that ends too high is refused with the position of first (log 47). -/
def refReadBody (env : Envelope) (sensor first count : Nat) (s : State) : Verdict :=
  whenFits env s
    (if !s.hasSlopeLink sensor then refuse .notPresent 1 s
    else if count < 1 ∨ 1000 < count then refuse .badArgument 3 s
    else if Config.slopesPerSensor < first + count then refuse .badArgument 2 s
    else .report ((Table.getList zeroes (s.sensor sensor).refs first count).flatMap beInt16) s)

/-- The column lies in the range of an entry. -/
def covers (e : MapEntry) (j : Nat) : Bool :=
  decide (e.column ≤ j) && decide (j < e.column + e.count)

/-- R29 check 4: the first column an entry shares with the earlier entries. -/
def sharedColumn (earlier : List MapEntry) (e : MapEntry) : Option Nat :=
  (entryColumns e).find? (fun j => earlier.any (fun p => covers p j))

/-- R29 check 4: why an entry fails after the earlier ones: status and offending value. -/
def entryFault (s : State) (earlier : List MapEntry) (e : MapEntry) : Option (Status × Option Int) :=
  if !s.hasSlopeLink e.sensor then some (.notPresent, some e.sensor)
  else if 2047 < e.first ∨ e.count < 1 ∨ 2048 < e.count then
    some (.badArgument, some (e.first + e.count))
  else if (s.sensor e.sensor).slopeCount < e.first + e.count then
    some (.conflict, some (e.first + e.count))
  else if Config.columns s.variant < e.column + e.count then some (.notPresent, none)
  else (sharedColumn earlier e).map (fun j => (.conflict, some (j : Int)))

/-- R29 check 4: the first entry that fails, with its position. -/
def mapFault (s : State) (earlier : List MapEntry) : List MapEntry → Option (Nat × Status × Option Int)
  | [] => none
  | e :: rest =>
    match entryFault s earlier e with
    | some f => some (earlier.length, f.1, f.2)
    | none => mapFault s (earlier ++ [e]) rest

/-- R29: the checks and effect of MAP_WRITE. -/
def mapWriteBody (env : Envelope) (entries : List MapEntry) (s : State) : Verdict :=
  whenFits env s
    (if Config.mapEntries < entries.length then refuse .badArgument 0 s
    else if s.swapPending then refuse .busy 0 s
    else if s.loop.state ≠ .stopped then refuse .wrongState 0 s
    else
      match mapFault s [] entries with
      | some f => .refused f.2.1 f.1 .none f.2.2 none s
      | none => .done { s with slopeMap := entries, store := [] })

/-- The bytes of a map entry in a reply (R28, R30). -/
def entryBytes (e : MapEntry) : List Byte :=
  be8 e.sensor ++ be16 e.first ++ be16 e.count ++ be16 e.column

/-- R30: MAP_READ. -/
def mapReadBody (env : Envelope) (s : State) : Verdict :=
  whenFits env s
    (.report (be16 s.slopeMap.length ++ s.slopeMap.flatMap entryBytes ++
      beOptNat 2 be16 (highestColumn s.slopeMap)) s)

/-- R31: STORE_READ. A range that ends too high is refused with the position of first (log 47). -/
def storeReadBody (env : Envelope) (first count : Nat) (s : State) : Verdict :=
  whenFits env s
    (if count < 1 ∨ 1000 < count then refuse .badArgument 2 s
    else if Config.columns s.variant < first + count then refuse .notPresent 1 s
    else .report ((Table.getList zeroes s.store first count).flatMap beInt16) s)

/-- SENSOR_ROLE (R19). -/
def execSensorRole (env : Envelope) (sensor role : Nat) (s : State) :
    Host.Outcome State Fault Refusal :=
  request env 0x03 (sensorRoleBody env sensor role) s

/-- SENSOR_TAG (R20). -/
def execSensorTag (env : Envelope) (sensor tag : Nat) (s : State) : Host.Outcome State Fault Refusal :=
  request env 0x04 (sensorTagBody env sensor tag) s

/-- SENSOR_SCALE (R21). -/
def execSensorScale (env : Envelope) (sensor scale : Nat) (s : State) :
    Host.Outcome State Fault Refusal :=
  request env 0x05 (sensorScaleBody env sensor scale) s

/-- SENSOR_COUNT (R22). -/
def execSensorCount (env : Envelope) (sensor count : Nat) (s : State) :
    Host.Outcome State Fault Refusal :=
  request env 0x06 (sensorCountBody env sensor count) s

/-- SENSOR_READ (R24). -/
def execSensorRead (env : Envelope) (sensor : Nat) (s : State) : Host.Outcome State Fault Refusal :=
  request env 0x07 (sensorReadBody env sensor) s

/-- REF_WRITE (R23). -/
def execRefWrite (env : Envelope) (sensor first count : Nat) (offsets : List Int) (s : State) :
    Host.Outcome State Fault Refusal :=
  request env 0x08 (refWriteBody env sensor first count offsets) s

/-- REF_READ (R24). -/
def execRefRead (env : Envelope) (sensor first count : Nat) (s : State) :
    Host.Outcome State Fault Refusal :=
  request env 0x09 (refReadBody env sensor first count) s

/-- MAP_WRITE (R29). -/
def execMapWrite (env : Envelope) (entries : List MapEntry) (s : State) :
    Host.Outcome State Fault Refusal :=
  request env 0x0A (mapWriteBody env entries) s

/-- MAP_READ (R30). -/
def execMapRead (env : Envelope) (s : State) : Host.Outcome State Fault Refusal :=
  request env 0x0B (mapReadBody env) s

/-- STORE_READ (R31). -/
def execStoreRead (env : Envelope) (first count : Nat) (s : State) :
    Host.Outcome State Fault Refusal :=
  request env 0x0C (storeReadBody env first count) s

end Sys2Proof.Machine
end

