-- ==== Sys2Proof/Machine/SlopeLinks.lean ====
section
/-! DEFINITION. Slope links: the line and reception events, the arrival of a segment, and the two link
requests that serve slope and drive links alike (R5 to R15, R142). -/

namespace Sys2Proof.Machine

/-- A change of receiver n, where the link is present in the variant. -/
def onReceiver (n : Nat) (f : State → State) (s : State) : State :=
  if s.hasSlopeLink n then f s else s

/-- R7: a receiver in UP goes DOWN; one already DOWN is left as it is. -/
def lineDown (n : Nat) (s : State) : State :=
  if (s.receiver n).line = .up then
    raise .linkDown
      (s.modifyReceiver n (fun r =>
        { r with line := .down, silenceRunning := false, reception := none,
                 downCount := r.downCount + 1 }))
  else s

/-- R6: lock is achieved in DOWN. -/
def lockGained (n : Nat) (s : State) : State :=
  if (s.receiver n).line = .down then
    s.modifyReceiver n (fun r => { r with line := .up, silenceRunning := true, reception := none })
  else s

/-- R8: a reception in progress is cut short and counted CRC_FAIL. -/
def cutReception (n : Nat) (s : State) : State :=
  if (s.receiver n).line = .up ∧ (s.receiver n).reception.isSome then
    s.modifyReceiver n (fun r => { r with reception := none, crcFail := r.crcFail + 1 })
  else s

/-- R8: data bytes beyond the longest legal segment discard the reception. -/
def Receiver.gather (r : Receiver) (bytes : List Byte) : Receiver :=
  if longestSegment < bytes.length then { r with reception := none, crcFail := r.crcFail + 1 }
  else { r with reception := some bytes }

/-- R8: a start delimiter in UP begins a reception, which gathers the data bytes that follow; one in
progress is cut short. -/
def beginReception (n : Nat) (gathered : List Byte) (s : State) : State :=
  if (s.receiver n).line = .up then
    (cutReception n s).modifyReceiver n (fun r => r.gather gathered)
  else s

/-- What the checks of R9 make of a segment. -/
inductive SegmentFate where
  | crcFail
  | misrouted
  | range
  | passes (segment : Segment)
deriving DecidableEq, Repr

/-- R8, R9: the four checks in order, for the bytes of a segment on link n; bytes beyond the longest legal
segment have discarded the reception before its end delimiter. -/
def checkSegment (s : State) (n : Nat) (bytes : List Byte) : SegmentFate :=
  match if longestSegment < bytes.length then none else segmentFields bytes with
  | none => .crcFail
  | some f =>
    if f.tag ≠ (s.sensor n).tag then .misrouted
    else if f.count < 1 ∨ 64 < f.count ∨ f.exact = false then .range
    else if (s.sensor n).slopeCount < f.first + f.count then .range
    else .passes { sensor := n, frame := f.frame, first := f.first, count := f.count, last := f.last,
                   slopes := f.slopes }

/-- R10, R12: a segment that passed joins the tail of the link queue, or is discarded as QUEUE_OVERFLOW;
in STOPPED and SAFE a segment that joins is removed at once. -/
def joinQueue (n : Nat) (segment : Segment) (s : State) : State :=
  s.modifyReceiver n (fun r =>
    if r.queue.length < Config.queueDepth then
      { r with queue := if s.loop.state.running then r.queue ++ [segment] else r.queue,
               accepted := r.accepted + 1 }
    else { r with queueOverflow := r.queueOverflow + 1 })

/-- R9, R10: the end delimiter of a reception, after the last of its data bytes. -/
def arrive (n : Nat) (bytes : List Byte) (s : State) : State :=
  match (s.receiver n).line, (s.receiver n).reception with
  | .up, some gathered =>
    let s1 := s.modifyReceiver n (fun r => { r with reception := none })
    match checkSegment s1 n (gathered ++ bytes) with
    | .crcFail => s1.modifyReceiver n (fun r => { r with crcFail := r.crcFail + 1 })
    | .misrouted => s1.modifyReceiver n (fun r => { r with misrouted := r.misrouted + 1 })
    | .range => s1.modifyReceiver n (fun r => { r with range := r.range + 1 })
    | .passes segment => settle (joinQueue n segment s1)
  | _, _ => s

/-! ### Events -/

/-- LOCK_ACHIEVED (R6). -/
def execLockAchieved (link : Nat) (s : State) : Host.Outcome State Fault Refusal :=
  awake s (onReceiver link (lockGained link))

/-- LOSS_OF_LOCK (R7). -/
def execLossOfLock (link : Nat) (s : State) : Host.Outcome State Fault Refusal :=
  awake s (onReceiver link (lineDown link))

/-- SILENCE_TIMER_EXPIRY (R7): the timer runs while the line is UP. -/
def execSilenceTimerExpiry (link : Nat) (s : State) : Host.Outcome State Fault Refusal :=
  awake s (onReceiver link (fun t => if (t.receiver link).silenceRunning then lineDown link t else t))

/-- START_DELIMITER (R8). -/
def execStartDelimiter (begun : Reception) (s : State) : Host.Outcome State Fault Refusal :=
  awake s (onReceiver begun.link (beginReception begun.link begun.gathered))

/-- IDLE_FILL_CUT (R8). -/
def execIdleFillCut (link : Nat) (s : State) : Host.Outcome State Fault Refusal :=
  awake s (onReceiver link (cutReception link))

/-- EXCESS_BYTE (R8): symbols are ignored until the next start delimiter, since no reception is in
progress. -/
def execExcessByte (link : Nat) (s : State) : Host.Outcome State Fault Refusal :=
  awake s (onReceiver link (fun t => cutReception link t))

/-- SEGMENT_ARRIVAL (R8 to R12). -/
def execSegmentArrival (link : Nat) (bytes : List Byte) (s : State) :
    Host.Outcome State Fault Refusal :=
  awake s (onReceiver link (arrive link bytes))

/-! ### LINK_STATUS and LINK_COUNTERS_CLEAR -/

/-- R14: the status of slope link n, taken at one instant. -/
def slopeLinkPayload (s : State) (n : Nat) : List Byte :=
  let r := s.receiver n
  be8 r.line.number ++ beFlag r.reception.isSome ++ be8 r.queue.length ++
    beOptFrame (r.queue.head?.map (fun g => g.frame)) ++ beFlag r.headWaiting ++
    be8 (s.sensor n).tag ++ beCount r.accepted ++ beCount r.crcFail ++ beCount r.misrouted ++
    beCount r.range ++ beCount r.queueOverflow ++ beCount r.late ++ beCount r.duplicate ++
    beCount r.downCount

/-- R142: the outstanding transaction: number, kind, frame number (absent for BIAS). -/
def TxRef.bytes (t : TxRef) : List Byte := [t.number] ++ be8 t.kind.number ++ beOptFrame t.frame

/-- R142: the thirteen counters, in the order of the rule. -/
def DriveLink.counterBytes (r : DriveLink) : List Byte :=
  beCount r.loads ++ beCount r.taken ++ beCount r.refusedCrc ++ beCount r.refusedLength ++
    beCount r.refusedChannel ++ beCount r.replyTimeouts ++ beCount r.applied ++
    beCount r.applyTimeouts ++ beCount r.recovered ++ beCount r.lineStuck ++ beCount r.faultReports ++
    beCount r.stray ++ beCount r.rxError

/-- R142: the status of drive link l, taken at one instant. -/
def driveLinkPayload (s : State) (l : Nat) : List Byte :=
  let r := s.driveLink l
  be8 r.state.number ++ be8 r.status.number ++ beFlag (s.table.enables l) ++
    beOption 5 (r.outstanding.map TxRef.bytes) ++ be16 r.channels ++ be16 r.park ++
    be16 r.replyTimeout ++ be16 r.applyTimeout ++ be16 r.recoveryWindow ++ r.counterBytes ++
    beCount s.drive.pulses

/-- R14, R142: the checks and reply of LINK_STATUS. -/
def linkStatusBody (env : Envelope) (kind link : Nat) (s : State) : Verdict :=
  whenFits env s
    (match linkKind kind with
      | none => refuse .badArgument 1 s
      | some .slope =>
        if s.hasSlopeLink link then .report (slopeLinkPayload s link) s else refuse .notPresent 2 s
      | some .drive =>
        if s.hasDriveLink link then .report (driveLinkPayload s link) s else refuse .notPresent 2 s)

/-- R15: the eight counters become 0. -/
def Receiver.clearCounters (r : Receiver) : Receiver :=
  { r with accepted := 0, crcFail := 0, misrouted := 0, range := 0, queueOverflow := 0, late := 0,
           duplicate := 0, downCount := 0 }

/-- R142: the thirteen counters become 0. -/
def DriveLink.clearCounters (r : DriveLink) : DriveLink :=
  { r with loads := 0, taken := 0, refusedCrc := 0, refusedLength := 0, refusedChannel := 0,
           replyTimeouts := 0, applied := 0, applyTimeouts := 0, recovered := 0, lineStuck := 0,
           faultReports := 0, stray := 0, rxError := 0 }

/-- R15, R142: the checks and effect of LINK_COUNTERS_CLEAR. -/
def linkCountersClearBody (env : Envelope) (kind link : Nat) (s : State) : Verdict :=
  whenFits env s
    (match linkKind kind with
      | none => refuse .badArgument 1 s
      | some .slope =>
        if s.hasSlopeLink link then .done (s.modifyReceiver link Receiver.clearCounters)
        else refuse .notPresent 2 s
      | some .drive =>
        if s.hasDriveLink link then .done (s.modifyDriveLink link DriveLink.clearCounters)
        else refuse .notPresent 2 s)

/-- LINK_STATUS (R14, R142). -/
def execLinkStatus (env : Envelope) (kind link : Nat) (s : State) : Host.Outcome State Fault Refusal :=
  request env 0x01 (linkStatusBody env kind link) s

/-- LINK_COUNTERS_CLEAR (R15, R142). -/
def execLinkCountersClear (env : Envelope) (kind link : Nat) (s : State) :
    Host.Outcome State Fault Refusal :=
  request env 0x02 (linkCountersClearBody env kind link) s

end Sys2Proof.Machine
end

