-- ==== Sys2Proof/Machine/ResetOps.lean ====
section
/-! DEFINITION. The soft reset, block by block (R17, R33, R51, R67, R94, R109, R128, R146, R166, R173, R184,
R200), and the hard reset (R201). -/

namespace Sys2Proof.Machine

/-- R17: a receiver at the soft reset keeps its line state and silence timer. -/
def Receiver.soften (r : Receiver) : Receiver :=
  { r.clearCounters with reception := none, queue := [], headWaiting := false }

/-- R94: a bank at the soft reset. -/
def softBank (keep : Bool) (b : Nat) (r : Bank) : Bank :=
  if !keep then Bank.reset b
  else
    match r.state with
    | .loading => Bank.reset b
    | .verifying => Bank.reset b
    | .pending => { r with state := .ready, pendingFrame := none }
    | .retiring => { r with state := .ready }
    | _ => r

/-- R146: a drive link at the soft reset, with the state that the table gives it (R130). -/
def softDriveLink (v : Variant) (keep : Bool) (l : Nat) (enabled : Bool) (r : DriveLink) : DriveLink :=
  let c := if keep then r else DriveLink.reset v l
  { r.clearCounters with
    state := if enabled then .idle else .disabled, channels := c.channels, park := c.park,
    replyTimeout := c.replyTimeout, applyTimeout := c.applyTimeout, recoveryWindow := c.recoveryWindow,
    outstanding := none, timer := none, status := .none }

/-- R146: one drive link at the soft reset. -/
def softenDriveLink (keep : Bool) (s : State) (l : Nat) : State :=
  s.modifyDriveLink l (softDriveLink s.variant keep l (s.table.enables l))

/-- R200: the port at the soft reset: address, features, a reception, a reply being sent and the soft resets
that still wait for a reply are kept. -/
def Port.soften (p : Port) : Port :=
  { p with causes := 0, mask := 0, entries := [], framesTaken := 0, broadcastsTaken := 0, crcFail := 0,
           badMaster := 0, gap := 0, overlength := 0, replyLost := 0 }

/-- R166: the loop controller at the soft reset. -/
def softLoop (keep : Bool) (l : Loop) : Loop :=
  if keep then
    { Loop.reset with missedThreshold := l.missedThreshold, strokeThreshold := l.strokeThreshold,
                      driveThreshold := l.driveThreshold, deadline := l.deadline }
  else Loop.reset

/-- R94 step 1: the loader becomes IDLE with empty buffers. -/
def softLoader (l : Loader) : Loader :=
  { l with state := .idle, bufferA := none, bufferB := none, reopened := false }

/-- R184: the telemetry unit at the soft reset. -/
def softTelem (keep : Bool) (t : Telem) : Telem :=
  if keep then { Telem.reset with selection := t.selection } else Telem.reset

/-- R33, R109: the tables at the soft reset; the held edits are applied at the abandonment. -/
def softTables (keep : Bool) (s : State) : State :=
  if keep then { s with table := s.effective, hold := [] }
  else { s with table := ActTable.reset, hold := [], gains := [], sensors := [], slopeMap := [], store := [] }

/-- R94: the banks at the soft reset. -/
def softBanks (keep : Bool) (s : State) : State :=
  let s1 := s.modifyBank 0 (softBank keep 0)
  let s2 := s1.modifyBank 1 (softBank keep 1)
  { s2 with loader := softLoader s2.loader }

/-- R146: the drive links at the soft reset; the transaction number is kept. -/
def softDrive (keep : Bool) (s : State) : State :=
  let s1 := { s with drive := { s.drive with current := none, request := none, pulses := 0,
                                             updateLine := .atRest, biasSend := none } }
  s1.driveLinkList.foldl (softenDriveLink keep) s1

/-- R200: the soft reset. The port first; SWAP_CANCELLED is raised after it where a swap was pending
(R94). -/
def softReset (s : State) : State :=
  let keep := s.port.features.keep
  let cancelled := s.swapPending
  let s1 := softBanks keep (softTables keep { s with port := s.port.soften })
  let s2 := s1.forReceivers Receiver.soften
  let s3 := { s2 with slots := [], lastClosed := none, engine := Engine.reset, stage := Stage.reset,
                      loop := softLoop keep s2.loop, scan := Scan.reset, telem := softTelem keep s2.telem }
  let s4 := softDrive keep s3
  if cancelled then raise .swapCancelled s4 else s4

/-- R201: the hard reset: every block takes its values, and the line is low. The part's variant, its
DRAM (R93), the part time and the waiting commands are not the reset's. The part address stands until the
line is released. -/
def hardReset (s : State) : State :=
  { State.resetOf s.variant s.port.address with
    resetLow := true, now := s.now, dram := s.dram, pending := s.pending }

/-- R201: the line is released, and the port reads the straps. -/
def releaseReset (straps : Nat) (s : State) : State :=
  if s.resetLow then { s with resetLow := false, port := Port.reset straps } else s

end Sys2Proof.Machine
end

