-- ==== Sys2Proof/Machine/Supervisory.lean ====
section
/-! DEFINITION. The supervisory port's own events and requests (R186 to R201). -/

namespace Sys2Proof.Machine

/-! ### Events -/

/-- BUS_SILENCE_GAP (R186). -/
def execBusSilenceGap (s : State) : Host.Outcome State Fault Refusal :=
  awake s (fun t => { t with port := { t.port with reception := none, gap := t.port.gap + 1 } })

/-- OVERLENGTH_HEADER (R186). -/
def execOverlengthHeader (s : State) : Host.Outcome State Fault Refusal :=
  awake s (fun t =>
    { t with port := { t.port with reception := none, overlength := t.port.overlength + 1 } })

/-- R189: no reply is being sent. -/
def clearReply (s : State) : State := { s with port := { s.port with reply := none } }

/-- R189, R200: a pending reply has been sent; a RESET_SOFT that waited for it acts now. -/
def replyDone (s : State) : State :=
  if s.port.reply.isSome then
    if s.port.resetAfterReply then
      softReset (clearReply { s with port := { s.port with resetAfterReply := false } })
    else clearReply s
  else s

/-- REPLY_SENT (R189, R200). -/
def execReplySent (s : State) : Host.Outcome State Fault Refusal := awake s replyDone

/-- R189, R200: a pending reply is not sent; a RESET_SOFT that waited for it acts when the reply would
have ended, after any that wait so already. -/
def replyGone (s : State) : State :=
  if s.port.reply.isSome then
    { s with port := { s.port with reply := none, replyLost := s.port.replyLost + 1,
                                   resetAfterReply := false,
                                   resetsAtReplyEnd := s.port.resetsAtReplyEnd +
                                     if s.port.resetAfterReply then 1 else 0 } }
  else s

/-- REPLY_LOST (R189). -/
def execReplyLost (s : State) : Host.Outcome State Fault Refusal := awake s replyGone

/-- R200: the reply of a RESET_SOFT would have ended, and its soft reset is made. -/
def replyEnded (s : State) : State :=
  if 0 < s.port.resetsAtReplyEnd then
    softReset { s with port := { s.port with resetsAtReplyEnd := s.port.resetsAtReplyEnd - 1 } }
  else s

/-- REPLY_WOULD_HAVE_ENDED (R200). -/
def execReplyWouldHaveEnded (s : State) : Host.Outcome State Fault Refusal := awake s replyEnded

/-- HARD_RESET (R201): power-up, or the line goes low. -/
def execHardReset (s : State) : Host.Outcome State Fault Refusal := .next (hardReset s)

/-- RESET_RELEASE (R201). -/
def execResetRelease (straps : Nat) (s : State) : Host.Outcome State Fault Refusal :=
  .next (releaseReset straps s)

/-! ### Requests -/

/-- R193: the capacities of the variant, as the introduction tables them. -/
def capacityBytes (v : Variant) : List Byte :=
  be8 (Config.slopeLinks v) ++ be16 Config.slopesPerSensor ++ be16 (Config.columns v) ++
    be16 (Config.actuators v) ++ be8 (Config.driveLinks v) ++ be16 (Config.channels v) ++ be8 2 ++
    be32 (Config.bankBytes v)

/-- R193: the common quantities. -/
def commonBytes : List Byte :=
  be8 2 ++ be8 Config.queueDepth ++ be8 Config.segmentSlopes ++ be8 Config.mapEntries ++
    be8 Config.gainSets ++ be16 Config.pairEntries ++ be16 Config.fifoRecords ++ be16 Config.fifoHalf ++
    be8 Config.captureSlots ++ be8 2 ++ be16 Config.maxPayload

/-- R193: IDENT. -/
def identBody (env : Envelope) (s : State) : Verdict :=
  whenFits env s
    (.report (be8 (variantNumber s.variant) ++ capacityBytes s.variant ++ commonBytes ++ be8 s.port.address ++
      be8 Config.revision) s)

/-- R194: PORT_STATUS. The seven entry flags are no list with a count (log 45). -/
def portStatusBody (env : Envelope) (s : State) : Verdict :=
  whenFits env s
    (let p := s.port
    .report (beCount p.framesTaken ++ beCount p.broadcastsTaken ++ beCount p.crcFail ++
      beCount p.badMaster ++ beCount p.gap ++ beCount p.overlength ++ beCount p.replyLost ++
      be8 p.address ++ (List.range 7).flatMap (fun i => beFlag (p.entry (i + 1)).isSome)) s)

/-- R191, R205: a fault-detail entry's bytes. The offending value takes four bytes, two's complement, by the
model's choice (log 51). -/
def FaultEntry.bytes (e : FaultEntry) : List Byte :=
  be8 e.code ++ be8 e.status.number ++ [e.tag] ++ be16 e.position ++ be8 e.detail.number ++
    beOption 4 (e.value.map beInt32) ++ beOptNat 1 be8 e.owner

/-- R192: FAULT_DETAIL, with the entry that taking the request removed. -/
def faultDetailBody (env : Envelope) (entry : Option FaultEntry) (s : State) : Verdict :=
  whenFits env s (.report (beOption 13 (entry.map FaultEntry.bytes)) s)

/-- R195: the features by number: KEEP_ON_SOFT_RESET, SUBSTITUTE, CAPTURE, LOAD_IDLE_LIMIT. -/
def setFeature (feature value : Nat) (f : Features) : Option Features :=
  match feature with
  | 0 => (onOffOf value).map (fun b => { f with keep := b })
  | 1 => (substituteOf value).map (fun b => { f with substitute := b })
  | 2 => (onOffOf value).map (fun b => { f with capture := b })
  | 3 => some { f with loadIdleLimit := clamp 10 60000 value }
  | _ => none

/-- R195: FEATURE_SET. Where feature and value both fail, the feature is named (log 47). -/
def featureSetBody (env : Envelope) (feature value : Nat) (s : State) : Verdict :=
  whenFits env s
    (if 3 < feature then refuse .badArgument 1 s
    else
      match setFeature feature value s.port.features with
      | none => refuse .badArgument 2 s
      | some f =>
        .ok [] (decide (feature = 3) && decide (clamp 10 60000 value ≠ value))
          { s with port := { s.port with features := f } })

/-- R196: the bytes of one feature's value. -/
def featureBytes (f : Features) : Nat → List Byte
  | 0 => be8 (onOffNumber f.keep)
  | 1 => be8 f.substitute.number
  | 2 => be8 (onOffNumber f.capture)
  | _ => be16 f.loadIdleLimit

/-- R196: FEATURE_GET. -/
def featureGetBody (env : Envelope) (feature : Option Nat) (s : State) : Verdict :=
  whenFits env s
    (match feature with
      | none => .report ((List.range 4).flatMap (featureBytes s.port.features)) s
      | some k => if 3 < k then refuse .badArgument 1 s else .report (featureBytes s.port.features k) s)

/-- R198: ATTN_MASK. -/
def attnMaskBody (env : Envelope) (causes : BitVec 16) (s : State) : Verdict :=
  whenFits env s
    (if !causesKnown causes then refuse .badArgument 1 s
    else .done { s with port := { s.port with mask := causes.setWidth 13 } })

/-- R198: ATTN_READ. -/
def attnReadBody (env : Envelope) (s : State) : Verdict :=
  whenFits env s (.report (beSet s.port.causes.toNat ++ beSet s.port.mask.toNat) s)

/-- R199: ATTN_ACK. -/
def attnAckBody (env : Envelope) (causes : BitVec 16) (s : State) : Verdict :=
  whenFits env s
    (if !causesKnown causes then refuse .badArgument 1 s
    else .done { s with port := { s.port with causes := s.port.causes &&& ~~~(causes.setWidth 13) } })

/-- R200: RESET_SOFT: a broadcast acts at once, an addressed one when its reply has been sent. -/
def resetSoftBody (env : Envelope) (s : State) : Verdict :=
  whenFits env s
    (if env.broadcast then .done (softReset s)
    else .done { s with port := { s.port with resetAfterReply := true } })

/-- IDENT (R193). -/
def execIdent (env : Envelope) (s : State) : Host.Outcome State Fault Refusal :=
  request env 0x34 (identBody env) s

/-- PORT_STATUS (R194). -/
def execPortStatus (env : Envelope) (s : State) : Host.Outcome State Fault Refusal :=
  request env 0x35 (portStatusBody env) s

/-- FAULT_DETAIL (R192). -/
def execFaultDetail (env : Envelope) (s : State) : Host.Outcome State Fault Refusal :=
  request env 0x36 (faultDetailBody env (s.port.entry env.master)) s

/-- FEATURE_SET (R195). -/
def execFeatureSet (env : Envelope) (feature value : Nat) (s : State) :
    Host.Outcome State Fault Refusal :=
  request env 0x37 (featureSetBody env feature value) s

/-- FEATURE_GET (R196). -/
def execFeatureGet (env : Envelope) (feature : Option Nat) (s : State) :
    Host.Outcome State Fault Refusal :=
  request env 0x38 (featureGetBody env feature) s

/-- ATTN_MASK (R198). -/
def execAttnMask (env : Envelope) (causes : BitVec 16) (s : State) : Host.Outcome State Fault Refusal :=
  request env 0x39 (attnMaskBody env causes) s

/-- ATTN_READ (R198). -/
def execAttnRead (env : Envelope) (s : State) : Host.Outcome State Fault Refusal :=
  request env 0x3A (attnReadBody env) s

/-- ATTN_ACK (R199). -/
def execAttnAck (env : Envelope) (causes : BitVec 16) (s : State) : Host.Outcome State Fault Refusal :=
  request env 0x3B (attnAckBody env causes) s

/-- RESET_SOFT (R200). -/
def execResetSoft (env : Envelope) (s : State) : Host.Outcome State Fault Refusal :=
  request env 0x3C (resetSoftBody env) s

end Sys2Proof.Machine
end

