-- ==== Sys2Proof/Machine/Frames.lean ====
section
/-! DEFINITION. REQUEST_FRAME_COMPLETE: a complete supervisory frame is checked and the request it spells is
run (R186 to R188, R205). -/

namespace Sys2Proof.Machine

/-- The meaning of the request a frame spells. An event is no request. -/
def runRequest (i : Instr) (s : State) : Host.Outcome State Fault Refusal :=
  match i with
  | .lockAchieved _ => .next s
  | .lossOfLock _ => .next s
  | .silenceTimerExpiry _ => .next s
  | .startDelimiter _ => .next s
  | .idleFillCut _ => .next s
  | .excessByte _ => .next s
  | .segmentArrival _ _ => .next s
  | .slopeWork _ => .next s
  | .deadlineExpiry _ => .next s
  | .fillInColumn _ => .next s
  | .residualsDone => .next s
  | .shapeChecked => .next s
  | .transactionBegin _ _ => .next s
  | .recoveryLineIdle _ => .next s
  | .recoveryWindowExpiry _ _ => .next s
  | .takenReply _ _ _ => .next s
  | .refusedReply _ _ _ _ _ => .next s
  | .replyTimerExpiry _ => .next s
  | .returnFrameDiscard _ _ => .next s
  | .appliedReply _ _ => .next s
  | .applyTimerExpiry _ => .next s
  | .faultReport _ _ _ _ => .next s
  | .verifyColumnRead _ => .next s
  | .busSilenceGap => .next s
  | .overlengthHeader => .next s
  | .requestFrameComplete _ _ => .next s
  | .replySent => .next s
  | .replyLost => .next s
  | .hardReset => .next s
  | .resetRelease _ => .next s
  | .linkStatus env kind link => execLinkStatus env kind link s
  | .linkCountersClear env kind link => execLinkCountersClear env kind link s
  | .sensorRole env sensor role => execSensorRole env sensor role s
  | .sensorTag env sensor tag => execSensorTag env sensor tag s
  | .sensorScale env sensor scale => execSensorScale env sensor scale s
  | .sensorCount env sensor count => execSensorCount env sensor count s
  | .sensorRead env sensor => execSensorRead env sensor s
  | .refWrite env sensor first count offsets => execRefWrite env sensor first count offsets s
  | .refRead env sensor first count => execRefRead env sensor first count s
  | .mapWrite env entries => execMapWrite env entries s
  | .mapRead env => execMapRead env s
  | .storeRead env first count => execStoreRead env first count s
  | .slotStatus env => execSlotStatus env s
  | .engineStatus env => execEngineStatus env s
  | .loadOpen env bank rows columns shift block => execLoadOpen env bank rows columns shift block s
  | .loadSegment env column firstRow coefficients => execLoadSegment env column firstRow coefficients s
  | .loadFlush env => execLoadFlush env s
  | .loadClose env expected => execLoadClose env expected s
  | .loadAbort env => execLoadAbort env s
  | .blockReopen env bank block => execBlockReopen env bank block s
  | .bankClear env bank => execBankClear env bank s
  | .loadStatus env bank firstBlock count => execLoadStatus env bank firstBlock count s
  | .swap env bank atFrame => execSwap env bank atFrame s
  | .swapCancel env => execSwapCancel env s
  | .actCount env n => execActCount env n s
  | .actWrite env first records => execActWrite env first records s
  | .actMode env actuator mode value => execActMode env actuator mode value s
  | .actRead env first count => execActRead env first count s
  | .gainWrite env set gain leak => execGainWrite env set gain leak s
  | .gainRead env => execGainRead env s
  | .pairWrite env a b dmax => execPairWrite env a b dmax s
  | .pairRemove env a b => execPairRemove env a b s
  | .pairRead env first count => execPairRead env first count s
  | .stageStatus env => execStageStatus env s
  | .linkReset env link => execLinkReset env link s
  | .linkConfig env link channels park replyTimeout applyTimeout recoveryWindow => execLinkConfig env link channels park replyTimeout applyTimeout recoveryWindow s
  | .loopOpen env atFrame => execLoopOpen env atFrame s
  | .loopClose env atFrame => execLoopClose env atFrame s
  | .loopStop env => execLoopStop env s
  | .loopSafe env => execLoopSafe env s
  | .flatten env => execFlatten env s
  | .loopConfig env deadline missed stroke drive => execLoopConfig env deadline missed stroke drive s
  | .loopStatus env => execLoopStatus env s
  | .scanStart env low high amplitude dwell pattern cycles => execScanStart env low high amplitude dwell pattern cycles s
  | .scanStop env => execScanStop env s
  | .scanStatus env => execScanStatus env s
  | .telemSelect env kinds => execTelemSelect env kinds s
  | .telemPop env count => execTelemPop env count s
  | .captureRead env slot offset length uncorrectable => execCaptureRead env slot offset length uncorrectable s
  | .telemStatus env => execTelemStatus env s
  | .telemReset env => execTelemReset env s
  | .ident env => execIdent env s
  | .portStatus env => execPortStatus env s
  | .faultDetail env => execFaultDetail env s
  | .featureSet env feature value => execFeatureSet env feature value s
  | .featureGet env feature => execFeatureGet env feature s
  | .attnMask env causes => execAttnMask env causes s
  | .attnRead env => execAttnRead env s
  | .attnAck env causes => execAttnAck env causes s
  | .resetSoft env => execResetSoft env s
  | .replyWouldHaveEnded => .next s

/-- R205: the envelope that a frame's header spells; the payload is judged by the request's fields. -/
def frameEnvelope (bytes : List Byte) : Envelope :=
  { master := beNat bytes 1 1 % 8, tag := bytes.getD 3 0#8,
    broadcast := decide (beNat bytes 0 1 = Config.broadcastAddress), payloadFits := true }

/-- R205: the request a sound frame spells. -/
def frameRequest (bytes : List Byte) (uncorrectable : List Nat) : Option Instr :=
  requestOf (beNat bytes 2 1) (frameEnvelope bytes) (beNat bytes 4 2) (beNat bytes 6 2)
    ((bytes.drop requestHeader).take (requestLength bytes)) uncorrectable

/-- R187 step 4, R188: a sound frame for this part. -/
def takeSound (bytes : List Byte) (uncorrectable : List Nat) (s : State) :
    Host.Outcome State Fault Refusal :=
  match frameRequest bytes uncorrectable with
  | some i => runRequest i s
  | none => .next (takeUnknown (frameEnvelope bytes) (beNat bytes 2 1) s)

/-- R187 steps 2 and 3: the master id and the address of a frame whose CRC holds. -/
def checkSound (bytes : List Byte) (uncorrectable : List Nat) (s : State) :
    Host.Outcome State Fault Refusal :=
  if beNat bytes 1 1 % 8 = 0 then
    .next { s with port := { s.port with badMaster := s.port.badMaster + 1 } }
  else if beNat bytes 0 1 = Config.broadcastAddress ∨ beNat bytes 0 1 = s.port.address then
    takeSound bytes uncorrectable s
  else .next s

/-- R186, R187 step 1: the frame that the header's payload length gives, and its CRC. -/
def checkFrame (bytes : List Byte) (uncorrectable : List Nat) (s : State) :
    Host.Outcome State Fault Refusal :=
  let length := requestHeader + requestLength bytes + 2
  if Config.maxPayload < requestLength bytes then
    .next { s with port := { s.port with overlength := s.port.overlength + 1 } }
  else if bytes.length < length ∨ crcHolds (bytes.take length) = false then
    .next { s with port := { s.port with crcFail := s.port.crcFail + 1 } }
  else checkSound (bytes.take length) uncorrectable s

/-- REQUEST_FRAME_COMPLETE (R186 to R188). -/
def execRequestFrameComplete (bytes : List Byte) (uncorrectable : List Nat) (s : State) :
    Host.Outcome State Fault Refusal :=
  if s.resetLow then .next s
  else checkFrame bytes uncorrectable { s with port := { s.port with reception := none } }

end Sys2Proof.Machine
end

