-- ==== Sys2Proof/Machine/SafeCauses.lean ====
section
/-! DEFINITION. The drive-link events that send a SAFE cause to the loop controller (R132, R133, R138), with
the request that may be taken between the act of the link and the entry to SAFE (R154). -/

namespace Sys2Proof.Machine

/-- R154: the frame that completes between the act of a link and the entry to SAFE, if one does: its request
is judged in the loop state then in force, with the link as its rule left it. -/
def takeBetween (between : Option BusFrame) (s : State) : State :=
  match between with
  | none => s
  | some f =>
    match execRequestFrameComplete f.bytes f.uncorrectable s with
    | .next t => t
    | .fault _ => s
    | .refused _ => s

/-- RECOVERY_WINDOW_EXPIRY (R132, R154). -/
def execRecoveryWindowExpiry (link : Nat) (entry : SafeEntry) (s : State) : Host.Outcome State Fault Refusal :=
  awake s (onDriveLink link (stickLink link entry.order (takeBetween entry.between)))

/-- REFUSED_REPLY (R133 to R135, R154). The channel that CHANNEL_FAULT may name is kept nowhere. -/
def execRefusedReply (link : Nat) (number : Byte) (reason : RefuseReason) (_channel : Option Nat)
    (entry : SafeEntry) (s : State) : Host.Outcome State Fault Refusal :=
  awake s (onDriveLink link (takeRefused link number reason entry.order (takeBetween entry.between)))

/-- FAULT_REPORT (R138, R154). The fault code and channel are kept nowhere (R204). -/
def execFaultReport (link : Nat) (_faultCode : Byte) (_channel : Option Nat) (entry : SafeEntry)
    (s : State) : Host.Outcome State Fault Refusal :=
  awake s (onDriveLink link (takeFault link entry.order (takeBetween entry.between)))

end Sys2Proof.Machine
end

