-- ==== Sys2Proof/Machine/Dispatch.lean ====
section
/-! DEFINITION. The dispatch: one arm per command of the opcode table, each one call of its meaning. -/

namespace Sys2Proof.Machine

def exec (i : Instr) (s : State) : Host.Outcome State Fault Refusal :=
  match i with
  | .lockAchieved link => Sys2Proof.Machine.execLockAchieved link s
  | .lossOfLock link => Sys2Proof.Machine.execLossOfLock link s
  | .silenceTimerExpiry link => Sys2Proof.Machine.execSilenceTimerExpiry link s
  | .startDelimiter begun => Sys2Proof.Machine.execStartDelimiter begun s
  | .idleFillCut link => Sys2Proof.Machine.execIdleFillCut link s
  | .excessByte link => Sys2Proof.Machine.execExcessByte link s
  | .segmentArrival link bytes => Sys2Proof.Machine.execSegmentArrival link bytes s
  | .slopeWork uncorrectable => Sys2Proof.Machine.execSlopeWork uncorrectable s
  | .deadlineExpiry slot => Sys2Proof.Machine.execDeadlineExpiry slot s
  | .fillInColumn uncorrectable => Sys2Proof.Machine.execFillInColumn uncorrectable s
  | .residualsDone => Sys2Proof.Machine.execResidualsDone s
  | .shapeChecked => Sys2Proof.Machine.execShapeChecked s
  | .transactionBegin idle0 idle1 => Sys2Proof.Machine.execTransactionBegin idle0 idle1 s
  | .recoveryLineIdle link => Sys2Proof.Machine.execRecoveryLineIdle link s
  | .recoveryWindowExpiry link entry => Sys2Proof.Machine.execRecoveryWindowExpiry link entry s
  | .takenReply link number uncorrectable => Sys2Proof.Machine.execTakenReply link number uncorrectable s
  | .refusedReply link number reason channel entry => Sys2Proof.Machine.execRefusedReply link number reason channel entry s
  | .replyTimerExpiry link => Sys2Proof.Machine.execReplyTimerExpiry link s
  | .returnFrameDiscard link reception => Sys2Proof.Machine.execReturnFrameDiscard link reception s
  | .appliedReply link number => Sys2Proof.Machine.execAppliedReply link number s
  | .applyTimerExpiry link => Sys2Proof.Machine.execApplyTimerExpiry link s
  | .faultReport link faultCode channel entry => Sys2Proof.Machine.execFaultReport link faultCode channel entry s
  | .verifyColumnRead uncorrectable => Sys2Proof.Machine.execVerifyColumnRead uncorrectable s
  | .busSilenceGap => Sys2Proof.Machine.execBusSilenceGap s
  | .overlengthHeader => Sys2Proof.Machine.execOverlengthHeader s
  | .requestFrameComplete bytes uncorrectable => Sys2Proof.Machine.execRequestFrameComplete bytes uncorrectable s
  | .replySent => Sys2Proof.Machine.execReplySent s
  | .replyLost => Sys2Proof.Machine.execReplyLost s
  | .hardReset => Sys2Proof.Machine.execHardReset s
  | .resetRelease straps => Sys2Proof.Machine.execResetRelease straps s
  | .linkStatus env kind link => Sys2Proof.Machine.execLinkStatus env kind link s
  | .linkCountersClear env kind link => Sys2Proof.Machine.execLinkCountersClear env kind link s
  | .sensorRole env sensor role => Sys2Proof.Machine.execSensorRole env sensor role s
  | .sensorTag env sensor tag => Sys2Proof.Machine.execSensorTag env sensor tag s
  | .sensorScale env sensor scale => Sys2Proof.Machine.execSensorScale env sensor scale s
  | .sensorCount env sensor count => Sys2Proof.Machine.execSensorCount env sensor count s
  | .sensorRead env sensor => Sys2Proof.Machine.execSensorRead env sensor s
  | .refWrite env sensor first count offsets => Sys2Proof.Machine.execRefWrite env sensor first count offsets s
  | .refRead env sensor first count => Sys2Proof.Machine.execRefRead env sensor first count s
  | .mapWrite env entries => Sys2Proof.Machine.execMapWrite env entries s
  | .mapRead env => Sys2Proof.Machine.execMapRead env s
  | .storeRead env first count => Sys2Proof.Machine.execStoreRead env first count s
  | .slotStatus env => Sys2Proof.Machine.execSlotStatus env s
  | .engineStatus env => Sys2Proof.Machine.execEngineStatus env s
  | .loadOpen env bank rows columns shift block => Sys2Proof.Machine.execLoadOpen env bank rows columns shift block s
  | .loadSegment env column firstRow coefficients => Sys2Proof.Machine.execLoadSegment env column firstRow coefficients s
  | .loadFlush env => Sys2Proof.Machine.execLoadFlush env s
  | .loadClose env expected => Sys2Proof.Machine.execLoadClose env expected s
  | .loadAbort env => Sys2Proof.Machine.execLoadAbort env s
  | .blockReopen env bank block => Sys2Proof.Machine.execBlockReopen env bank block s
  | .bankClear env bank => Sys2Proof.Machine.execBankClear env bank s
  | .loadStatus env bank firstBlock count => Sys2Proof.Machine.execLoadStatus env bank firstBlock count s
  | .swap env bank atFrame => Sys2Proof.Machine.execSwap env bank atFrame s
  | .swapCancel env => Sys2Proof.Machine.execSwapCancel env s
  | .actCount env n => Sys2Proof.Machine.execActCount env n s
  | .actWrite env first records => Sys2Proof.Machine.execActWrite env first records s
  | .actMode env actuator mode value => Sys2Proof.Machine.execActMode env actuator mode value s
  | .actRead env first count => Sys2Proof.Machine.execActRead env first count s
  | .gainWrite env set gain leak => Sys2Proof.Machine.execGainWrite env set gain leak s
  | .gainRead env => Sys2Proof.Machine.execGainRead env s
  | .pairWrite env a b dmax => Sys2Proof.Machine.execPairWrite env a b dmax s
  | .pairRemove env a b => Sys2Proof.Machine.execPairRemove env a b s
  | .pairRead env first count => Sys2Proof.Machine.execPairRead env first count s
  | .stageStatus env => Sys2Proof.Machine.execStageStatus env s
  | .linkReset env link => Sys2Proof.Machine.execLinkReset env link s
  | .linkConfig env link channels park replyTimeout applyTimeout recoveryWindow => Sys2Proof.Machine.execLinkConfig env link channels park replyTimeout applyTimeout recoveryWindow s
  | .loopOpen env atFrame => Sys2Proof.Machine.execLoopOpen env atFrame s
  | .loopClose env atFrame => Sys2Proof.Machine.execLoopClose env atFrame s
  | .loopStop env => Sys2Proof.Machine.execLoopStop env s
  | .loopSafe env => Sys2Proof.Machine.execLoopSafe env s
  | .flatten env => Sys2Proof.Machine.execFlatten env s
  | .loopConfig env deadline missed stroke drive => Sys2Proof.Machine.execLoopConfig env deadline missed stroke drive s
  | .loopStatus env => Sys2Proof.Machine.execLoopStatus env s
  | .scanStart env low high amplitude dwell pattern cycles => Sys2Proof.Machine.execScanStart env low high amplitude dwell pattern cycles s
  | .scanStop env => Sys2Proof.Machine.execScanStop env s
  | .scanStatus env => Sys2Proof.Machine.execScanStatus env s
  | .telemSelect env kinds => Sys2Proof.Machine.execTelemSelect env kinds s
  | .telemPop env count => Sys2Proof.Machine.execTelemPop env count s
  | .captureRead env slot offset length uncorrectable => Sys2Proof.Machine.execCaptureRead env slot offset length uncorrectable s
  | .telemStatus env => Sys2Proof.Machine.execTelemStatus env s
  | .telemReset env => Sys2Proof.Machine.execTelemReset env s
  | .ident env => Sys2Proof.Machine.execIdent env s
  | .portStatus env => Sys2Proof.Machine.execPortStatus env s
  | .faultDetail env => Sys2Proof.Machine.execFaultDetail env s
  | .featureSet env feature value => Sys2Proof.Machine.execFeatureSet env feature value s
  | .featureGet env feature => Sys2Proof.Machine.execFeatureGet env feature s
  | .attnMask env causes => Sys2Proof.Machine.execAttnMask env causes s
  | .attnRead env => Sys2Proof.Machine.execAttnRead env s
  | .attnAck env causes => Sys2Proof.Machine.execAttnAck env causes s
  | .resetSoft env => Sys2Proof.Machine.execResetSoft env s
  | .replyWouldHaveEnded => Sys2Proof.Machine.execReplyWouldHaveEnded s

end Sys2Proof.Machine
end

