-- ==== Sys2Proof/Machine/Step.lean ====
section
/-! DEFINITION. The step: the command at the front of the queue, or a tick of the part time. -/

namespace Sys2Proof.Machine

/-- One microsecond of part time passes with no command waiting (log 1). -/
def tick (s : State) : State := { s with now := s.now + 1 }

/-- The command at the front of the queue runs with the queue's rest; on an empty queue the part time
advances. -/
def step (s : State) : Host.Outcome State Fault Refusal :=
  match s.pending with
  | [] => .next (tick s)
  | c :: rest => exec c { s with pending := rest }

/-- The command a word spells by the table's bits, put at the front of the queue. The table gives no bits,
so no word spells a command and the state is unchanged. -/
def State.withFetchWord (s : State) (nbits w : Nat) : State :=
  match decodeTableWord nbits w with
  | some c => { s with pending := c :: s.pending }
  | none => s

end Sys2Proof.Machine
end

