-- ==== Sys2Proof/WellFormed.lean ====
section
/-! DEFINITION. Which commands can come about: links and slots that a part can have, operands that fit
their fields on the wire, frames of the length their header gives. -/

namespace Sys2Proof

open Sys2Proof.Machine

/-- A number that a field of one byte holds. -/
def fits8 (n : Nat) : Bool := decide (n < 256)

/-- A number that a field of two bytes holds. -/
def fits16 (n : Nat) : Bool := decide (n < 65536)

/-- A signed number that a field of two bytes holds. -/
def fitsInt16 (i : Int) : Bool := decide (-32768 ≤ i) && decide (i ≤ 32767)

/-- The optional form. -/
def fitsOption (p : Nat → Bool) : Option Nat → Bool
  | none => true
  | some n => p n

/-- A slope link of the larger variant. -/
def slopeLinkFits (n : Nat) : Bool := decide (n < 4)

/-- A drive link of the larger variant. -/
def driveLinkFits (n : Nat) : Bool := decide (n < 2)

/-- An assembly slot. -/
def slotFits (n : Nat) : Bool := decide (n < 2)

/-- A sound frame's master id is 1..7 (R187). -/
def Envelope.wellFormed (env : Envelope) : Bool := decide (1 ≤ env.master) && decide (env.master ≤ 7)

/-- A map entry that fits its bytes. -/
def MapEntry.wellFormed (e : MapEntry) : Bool :=
  fits8 e.sensor && fits16 e.first && fits16 e.count && fits16 e.column

/-- An actuator record that fits its bytes. -/
def ActFields.wellFormed (r : ActFields) : Bool :=
  fits8 r.link && fits16 r.channel && fits16 r.bias && fits16 r.lo && fits16 r.hi && fits8 r.gainSet

/-- A list that a payload of at most 2,048 bytes can carry, `item` bytes each after `head`. -/
def payloadTakes (head item count : Nat) : Bool := decide (head + item * count ≤ Config.maxPayload)

/-- R186: a complete frame has its header, the payload its header gives (at most 2,048 bytes) and two
CRC bytes. -/
def frameComplete (bytes : List Byte) : Bool :=
  decide (requestHeader + 2 ≤ bytes.length) && decide (requestLength bytes ≤ Config.maxPayload) &&
    decide (bytes.length = requestHeader + requestLength bytes + 2)

/-- What is taken between a link's act and the entry to SAFE is a complete frame (R154). -/
def SafeEntry.wellFormed (entry : SafeEntry) : Bool :=
  match entry.between with
  | none => true
  | some f => frameComplete f.bytes

/-- A discarded return reception: cut short, or bytes that spell no sound frame (R204). -/
def ReturnReception.wellFormed : ReturnReception → Bool
  | .cutShort => true
  | .frame bytes => (returnFrame bytes).isNone

/-- The command can come about. -/
def Instr.wellFormed (i : Instr) : Bool :=
  match i with
  | .lockAchieved link => slopeLinkFits link
  | .lossOfLock link => slopeLinkFits link
  | .silenceTimerExpiry link => slopeLinkFits link
  | .startDelimiter begun => slopeLinkFits begun.link && decide (begun.gathered.length ≤ longestSegment)
  | .idleFillCut link => slopeLinkFits link
  | .excessByte link => slopeLinkFits link
  | .segmentArrival link bytes => slopeLinkFits link && decide (bytes.length ≤ longestSegment)
  | .slopeWork _ => true
  | .deadlineExpiry slot => slotFits slot
  | .fillInColumn _ => true
  | .residualsDone => true
  | .shapeChecked => true
  | .transactionBegin _ _ => true
  | .recoveryLineIdle link => driveLinkFits link
  | .recoveryWindowExpiry link entry => driveLinkFits link && entry.wellFormed
  | .takenReply link _ _ => driveLinkFits link
  | .refusedReply link _ _ channel entry =>
    driveLinkFits link && fitsOption fits16 channel && entry.wellFormed
  | .replyTimerExpiry link => driveLinkFits link
  | .returnFrameDiscard link reception => driveLinkFits link && reception.wellFormed
  | .appliedReply link _ => driveLinkFits link
  | .applyTimerExpiry link => driveLinkFits link
  | .faultReport link _ channel entry => driveLinkFits link && fitsOption fits16 channel && entry.wellFormed
  | .verifyColumnRead _ => true
  | .busSilenceGap => true
  | .overlengthHeader => true
  | .requestFrameComplete bytes _ => frameComplete bytes
  | .replySent => true
  | .replyLost => true
  | .hardReset => true
  | .resetRelease straps => decide (straps ≤ 31)
  | .linkStatus env kind link => env.wellFormed && fits8 kind && fits8 link
  | .linkCountersClear env kind link => env.wellFormed && fits8 kind && fits8 link
  | .sensorRole env sensor role => env.wellFormed && fits8 sensor && fits8 role
  | .sensorTag env sensor tag => env.wellFormed && fits8 sensor && fits8 tag
  | .sensorScale env sensor scale => env.wellFormed && fits8 sensor && fits16 scale
  | .sensorCount env sensor count => env.wellFormed && fits8 sensor && fits16 count
  | .sensorRead env sensor => env.wellFormed && fits8 sensor
  | .refWrite env sensor first count offsets =>
    env.wellFormed && fits8 sensor && fits16 first && fits16 count && offsets.all fitsInt16 &&
      payloadTakes 5 2 offsets.length && (!env.payloadFits || decide (count = offsets.length))
  | .refRead env sensor first count =>
    env.wellFormed && fits8 sensor && fits16 first && fits16 count
  | .mapWrite env entries =>
    env.wellFormed && entries.all MapEntry.wellFormed && payloadTakes 2 7 entries.length
  | .mapRead env => env.wellFormed
  | .storeRead env first count => env.wellFormed && fits16 first && fits16 count
  | .slotStatus env => env.wellFormed
  | .engineStatus env => env.wellFormed
  | .loadOpen env bank rows columns shift block =>
    env.wellFormed && fits8 bank && fits16 rows && fits16 columns && fits8 shift && fits16 block
  | .loadSegment env column firstRow coefficients =>
    env.wellFormed && fits16 column && fits16 firstRow && coefficients.all fitsInt16 &&
      payloadTakes 0 2 coefficients.length
  | .loadFlush env => env.wellFormed
  | .loadClose env _ => env.wellFormed
  | .loadAbort env => env.wellFormed
  | .blockReopen env bank block => env.wellFormed && fits8 bank && fits16 block
  | .bankClear env bank => env.wellFormed && fits8 bank
  | .loadStatus env bank firstBlock count =>
    env.wellFormed && fits8 bank && fits16 firstBlock && fits16 count
  | .swap env bank _ => env.wellFormed && fits8 bank
  | .swapCancel env => env.wellFormed
  | .actCount env n => env.wellFormed && fits16 n
  | .actWrite env first records =>
    env.wellFormed && fits16 first && records.all ActFields.wellFormed &&
      payloadTakes 4 10 records.length
  | .actMode env actuator mode value =>
    env.wellFormed && fits16 actuator && fits8 mode && fitsOption fits16 value
  | .actRead env first count => env.wellFormed && fits16 first && fits8 count
  | .gainWrite env set gain leak => env.wellFormed && fits8 set && fits16 gain && fits16 leak
  | .gainRead env => env.wellFormed
  | .pairWrite env a b dmax => env.wellFormed && fits16 a && fits16 b && fits16 dmax
  | .pairRemove env a b => env.wellFormed && fits16 a && fits16 b
  | .pairRead env first count => env.wellFormed && fits16 first && fits8 count
  | .stageStatus env => env.wellFormed
  | .linkReset env link => env.wellFormed && fits8 link
  | .linkConfig env link channels park replyTimeout applyTimeout recoveryWindow =>
    env.wellFormed && fits8 link && fits16 channels && fits16 park && fits16 replyTimeout &&
      fits16 applyTimeout && fits16 recoveryWindow
  | .loopOpen env _ => env.wellFormed
  | .loopClose env _ => env.wellFormed
  | .loopStop env => env.wellFormed
  | .loopSafe env => env.wellFormed
  | .flatten env => env.wellFormed
  | .loopConfig env deadline missed stroke drive =>
    env.wellFormed && fits16 deadline && fits8 missed && fits8 stroke && fits8 drive
  | .loopStatus env => env.wellFormed
  | .scanStart env low high amplitude dwell pattern cycles =>
    env.wellFormed && fits16 low && fits16 high && fits16 amplitude && fits8 dwell &&
      fits8 pattern && fits8 cycles
  | .scanStop env => env.wellFormed
  | .scanStatus env => env.wellFormed
  | .telemSelect env _ => env.wellFormed
  | .telemPop env count => env.wellFormed && fits8 count
  | .captureRead env slot offset length _ =>
    env.wellFormed && fits8 slot && fits16 offset && fits16 length
  | .telemStatus env => env.wellFormed
  | .telemReset env => env.wellFormed
  | .ident env => env.wellFormed
  | .portStatus env => env.wellFormed
  | .faultDetail env => env.wellFormed
  | .featureSet env feature value =>
    env.wellFormed && fits8 feature && (if feature = 3 then fits16 value else fits8 value)
  | .featureGet env feature => env.wellFormed && fitsOption fits8 feature
  | .attnMask env _ => env.wellFormed
  | .attnRead env => env.wellFormed
  | .attnAck env _ => env.wellFormed
  | .resetSoft env => env.wellFormed
  | .replyWouldHaveEnded => true

end Sys2Proof
end

