-- ==== Sys2Proof/Safety.lean ====
section
/-! DEFINITION. What counts as a safe state and a taken request: the bounds, orders and agreements between
blocks that the manual states of every moment, and the terms in which the statements speak of requests. -/

namespace Sys2Proof.Machine

/-- An outcome is a next state. -/
def completes (o : Host.Outcome State Fault Refusal) : Prop := ∃ t, o = .next t

/-! ### Bounds of the stores -/

/-- R177: the FIFO holds at most 512 records. -/
def State.fifoBounded (s : State) : Prop := s.telem.fifo.length ≤ Config.fifoRecords

/-- R10: a link queue holds at most 8 segments. -/
def State.queuesBounded (s : State) : Prop := ∀ n, (s.receiver n).queue.length ≤ Config.queueDepth

/-- R99: the hold holds at most 32 edits. -/
def State.holdBounded (s : State) : Prop := s.hold.length ≤ Config.holdEdits

/-- The DRAM's coefficients and the slope store are in canonical form. -/
def State.tablesWf (s : State) : Prop :=
  Table.wf zeroes s.dram = true ∧ Table.wf zeroes s.store = true

/-- The stores keep their bounds. -/
def State.bounded (s : State) : Prop :=
  s.fifoBounded ∧ s.queuesBounded ∧ s.holdBounded ∧ s.tablesWf

/-! ### Slots, stage and engine -/

/-- R34: at most one slot is in COMMAND. -/
def State.oneCommand (s : State) : Prop :=
  ¬ ((s.slot 0).state = .command ∧ (s.slot 1).state = .command)

/-- R48, R110: the stage works on the slot in COMMAND, and while it is IDLE no slot is in COMMAND. -/
def State.stageHasSlot (s : State) : Prop :=
  match s.stage.phase with
  | .idle => ∀ k, k < 2 → (s.slot k).state ≠ .command
  | .building w => w.slot < 2 ∧ (s.slot w.slot).state = .command
  | .sending w _ => w.slot < 2 ∧ (s.slot w.slot).state = .command

/-- R52: a segment's work is done for a slot in OPEN or FILL, a fill-in pass for a slot in FILL. -/
def State.engineHasSlot (s : State) : Prop :=
  match s.engine.work with
  | .idle => True
  | .segment w => w.slot < 2 ∧ ((s.slot w.slot).state = .opened ∨ (s.slot w.slot).state = .fill)
  | .fill w => w.slot < 2 ∧ (s.slot w.slot).state = .fill

/-- R35: every OPEN slot holds a frame newer than L, and two OPEN slots hold different frames. -/
def State.openNewer (s : State) : Prop :=
  (∀ k, k < 2 → (s.slot k).state = .opened → ∀ l, s.lastClosed = some l → newer (s.slot k).frame l = true) ∧
  ¬ ((s.slot 0).state = .opened ∧ (s.slot 1).state = .opened ∧ (s.slot 0).frame = (s.slot 1).frame)

/-- The slots agree with the stage, the engine and L. -/
def State.slotsSound (s : State) : Prop :=
  s.oneCommand ∧ s.stageHasSlot ∧ s.engineHasSlot ∧ s.openNewer

/-! ### Banks and loader -/

/-- R88, R89: at most one bank is ACTIVE, and at most one is PENDING. -/
def State.banksExclusive (s : State) : Prop :=
  ¬ ((s.bank 0).state = .active ∧ (s.bank 1).state = .active) ∧
  ¬ ((s.bank 0).state = .pending ∧ (s.bank 1).state = .pending)

/-- A bank's place in a load. -/
def BankState.inLoad : BankState → Bool
  | .loading => true
  | .verifying => true
  | .empty => false
  | .loaded => false
  | .ready => false
  | .pending => false
  | .active => false
  | .retiring => false

/-- R68, R69: the bank that the loader names, and no other, is LOADING or VERIFYING as the loader is; every
bank has at most 1,024 rows and 8,192 columns, and the buffers hold columns of the load. -/
def State.loaderSound (s : State) : Prop :=
  (∀ b, (s.bank b).rowCount ≤ 1024 ∧ (s.bank b).columnCount ≤ 8192) ∧
  match s.loader.state with
  | .idle => ∀ b, b < 2 → (s.bank b).state.inLoad = false
  | .loading b _ =>
    b < 2 ∧ (s.bank b).state = .loading ∧ (s.bank (1 - b)).state.inLoad = false ∧
      ∀ name x, s.loader.buffer name = some x → x.column < (s.bank b).columnCount
  | .verifying b _ =>
    b < 2 ∧ (s.bank b).state = .verifying ∧ (s.bank (1 - b)).state.inLoad = false

/-- R89, R90: a running loop has an ACTIVE bank, a slot that is not FREE names an ACTIVE or RETIRING bank,
and a RETIRING bank is named by such a slot. -/
def State.banksServe (s : State) : Prop :=
  (s.loop.state.running = true → s.activeBank.isSome = true) ∧
  (∀ k, k < 2 → (s.slot k).state ≠ .free →
    (s.slot k).bank < 2 ∧
      ((s.bank (s.slot k).bank).state = .active ∨ (s.bank (s.slot k).bank).state = .retiring)) ∧
  (∀ b, b < 2 → (s.bank b).state = .retiring → s.bankNamed b = true)

/-- R12, R49, R92, R156: in STOPPED and SAFE both slots are FREE, L is none, the link queues are empty, no
scan runs, and nothing is pending. -/
def State.quietAtRest (s : State) : Prop :=
  s.loop.state.running = false →
    ((s.slot 0).state = .free ∧ (s.slot 1).state = .free) ∧ s.lastClosed = none ∧
      (∀ n, s.hasSlopeLink n = true → (s.receiver n).queue = []) ∧ s.scan.state ≠ .running ∧
      s.swapPending = false ∧ s.loop.pendingTransition = none

/-- The banks agree with the loader, the slots and the loop. -/
def State.banksSound (s : State) : Prop :=
  s.banksExclusive ∧ s.loaderSound ∧ s.banksServe ∧ s.quietAtRest

/-! ### Captures -/

/-- R179: a capture slot is in use exactly when one record in the FIFO names it. -/
def State.capturesNamed (s : State) : Prop :=
  ∀ k, k < Config.captureSlots →
    (s.telem.fifo.filter (fun r => decide (r.capture = some k))).length =
      if (s.telem.captureSlot k).isSome then 1 else 0

/-! ### Configuration -/

/-- R95, R102: the fields of a record that ACT_WRITE writes lie in the ranges of the variant. -/
def fieldsInRange (v : Variant) (f : ActFields) : Prop :=
  f.link < Config.driveLinks v ∧ f.channel < Config.channels v ∧ f.lo ≤ f.bias ∧ f.bias ≤ f.hi ∧
    f.hi ≤ 65535 ∧ f.gainSet ≤ 7

/-- The fields of a record that ACT_WRITE writes. -/
def Actuator.fields (r : Actuator) : ActFields :=
  { link := r.link, channel := r.channel, bias := r.bias, lo := r.lo, hi := r.hi, gainSet := r.gainSet }

/-- R98: a pair names two different actuators of the variant, and its Dmax fits 16 bits. -/
def Pair.inRange (v : Variant) (p : Pair) : Prop :=
  p.a < Config.actuators v ∧ p.b < Config.actuators v ∧ p.a ≠ p.b ∧ p.dmax ≤ 65535

/-- R95, R98: N, the records and the pair list lie in the ranges of the variant. -/
def ActTable.inRange (v : Variant) (t : ActTable) : Prop :=
  t.n ≤ Config.actuators v ∧ (∀ a, a < Config.actuators v → fieldsInRange v (t.actuator a).fields) ∧
    t.pairs.length ≤ Config.pairEntries ∧ ∀ p ∈ t.pairs, p.inRange v

/-- R99: what a held edit will write lies in the ranges of the variant. -/
def Edit.inRange (v : Variant) : Edit → Prop
  | .write _ records => ∀ f ∈ records, fieldsInRange v f
  | .mode _ _ _ => True
  | .pairAdd p => p.inRange v
  | .pairDrop _ _ => True

/-- R18: a sensor's values. -/
def Sensor.inRange (r : Sensor) : Prop :=
  r.slopeCount ≤ 2048 ∧ r.tag ≤ 15 ∧ r.scale ≤ 65535 ∧
    ∀ i, -32767 ≤ Table.get zeroes r.refs i ∧ Table.get zeroes r.refs i ≤ 32767

/-- R28: a map entry's values. -/
def State.entryInRange (s : State) (e : MapEntry) : Prop :=
  s.hasSlopeLink e.sensor = true ∧ e.first ≤ 2047 ∧ 1 ≤ e.count ∧ e.count ≤ 2048 ∧
    e.column + e.count ≤ Config.columns s.variant

/-- R95 to R99: the table, the edits held for it, and the table they will make; edits are held only during a
flight. -/
def State.tableInRange (s : State) : Prop :=
  s.table.inRange s.variant ∧ (∀ e ∈ s.hold, e.inRange s.variant) ∧
    s.effective.pairs.length ≤ Config.pairEntries ∧ (s.inFlight = false → s.hold = [])

/-- R18, R28, R42, R95 to R98, R129, R147, R195: every configured value lies in its range, and so does what
the waiting commands carry. -/
def State.configured (s : State) : Prop :=
  (20 ≤ s.loop.deadline ∧ s.loop.deadline ≤ 5000) ∧
  (1 ≤ s.loop.missedThreshold ∧ s.loop.missedThreshold ≤ 255) ∧
  (1 ≤ s.loop.strokeThreshold ∧ s.loop.strokeThreshold ≤ 255) ∧
  (1 ≤ s.loop.driveThreshold ∧ s.loop.driveThreshold ≤ 255) ∧
  (10 ≤ s.port.features.loadIdleLimit ∧ s.port.features.loadIdleLimit ≤ 60000) ∧
  (∀ l, (1 ≤ (s.driveLink l).channels ∧ (s.driveLink l).channels ≤ Config.channels s.variant) ∧
    (5 ≤ (s.driveLink l).replyTimeout ∧ (s.driveLink l).replyTimeout ≤ 500) ∧
    (5 ≤ (s.driveLink l).applyTimeout ∧ (s.driveLink l).applyTimeout ≤ 2000) ∧
    (10 ≤ (s.driveLink l).recoveryWindow ∧ (s.driveLink l).recoveryWindow ≤ 1000) ∧
    (s.driveLink l).park ≤ 65535) ∧
  (∀ n, s.hasSlopeLink n = true → (s.sensor n).inRange) ∧
  (s.slopeMap.length ≤ Config.mapEntries ∧ ∀ e ∈ s.slopeMap, s.entryInRange e) ∧
  (∀ k, (s.gain k).gain ≤ 65535 ∧ (s.gain k).leak ≤ 65535) ∧
  s.tableInRange ∧ ∀ c ∈ s.pending, c.wellFormed = true

/-! ### Stroke limits -/

/-- R96: the bias lies in the limits, and x in the limits in fine units. -/
def Actuator.sound (r : Actuator) : Prop :=
  r.lo ≤ r.bias ∧ r.bias ≤ r.hi ∧ 256 * r.lo ≤ r.x ∧ r.x ≤ 256 * r.hi

/-- Every record of a table is sound. -/
def ActTable.sound (t : ActTable) : Prop := ∀ a, (t.actuator a).sound

/-- The condition of an edit on the table it is applied to (R102, R104). -/
def ActTable.takes (t : ActTable) : Edit → Prop
  | .write _ records => ∀ f ∈ records, f.lo ≤ f.bias ∧ f.bias ≤ f.hi
  | .mode a .forced (some v) => (t.actuator a).lo ≤ v ∧ v ≤ (t.actuator a).hi
  | .mode _ _ _ => True
  | .pairAdd _ => True
  | .pairDrop _ _ => True

/-- The condition of a list of edits, each on the table that the edits before it leave. -/
def ActTable.takesAll (t : ActTable) : List Edit → Prop
  | [] => True
  | e :: es => t.takes e ∧ (t.apply e).takesAll es

/-- The staged shape and the frame in the stage keep to the limits in the table. -/
def State.stageInLimits (s : State) : Prop :=
  match s.stage.phase with
  | .idle => True
  | .building w =>
    ∀ a, (w.actuator a).sound ∧ (w.actuator a).lo = (s.table.actuator a).lo ∧
      (w.actuator a).hi = (s.table.actuator a).hi
  | .sending _ shape =>
    ∀ a x, shape.states[a]? = some x →
      256 * (s.table.actuator a).lo ≤ x ∧ x ≤ 256 * (s.table.actuator a).hi

/-- R99, R100, R139, R140: edits are held only during a flight, the stage works only in a running loop, and
a bias send, with its request or transaction, is in flight only in STOPPED and SAFE. -/
def State.flightSound (s : State) : Prop :=
  (s.inFlight = false → s.hold = []) ∧
  (s.loop.state.running = false → s.stage.phase = .idle) ∧
  (s.loop.state.running = true → s.drive.biasSend = none) ∧
  (∀ r, s.drive.request = some r → r.kind = TxKind.bias → s.drive.biasSend.isSome = true) ∧
  (∀ tx, s.drive.current = some tx → tx.kind = TxKind.bias → s.drive.biasSend.isSome = true) ∧
  (∀ r tx, s.drive.request = some r → s.drive.current = some tx →
    ¬ (r.kind = TxKind.bias ∧ tx.kind = TxKind.bias))

/-- Every actuator's bias and integrator state lie in its limits, now and after the held edits, and so does
what the stage would commit. -/
def State.limitsSound (s : State) : Prop :=
  s.table.sound ∧ s.table.takesAll s.hold ∧ s.stageInLimits ∧ s.flightSound

/-! ### Work in progress -/

/-- The engine and the stage are busy, so that what becomes free begins nothing in the same step. -/
def State.busy (s : State) : Prop := s.engine.work ≠ .idle ∧ s.stage.phase ≠ .idle

/-- R54: the stage is busy, and an IDLE engine would find nothing to choose. -/
def State.nothingToChoose (s : State) : Prop :=
  s.stage.phase ≠ .idle ∧ fillCandidate s = none ∧ linkCandidate s = none

/-- A frame committed with the scan's own poke, again and again (R169). -/
def advanceScan (scan : Scan) : Nat → Scan
  | 0 => scan
  | n + 1 =>
    match scan.state, scan.run with
    | .running, some r => advanceScan (r.advance (scan.poked + 1)) n
    | _, _ => scan

/-! ### Drive links and the end of a frame -/

/-- R130: a link that is IDLE or DISABLED is the one of the two that the table gives. -/
def State.linksSettled (s : State) : Prop :=
  ∀ l, s.hasDriveLink l = true →
    ((s.driveLink l).state = .idle ∨ (s.driveLink l).state = .disabled) →
    (s.driveLink l).state = s.restState l

/-- What ends with slot k, in COMMAND, begins nothing else in the same step: the engine works on the other
slot, which is not READY, and the bank of slot k is not RETIRING. -/
def State.endsAlone (s : State) (k : Nat) : Prop :=
  k < 2 ∧ (s.slot k).state = .command ∧
  (s.slot (1 - k)).state ≠ .ready ∧ (s.slot (1 - k)).state ≠ .command ∧
  (∃ w, (s.engine.work = .segment w ∧ w.slot ≠ k)) ∧
  (s.bank (s.slot k).bank).state ≠ .retiring

/-- Slot k has become FREE, and every waiting head waits no longer; the other slot is as it was (R40, R47). -/
def slotFreed (k : Nat) (s t : State) : Prop :=
  t.slot k = Slot.reset k ∧ t.slot (1 - k) = s.slot (1 - k) ∧
  (∀ n, s.hasSlopeLink n = true → t.receiver n = { s.receiver n with headWaiting := false }) ∧
  t.telem.image k = none ∧ t.telem.image (1 - k) = s.telem.image (1 - k)

/-- What neither the frame path nor the drive links ever change: the part's own fields, the sensors, the
map, the gains, the coefficients and the loader. -/
def sameSetting (s t : State) : Prop :=
  t.variant = s.variant ∧ t.resetLow = s.resetLow ∧ t.now = s.now ∧ t.pending = s.pending ∧
  t.sensors = s.sensors ∧ t.slopeMap = s.slopeMap ∧ t.gains = s.gains ∧ t.dram = s.dram ∧
  t.loader = s.loader

/-- The drive links as they were, with the transaction, the request and the bias send. -/
def sameDrive (s t : State) : Prop :=
  (∀ l, t.driveLink l = s.driveLink l) ∧ t.drive.number = s.drive.number ∧
  t.drive.current = s.drive.current ∧ t.drive.request = s.drive.request ∧
  t.drive.pulses = s.drive.pulses ∧ t.drive.updateLine = s.drive.updateLine ∧
  t.drive.biasSend = s.drive.biasSend

/-- R149, R158: the loop controller right after an entry to OPEN or CLOSED. -/
def Loop.tracked (l : Loop) (entered : LoopState) (cause : LoopCause) : Loop :=
  { l with state := entered, missedRun := 0, strokeRun := 0, driveRun := 0,
           lastTransition := some { entered := entered, cause := cause, frame := none } }

/-- Commands one after the other, while each gives a next state. -/
def runAll : List Instr → State → Host.Outcome State Fault Refusal
  | [], s => .next s
  | c :: cs, s =>
    match exec c s with
    | .next t => runAll cs t
    | .fault f => .fault f
    | .refused r => .refused r

/-! ### Requests -/

/-- An addressed request of a master reaches a part that is out of reset and takes addressed requests
(R185, R187). No premise asks that no reply is still to be sent: a request taken before an earlier reply has
ended is answered all the same, and its reply takes that one's place (the model's choice, log 23). -/
def reaches (env : Envelope) (s : State) : Prop :=
  s.resetLow = false ∧ env.master ≠ 0 ∧ env.broadcast = false ∧
    s.port.address ≠ Config.broadcastAddress

/-- An addressed request with a payload that matches its fields (R205); like `reaches`, of a part that may
still be replying (log 23). -/
def arrives (env : Envelope) (s : State) : Prop := reaches env s ∧ env.payloadFits = true

/-- The envelope of a request; none for an event. -/
def envelopeOf (c : Instr) : Option Envelope := (wireOf c).map (fun w => w.1)

/-- The code of a request; none for an event. -/
def codeOf (c : Instr) : Option Nat := (wireOf c).map (fun w => w.2.code)

/-- The request is taken, has an effect, and is answered OK without payload. -/
def okAfter (env : Envelope) (effect : State → State) (s : State) : State :=
  replyWith env .ok false [] (effect (takeFrame env s))

/-- The request is taken, has an effect, and is answered OK with CLAMPED set or clear. -/
def okClamped (env : Envelope) (clamped : Bool) (effect : State → State) (s : State) : State :=
  replyWith env .ok clamped [] (effect (takeFrame env s))

/-- The request is taken and answered OK with a payload read from the state it finds. -/
def okReport (env : Envelope) (payload : State → List Byte) (s : State) : State :=
  replyWith env .ok false (payload (takeFrame env s)) (takeFrame env s)

/-- The request is taken and refused: the fault-detail entry of the master, and the reply. -/
def refusedReply (env : Envelope) (code : Nat) (status : Status) (position : Nat) (detail : Detail)
    (value : Option Int) (owner : Option Nat) (s : State) : State :=
  replyWith env status false [] (enterFault env code status position detail value owner (takeFrame env s))

/-- The state after a broadcast that its owning block refuses (R190). -/
def broadcastRefused (env : Envelope) (code : Nat) (s : State) : State :=
  raise .broadcastRefused (enterFault env code .broadcastNotAllowed 0 .none none none (takeFrame env s))

end Sys2Proof.Machine
end

