-- ==== Sys2Proof/Certificates/Slice0/Obligations.lean ====
section
/-! DEFINITION. The statements for the provers: what the manual's rules say of the part, its commands and
their effects. -/

open Sys2Proof Sys2Proof.Machine

/-! ### The part as a whole -/

/-- 95_what_each_step_holds.md: a step is one command, whole. With no command waiting the part time
advances by one microsecond, by the model's choice (log 1). -/
def Obligations.StepRunsFrontCommand : Prop :=
  ∀ s : State,
    (∀ (c : Instr) (rest : List Instr),
      step { s with pending := c :: rest } = exec c { s with pending := rest }) ∧
    (s.pending = [] → step s = .next { s with now := s.now + 1 })

/-- No command stops the part: refusals, link failures and DRAM errors are next states (DEDUCED, log 35). None
changes the variant (DESIGN CHOICE, log 4), the part time (DESIGN CHOICE, log 1) or the waiting commands. -/
def Obligations.EveryCommandCompletes : Prop :=
  ∀ (c : Instr) (s : State), ∃ t, exec c s = .next t ∧
    t.variant = s.variant ∧ t.now = s.now ∧ t.pending = s.pending

/-- R201 with the block resets R16, R33, R51, R67, R93, R108, R128, R145, R165, R173, R184: the hard reset,
the line held low, and its release. The part time and the DRAM are kept by the model's choice (DESIGN CHOICE,
logs 13 and 31), as is the verified count 0, with no block CRCs, of the EMPTY banks (DESIGN CHOICE, log 50), and a
release of a line that is not low changes nothing by the model's reading (DEDUCED, log 2). -/
def Obligations.ResetLineHoldsPart : Prop :=
  ∀ (s : State) (straps : Nat),
    exec .hardReset s =
      .next { State.resetOf s.variant s.port.address with
        resetLow := true, now := s.now, dram := s.dram, pending := s.pending } ∧
    (∀ c : Instr, s.resetLow = true → c ≠ .hardReset → (∀ n, c ≠ .resetRelease n) →
      exec c s = .next s) ∧
    (s.resetLow = true →
      exec (.resetRelease straps) s = .next { s with resetLow := false, port := Port.reset straps }) ∧
    (s.resetLow = false → exec (.resetRelease straps) s = .next s)

/-! ### Invariants -/

/-- The state of either variant after reset, at any straps, meets every invariant below. That State.reset is
the one of a DQ1024 strapped to 0 is the model's choice (DESIGN CHOICE, logs 4 and 5). -/
def Obligations.ResetMeetsInvariants : Prop :=
  ∀ (v : Variant) (straps : Nat), let s := State.resetOf v straps
    s.bounded ∧ s.slotsSound ∧ s.banksSound ∧ s.capturesNamed ∧ s.configured ∧ s.limitsSound ∧
      s.linksSettled

/-- R10, R99, R177: no step fills a link queue, the hold or the FIFO beyond its size, and the DRAM and
the slope store keep their canonical form. -/
def Obligations.StoresStayBounded : Prop :=
  ∀ s t : State, s.bounded → step s = .next t → t.bounded

/-- R34, R35, R48, R52, R110: every step keeps the slots in agreement with the stage, the engine and L. -/
def Obligations.SlotsStaySound : Prop :=
  ∀ s t : State, s.slotsSound → step s = .next t → t.slotsSound

/-- R12, R49, R68, R69, R88 to R90, R92, R156: every step keeps the banks in agreement with the loader, the
slots and the loop, while the slots agree with the stage and the engine, which SlotsStaySound says every step
keeps. -/
def Obligations.BanksStaySound : Prop :=
  ∀ s t : State, s.slotsSound → s.banksSound → step s = .next t → t.banksSound

/-- R68, R75, R78: only the bank that is LOADING is written. The hard reset is left out: what it leaves in
DRAM is the model's choice (log 13). -/
def Obligations.OnlyTheLoadingBankIsWritten : Prop :=
  ∀ (c : Instr) (s t : State), s.loaderSound → c ≠ .hardReset → exec c s = .next t →
    ∀ b, b < 2 → (s.bank b).state ≠ .loading → ∀ j a, j < 8192 → a < 1024 →
      t.coefficient b j a = s.coefficient b j a

/-- R179: every step keeps the captures in use in agreement with the records of the FIFO. -/
def Obligations.CapturesStayNamed : Prop :=
  ∀ s t : State, s.capturesNamed → step s = .next t → t.capturesNamed

/-- R4, R18, R28, R42, R95, R98, R129, R144, R147, R161, R195: every step keeps every configured value in its
range. -/
def Obligations.ConfigurationStaysInRange : Prop :=
  ∀ s t : State, s.configured → step s = .next t → t.configured

/-- R96: no step takes a bias or an integrator state out of the stroke limits. -/
def Obligations.StrokeLimitsHold : Prop :=
  ∀ s t : State, s.limitsSound → step s = .next t → t.limitsSound

/-! ### Conventions and formats -/

/-- R1. -/
def Obligations.RoundingIsToNearestTiesAway : Prop :=
  ∀ (n : Int) (d : Nat), 0 < d → ∀ m : Int, m ≠ roundDiv n d →
    (n - roundDiv n d * d).natAbs < (n - m * d).natAbs ∨
      ((n - roundDiv n d * d).natAbs = (n - m * d).natAbs ∧ m.natAbs < (roundDiv n d).natAbs)

/-- R2. -/
def Obligations.SaturationTakesTheNearerEnd : Prop :=
  ∀ lo hi v : Int, lo ≤ hi →
    (v < lo → saturate lo hi v = lo) ∧ (hi < v → saturate lo hi v = hi) ∧
    (lo ≤ v → v ≤ hi → saturate lo hi v = v) ∧
    (saturated lo hi v = true ↔ saturate lo hi v ≠ v)

/-- R3. -/
def Obligations.FrameOrder : Prop :=
  ∀ f g : Frame,
    (newer f g = true ↔
      1 ≤ (f.toNat + 65536 - g.toNat) % 65536 ∧ (f.toNat + 65536 - g.toNat) % 65536 ≤ 32767) ∧
    (older f g = true ↔ newer f g = false ∧ f ≠ g) ∧
    ((f.toNat + 65536 - g.toNat) % 65536 = 32768 → older f g = true ∧ older g f = true)

/-- R203: a frame closed by its own CRC-16 passes the check, one with any one byte changed fails it, and the
CRC-16 of the nine digits is that of the rule's table. -/
def Obligations.CrcDetectsAChangedByte : Prop :=
  (∀ (bytes : List Byte), crcHolds (withCrc bytes) = true ∧
    ∀ (i : Nat) (old new : Byte), (withCrc bytes)[i]? = some old → new ≠ old →
      crcHolds ((withCrc bytes).set i new) = false) ∧
  crc16 [0x31#8, 0x32#8, 0x33#8, 0x34#8, 0x35#8, 0x36#8, 0x37#8, 0x38#8, 0x39#8] = 0x29B1#16

/-- R205: what a master spells of a well-formed request is read back as that request. -/
def Obligations.RequestIsReadAsWritten : Prop :=
  ∀ (c : Instr) (env : Envelope) (w : WireRequest) (uncorrectable : List Nat),
    c.wellFormed = true → wireOf c = some (env, w) → env.payloadFits = true →
    (∀ e slot offset length u, c = .captureRead e slot offset length u → u = uncorrectable) →
    requestOf w.code env w.column w.row w.payload uncorrectable = some c

/-- R186 to R188, R205: a complete frame that spells a well-formed request for this part, addressed or
broadcast, runs that request, as its row does (DEDUCED, log 7). A frame that fails its CRC-16 or has master id
0 is counted, one for another part is ignored, and one of a code that the part does not know is refused. -/
def Obligations.FrameRunsItsRequest : Prop :=
  ∀ (bytes : List Byte) (uncorrectable : List Nat) (s : State), s.resetLow = false →
    let heard : State := { s with port := { s.port with reception := none } }
    let run := exec (.requestFrameComplete bytes uncorrectable) s
    let env : Envelope := { master := beNat bytes 1 1 % 8, tag := bytes.getD 3 0#8,
                            broadcast := decide (beNat bytes 0 1 = 31), payloadFits := true }
    (∀ (c : Instr) (e : Envelope), c.wellFormed = true → envelopeOf c = some e → e.payloadFits = true →
      (∀ e slot offset length u, c = .captureRead e slot offset length u → u = uncorrectable) →
      s.port.address < Config.broadcastAddress → requestBytes s.port.address c = some bytes →
      ∃ t, run = .next t ∧ exec c heard = .next t) ∧
    (frameComplete bytes = true →
      (crcHolds bytes = false →
        run = .next { heard with port := { heard.port with crcFail := s.port.crcFail + 1 } }) ∧
      (crcHolds bytes = true →
        (env.master = 0 →
          run = .next { heard with port := { heard.port with badMaster := s.port.badMaster + 1 } }) ∧
        (env.master ≠ 0 → env.broadcast = false → beNat bytes 0 1 ≠ s.port.address → run = .next heard) ∧
        (env.master ≠ 0 → ∀ code, beNat bytes 2 1 = code → code = 0 ∨ 60 < code →
          (env.broadcast = false → beNat bytes 0 1 = s.port.address →
            run = .next (refusedReply env code .unknownRequest 0 .none none none heard)) ∧
          (env.broadcast = true →
            run = .next (raise .broadcastRefused
              (enterFault env code .unknownRequest 0 .none none none (takeFrame env heard)))))))

/-! ### Slope links -/

/-- R5 to R8: lock and its loss, the silence timer, and the begin and the early end of a reception, with the
data bytes gathered after a start delimiter. A LOCK_ACHIEVED in UP changes nothing by the model's reading
(DEDUCED, log 2), and the bytes gathered come with the delimiter's row (DEDUCED, log 21). -/
def Obligations.LineAndReceptionFollowSymbols : Prop :=
  ∀ (n : Nat) (gathered : List Byte) (s : State), s.resetLow = false → s.hasSlopeLink n = true →
    let down := raise .linkDown (s.modifyReceiver n (fun r =>
      { r with line := .down, silenceRunning := false, reception := none,
               downCount := r.downCount + 1 }))
    let begun : Reception := { link := n, gathered := gathered }
    let becomes := fun (reception : Option (List Byte)) (failed : Count32) =>
      s.modifyReceiver n (fun r => { r with reception := reception, crcFail := r.crcFail + failed })
    ((s.receiver n).line = .down →
      exec (.lockAchieved n) s = .next (s.modifyReceiver n (fun r =>
        { r with line := .up, silenceRunning := true, reception := none })) ∧
      exec (.lossOfLock n) s = .next s ∧ exec (.silenceTimerExpiry n) s = .next s ∧
      exec (.startDelimiter begun) s = .next s ∧ exec (.idleFillCut n) s = .next s ∧
      exec (.excessByte n) s = .next s) ∧
    ((s.receiver n).line = .up →
      exec (.lockAchieved n) s = .next s ∧ exec (.lossOfLock n) s = .next down ∧
      ((s.receiver n).silenceRunning = true → exec (.silenceTimerExpiry n) s = .next down) ∧
      ((s.receiver n).reception.isSome = true →
        (gathered.length ≤ 136 → exec (.startDelimiter begun) s = .next (becomes (some gathered) 1)) ∧
        (136 < gathered.length → exec (.startDelimiter begun) s = .next (becomes none 2)) ∧
        exec (.idleFillCut n) s = .next (becomes none 1) ∧ exec (.excessByte n) s = .next (becomes none 1)) ∧
      ((s.receiver n).reception = none →
        (gathered.length ≤ 136 → exec (.startDelimiter begun) s = .next (becomes (some gathered) 0)) ∧
        (136 < gathered.length → exec (.startDelimiter begun) s = .next (becomes none 1)) ∧
        exec (.idleFillCut n) s = .next s ∧ exec (.excessByte n) s = .next s))

/-- R9: the four checks in order, on the bytes gathered and those that come with the end delimiter (DEDUCED,
log 21), and the discard of a segment that fails one; one longer than the longest legal segment is discarded,
and an end delimiter with no reception in progress is ignored (R8). -/
def Obligations.ArrivingSegmentIsChecked : Prop :=
  ∀ (n : Nat) (bytes : List Byte) (s : State), s.resetLow = false → s.hasSlopeLink n = true →
    let fails := fun (count : Receiver → Receiver) => exec (.segmentArrival n bytes) s =
      .next (s.modifyReceiver n (fun r => count { r with reception := none }))
    ((s.receiver n).line = .down ∨ (s.receiver n).reception = none →
      exec (.segmentArrival n bytes) s = .next s) ∧
    (∀ gathered, (s.receiver n).line = .up → (s.receiver n).reception = some gathered →
      let whole := gathered ++ bytes
      (136 < whole.length ∨ segmentFields whole = none →
        fails (fun r => { r with crcFail := r.crcFail + 1 })) ∧
      (∀ f, whole.length ≤ 136 → segmentFields whole = some f → f.tag ≠ (s.sensor n).tag →
        fails (fun r => { r with misrouted := r.misrouted + 1 })) ∧
      (∀ f, whole.length ≤ 136 → segmentFields whole = some f → f.tag = (s.sensor n).tag →
        (f.count < 1 ∨ 64 < f.count ∨ f.exact = false ∨ (s.sensor n).slopeCount < f.first + f.count) →
        fails (fun r => { r with range := r.range + 1 })))

/-- R10, R12: a segment that passes joins the tail of its queue while the part is busy; at a full queue it is
discarded; in STOPPED and SAFE it is counted and removed. -/
def Obligations.PassingSegmentJoinsQueue : Prop :=
  ∀ (n : Nat) (gathered bytes : List Byte) (f : SegmentFields) (s : State), s.resetLow = false →
    s.hasSlopeLink n = true → (s.receiver n).line = .up → (s.receiver n).reception = some gathered →
    segmentFields (gathered ++ bytes) = some f → f.tag = (s.sensor n).tag → 1 ≤ f.count → f.count ≤ 64 →
    f.exact = true → f.first + f.count ≤ (s.sensor n).slopeCount →
    let segment : Segment :=
      { sensor := n, frame := f.frame, first := f.first, count := f.count, last := f.last,
        slopes := f.slopes }
    ((s.receiver n).queue.length < 8 → s.loop.state.running = false →
      exec (.segmentArrival n bytes) s = .next (s.modifyReceiver n (fun r =>
        { r with reception := none, accepted := r.accepted + 1 }))) ∧
    ((s.receiver n).queue.length < 8 → s.loop.state.running = true → s.busy →
      exec (.segmentArrival n bytes) s = .next (s.modifyReceiver n (fun r =>
        { r with reception := none, queue := r.queue ++ [segment], accepted := r.accepted + 1 }))) ∧
    (8 ≤ (s.receiver n).queue.length → s.loop.state.running = false ∨ s.busy →
      exec (.segmentArrival n bytes) s = .next (s.modifyReceiver n (fun r =>
        { r with reception := none, queueOverflow := r.queueOverflow + 1 })))

/-! ### Frame assembler and engine -/

/-- R36, R37, R39, R40: the fate of an offered head that is not accepted. With no slot FREE it waits, and an
OPEN slot is displaced: its frame goes to FILL, or is MISSED (R45), whereupon the slot is FREE and every head
stops waiting (R47). -/
def Obligations.OfferedHeadIsDiscardedOrWaits : Prop :=
  ∀ (n : Nat) (head : Segment) (rest : List Segment) (s : State),
    (s.receiver n).queue = head :: rest → (s.receiver n).headWaiting = false → head.sensor = n →
    let late := (∃ l, s.lastClosed = some l ∧ newer head.frame l = false) ∨
      ∃ k, k < 2 ∧ (s.slot k).frame = head.frame ∧
        ((s.slot k).state = .fill ∨ (s.slot k).state = .ready ∨ (s.slot k).state = .command)
    ((s.sensor n).role = .ignored →
      decideHead n head s = s.modifyReceiver n (fun r => { r with queue := rest })) ∧
    ((s.sensor n).role ≠ .ignored → late →
      decideHead n head s = s.modifyReceiver n (fun r => { r with queue := rest, late := r.late + 1 })) ∧
    ((s.sensor n).role ≠ .ignored → ¬ late → ∀ k, k < 2 → (s.slot k).state = .opened →
      (s.slot k).frame = head.frame → (s.slot (1 - k)).frame ≠ head.frame →
      (∃ i, i < head.count ∧ ∃ j ∈ slopeColumns s.slopeMap n (head.first + i), j ∈ (s.slot k).coverage) →
      decideHead n head s =
        s.modifyReceiver n (fun r => { r with queue := rest, duplicate := r.duplicate + 1 })) ∧
    ((s.sensor n).role ≠ .ignored → ¬ late →
      (∀ k, k < 2 → (s.slot k).state ≠ .free ∧ (s.slot k).state ≠ .opened) →
      decideHead n head s = s.modifyReceiver n (fun r => { r with headWaiting := true })) ∧
    ((s.sensor n).role ≠ .ignored → ¬ late → s.loop.state.running = true → ∀ k, k < 2 →
      (s.slot k).state = .opened → (s.slot k).frame ≠ head.frame → (s.slot (1 - k)).state ≠ .free →
      ((s.slot (1 - k)).state = .opened →
        (s.slot (1 - k)).frame ≠ head.frame ∧ newer (s.slot (1 - k)).frame (s.slot k).frame = true) →
      let missing := ∃ m, s.hasSlopeLink m = true ∧ (s.sensor m).role = .required ∧
        arrivalOf (s.slot k).arrivals m = .none
      let t := decideHead n head s
      (¬ missing →
        t = { (s.modifyReceiver n (fun r => { r with headWaiting := true })).modifySlot k (fun r =>
            { r with closeCause := some .displaced, deadline := none, state := .fill }) with
          lastClosed := some (s.slot k).frame, loop := { s.loop with missedRun := 0 } }) ∧
      (missing → slotFreed k s t ∧ t.lastClosed = some (s.slot k).frame ∧
        t.loop.missedRun = bumpRun s.loop.missedRun ∧
        (t.loop.state = if (s.loop.state = .opened ∨ s.loop.state = .closed) ∧
          s.loop.missedThreshold ≤ t.loop.missedRun then .hold else s.loop.state) ∧
        t.stage = s.stage ∧ t.store = s.store ∧ t.table = s.table ∧ t.drive = s.drive))

/-- R10, R36, R38, R39, R41, R53 to R56: on a quiet part a segment is taken at once: slot 0 opens for its
frame, and the engine begins its work. A swap that is due takes effect first (R89), a segment with LAST of the
only sensor that is not IGNORED closes the frame at once (R42, R43, R45), and with CAPTURE on the slot gets an
empty image (R178). -/
def Obligations.ArrivalOpensSlotAndBeginsWork : Prop :=
  ∀ (n : Nat) (gathered bytes : List Byte) (f : SegmentFields) (s : State), s.resetLow = false →
    s.hasSlopeLink n = true → (s.receiver n).line = .up → (s.receiver n).reception = some gathered →
    segmentFields (gathered ++ bytes) = some f → f.tag = (s.sensor n).tag → 1 ≤ f.count → f.count ≤ 64 →
    f.exact = true → f.first + f.count ≤ (s.sensor n).slopeCount →
    s.loop.state.running = true → s.engine.work = .idle → (s.sensor n).role ≠ .ignored →
    (∀ m, (s.receiver m).queue = []) → (s.receiver n).headWaiting = false →
    (s.slot 0).state = .free → (s.slot 1).state = .free →
    (∀ l, s.lastClosed = some l → newer f.frame l = true) →
    let due := fun (b : Nat) => s.pendingBank = some b ∧
      ((s.bank b).pendingFrame = some .next ∨
        ∃ g, (s.bank b).pendingFrame = some (.frame g) ∧ (f.frame = g ∨ newer f.frame g = true))
    let closes := f.last = true ∧
      ∀ m, m ≠ n → s.hasSlopeLink m = true → (s.sensor m).role = .ignored
    let opened := fun (bank : Nat) => ({ Slot.reset 0 with
      state := .opened, frame := f.frame, bank := bank, openedAt := s.now,
      deadline := some s.loop.deadline, arrivals := [(n, if f.last then .complete else .partly)],
      conditioned := [n], coverage := NatSet.addAll []
        ((List.range f.count).flatMap (fun i => slopeColumns s.slopeMap n (f.first + i))) } : Slot)
    let closed := fun (bank : Nat) => ({ opened bank with
      state := .fill, closeCause := some .allComplete, deadline := none } : Slot)
    ∃ t bank, exec (.segmentArrival n bytes) s = .next t ∧
      ((∀ b, ¬ due b) → bank = s.activeBank.getD 0 ∧ t.banks = s.banks) ∧
      (∀ b, due b → bank = b ∧ t.bank b = { s.bank b with state := .active, pendingFrame := none } ∧
        t.hasCause .swapDone = true ∧
        ∀ o, s.activeBank = some o → t.bank o = { s.bank o with state := .ready }) ∧
      (¬ closes → t.slot 0 = opened bank ∧ t.lastClosed = s.lastClosed ∧ t.loop = s.loop) ∧
      (closes → t.slot 0 = closed bank ∧ t.lastClosed = some f.frame ∧
        t.loop = { s.loop with missedRun := 0 }) ∧
      t.slot 1 = s.slot 1 ∧
      t.engine = { s.engine with
        lastServed := some n,
        work := .segment
          { slot := 0, link := n, frame := f.frame, first := f.first, count := f.count, worked := 0,
            rest := f.slopes, scale := (s.sensor n).scale, refs := (s.sensor n).refs } } ∧
      (t.receiver n).queue = [] ∧ (t.receiver n).accepted = (s.receiver n).accepted + 1 ∧
      (t.telem.image 0 = if s.port.features.capture then some [] else none) ∧
      t.stage = s.stage ∧ t.store = s.store ∧ t.table = s.table ∧ t.drive = s.drive

/-- R26: the conditioned value. -/
def Obligations.ConditionedValue : Prop :=
  ∀ (slope ref : Int) (scale : Nat),
    (-32767 ≤ condition slope ref scale ∧ condition slope ref scale ≤ 32767) ∧
    condition slope ref 0 = 0 ∧
    (-32767 ≤ slope - ref → slope - ref ≤ 32767 → condition slope ref 16384 = slope - ref) ∧
    (condition slope ref scale =
      saturate (-32767) 32767 (roundDiv ((slope - ref) * scale) 16384)) ∧
    (conditionSaturated slope ref scale = true ↔
      condition slope ref scale ≠ roundDiv ((slope - ref) * scale) 16384)

/-- R26, R31, R56 to R58, R178: one slope of the segment: the store, the accumulators, the counts, DEGRADED,
the bank's error count, MATRIX_ERROR and the capture image; the last one ends the item (R53: with nothing to
choose the engine stays IDLE). -/
def Obligations.SlopeWorkAddsProducts : Prop :=
  ∀ (s : State) (w : SegmentWork) (slope : Int) (rest : List Int) (bad : List Nat),
    s.resetLow = false → s.engine.work = .segment w → w.rest = slope :: rest →
    (rest = [] → s.nothingToChoose) →
    let number := w.first + w.worked
    let columns := slopeColumns s.slopeMap w.link number
    let c := condition slope (Table.get zeroes w.refs number) w.scale
    let valid := slope ≠ invalidMarker
    let hit := valid ∧ c ≠ 0 ∧ ∃ j ∈ columns, j ∈ bad
    let b := (s.slot w.slot).bank
    ∃ t, exec (.slopeWork bad) s = .next t ∧
      (rest ≠ [] → t.engine =
        { s.engine with work := .segment { w with worked := w.worked + 1, rest := rest } }) ∧
      (rest = [] → t.engine =
        { s.engine with work := .idle, segmentsDone := s.engine.segmentsDone + 1 }) ∧
      (∀ j, Table.get zeroes t.store j =
        if valid ∧ j ∈ columns then c else Table.get zeroes s.store j) ∧
      (∀ a, Table.get zeroes (t.slot w.slot).acc a = Table.get zeroes (s.slot w.slot).acc a +
        if valid ∧ a < s.bankRows b then
          ((columns.filter (fun j => !bad.contains j)).map (fun j => s.coefficient b j a * c)).sum
        else 0) ∧
      (t.slot w.slot).invalid = (s.slot w.slot).invalid + (if valid then 0 else columns.length) ∧
      (t.slot w.slot).saturated = (s.slot w.slot).saturated +
        (if valid ∧ conditionSaturated slope (Table.get zeroes w.refs number) w.scale = true
          then columns.length else 0) ∧
      ((t.slot w.slot).degraded = true ↔ (s.slot w.slot).degraded = true ∨ hit) ∧
      (t.hasCause .matrixError = true ↔ s.hasCause .matrixError = true ∨ hit) ∧
      (s.telem.image w.slot = none → t.telem = s.telem) ∧
      (∀ i, s.telem.image w.slot = some i → ∃ i', t.telem.image w.slot = some i' ∧
        ∀ j, Table.get zeroes i' j =
          if j ∈ columns then (if valid then c else 0) else Table.get zeroes i j) ∧
      (t.bank b).errorCount = (s.bank b).errorCount +
        BitVec.ofNat 32 (if valid ∧ c ≠ 0 then (columns.filter (fun j => bad.contains j)).length else 0) ∧
      (∀ m, t.receiver m = s.receiver m) ∧ t.sensors = s.sensors ∧ t.slopeMap = s.slopeMap ∧
      t.lastClosed = s.lastClosed ∧ t.dram = s.dram ∧ t.loader = s.loader ∧ t.table = s.table ∧
      t.hold = s.hold ∧ t.stage = s.stage ∧ t.drive = s.drive ∧ t.loop = s.loop ∧ t.scan = s.scan ∧
      (∀ k, k ≠ w.slot → t.slot k = s.slot k)

/-- R59: a column adds its products row by row; the sum of one frame's products is the same in whatever
order columns are added, and an accumulator stays far within 48 bits. -/
def Obligations.AccumulationIsExact : Prop :=
  let added := fun (xs : List (Int × List Int)) (acc : Table Int) =>
    xs.foldl (fun t x => accumulate t x.1 0 x.2) acc
  (∀ (v : Int) (ms : List Int) (acc : Table Int) (a : Nat),
    Table.get zeroes (accumulate acc v 0 ms) a = Table.get zeroes acc a + ms.getD a 0 * v) ∧
  (∀ (xs ys : List (Int × List Int)) (acc : Table Int), xs.Perm ys → ∀ a,
    Table.get zeroes (added xs acc) a = Table.get zeroes (added ys acc) a) ∧
  (∀ (xs : List (Int × List Int)), xs.length ≤ 8192 →
    (∀ x ∈ xs, x.1.natAbs ≤ 32767 ∧ ∀ m ∈ x.2, m.natAbs ≤ 32768) → ∀ a,
    (Table.get zeroes (added xs []) a).natAbs ≤ 8795824586752)

/-- R42 to R45, R159: the deadline of an OPEN slot closes its frame, used or MISSED; a slot that has left OPEN
is not closed again (DEDUCED of a slot that is FREE, log 2). An older frame in the other slot is abandoned
(R44, R46, R47), and an IDLE engine begins the fill-in pass of the closed frame (R53, R54, R61). -/
def Obligations.DeadlineClosesFrame : Prop :=
  ∀ (k : Nat) (s : State), s.resetLow = false → k < 2 →
    let f := (s.slot k).frame
    let o := s.slot (1 - k)
    let missing := ∃ n, s.hasSlopeLink n = true ∧ (s.sensor n).role = .required ∧
      arrivalOf (s.slot k).arrivals n = .none
    let used : State := { s.modifySlot k (fun r =>
        { r with closeCause := some .deadline, deadline := none, state := .fill }) with
      lastClosed := some f, loop := { s.loop with missedRun := 0 } }
    ((s.slot k).state ≠ .opened → exec (.deadlineExpiry k) s = .next s) ∧
    ((s.slot k).state = .opened → (s.slot k).deadline.isSome = true → s.loop.state.running = true →
      (s.stage.phase ≠ .idle → (o.state = .opened → older o.frame f = false) →
        (¬ missing → s.engine.work ≠ .idle → exec (.deadlineExpiry k) s = .next used) ∧
        (¬ missing → s.engine.work = .idle → o.state ≠ .fill →
          exec (.deadlineExpiry k) s = .next { used with engine := { s.engine with
            work := .fill { slot := k, frame := f, substitute := s.port.features.substitute,
                            roles := (List.range (Config.slopeLinks s.variant)).map (fun n =>
                              (s.sensor n).role),
                            position := 0 } } }) ∧
        (missing → s.engine.work ≠ .idle → (∀ w, s.engine.work = .segment w → w.slot ≠ k) →
          (∀ w, s.engine.work = .fill w → w.slot ≠ k) →
          ∃ t, exec (.deadlineExpiry k) s = .next t ∧
            t.slot k = Slot.reset k ∧ t.slot (1 - k) = o ∧ t.lastClosed = some f ∧
            t.loop.missedRun = bumpRun s.loop.missedRun ∧
            (t.loop.state = if (s.loop.state = .opened ∨ s.loop.state = .closed) ∧
              s.loop.missedThreshold ≤ t.loop.missedRun then .hold else s.loop.state) ∧
            t.engine = s.engine ∧ t.stage = s.stage ∧ t.store = s.store ∧ t.table = s.table)) ∧
      (o.state = .opened → older o.frame f = true → ¬ missing → s.engine.work ≠ .idle →
        (∀ w, s.engine.work = .segment w → w.slot = k) → (∀ w, s.engine.work = .fill w → w.slot = k) →
        ∃ t, exec (.deadlineExpiry k) s = .next t ∧ t.slot k = used.slot k ∧
          t.slot (1 - k) = Slot.reset (1 - k) ∧ t.lastClosed = some f ∧ t.loop = used.loop ∧
          (∀ n, s.hasSlopeLink n = true → t.receiver n = { s.receiver n with headWaiting := false }) ∧
          t.telem.fifo = (offer { slotRecord .abandoned s.loop.state o with closeCause := none } none
            s).telem.fifo ∧
          t.telem.image (1 - k) = none ∧ t.engine = s.engine ∧ t.stage = s.stage ∧ t.store = s.store ∧
          t.table = s.table))

/-- R31, R32, R58, R62, R178: one uncovered column of the fill-in pass. -/
def Obligations.FillInAddsColumn : Prop :=
  ∀ (s : State) (w : FillWork) (j visited : Nat) (bad : Bool), s.resetLow = false →
    s.engine.work = .fill w → s.fillNext w = some (j, visited) →
    let v := match w.substitute with
      | .holdLast => Table.get zeroes s.store j
      | .zero => 0
    let b := (s.slot w.slot).bank
    ∃ t, exec (.fillInColumn bad) s = .next t ∧
      t.engine = { s.engine with work := .fill { w with position := visited } } ∧
      (t.slot w.slot).substituted = (s.slot w.slot).substituted + 1 ∧
      (∀ a, Table.get zeroes (t.slot w.slot).acc a = Table.get zeroes (s.slot w.slot).acc a +
        if a < s.bankRows b ∧ bad = false then s.coefficient b j a * v else 0) ∧
      ((t.slot w.slot).degraded = true ↔ (s.slot w.slot).degraded = true ∨ (v ≠ 0 ∧ bad = true)) ∧
      (t.hasCause .matrixError = true ↔ s.hasCause .matrixError = true ∨ (v ≠ 0 ∧ bad = true)) ∧
      (t.bank b).errorCount = (s.bank b).errorCount + (if v ≠ 0 ∧ bad = true then 1 else 0) ∧
      (s.telem.image w.slot = none → t.telem = s.telem) ∧
      (∀ i, s.telem.image w.slot = some i → ∃ i', t.telem.image w.slot = some i' ∧
        ∀ a, Table.get zeroes i' a = if a = j then v else Table.get zeroes i a) ∧
      (t.slot w.slot).coverage = (s.slot w.slot).coverage ∧ t.store = s.store ∧
      t.receivers = s.receivers ∧ t.dram = s.dram ∧ t.stage = s.stage ∧ t.loop = s.loop ∧
      t.lastClosed = s.lastClosed ∧ (∀ k, k ≠ w.slot → t.slot k = s.slot k)

/-- R63 to R65: once no column is left, the residuals replace the accumulators of the bank's rows with their
peak, and the slot is READY. With the stage IDLE it enters COMMAND at once (R48, R110, R111): a scheduled
transition that is due takes effect (R153), and the stage begins its frame, or in HOLD ends it with a HELD
record (R123), its link queues being empty. -/
def Obligations.ResidualsReplaceAccumulators : Prop :=
  ∀ (s : State) (w : FillWork), s.resetLow = false → s.engine.work = .fill w → s.fillNext w = none →
    w.slot < 2 → (s.slot (1 - w.slot)).state ≠ .fill → linkCandidate s = none →
    let k := w.slot
    let g := (s.slot k).frame
    let b := (s.slot k).bank
    let rs := (List.range (s.bankRows b)).map (fun a => saturate (-8388608) 8388607
      (roundDiv (Table.get zeroes (s.slot k).acc a) (2 ^ ((s.bank b).shift.getD 0))))
    let finished := fun (t : State) (state : SlotState) =>
      (∀ a, Table.get zeroes (t.slot k).acc a = rs.getD a (Table.get zeroes (s.slot k).acc a)) ∧
      t.slot k = { s.slot k with state := state, acc := (t.slot k).acc, peak := some (peakOf rs) } ∧
      t.slot (1 - k) = s.slot (1 - k) ∧ t.banks = s.banks ∧ t.receivers = s.receivers
    let due := fun (p : PendingTransition) => g = p.frame ∨ newer g p.frame = true
    let poke : Option Poke := if s.scan.state = .running then
        s.scan.run.map (fun r => { actuator := r.actuator, offset := r.offset })
      else none
    let work := fun (loopRead : LoopState) => ({
      slot := k, frame := g, loopRead := loopRead, n := s.table.n, records := s.table.records,
      gains := s.gains, pairs := s.table.pairs, poke := poke } : StageFrame)
    let begins := fun (loopRead : LoopState) => { s.stage with phase := .building (work loopRead) }
    let ended := fun (t : State) =>
      t.engine = { s.engine with work := .idle, passesDone := s.engine.passesDone + 1 } ∧
      t.store = s.store ∧ t.lastClosed = s.lastClosed
    ∃ t, exec .residualsDone s = .next t ∧
      (s.stage.phase ≠ .idle → ended t ∧ finished t .ready ∧ t.stage = s.stage ∧ t.loop = s.loop) ∧
      (s.stage.phase = .idle → (s.slot (1 - k)).state ≠ .ready → (s.slot (1 - k)).state ≠ .command →
        (s.loop.state = .opened ∨ s.loop.state = .closed → ended t ∧
          ((∀ p, s.loop.pendingTransition = some p → ¬ due p) →
            finished t .command ∧ t.stage = begins s.loop.state ∧ t.loop = s.loop) ∧
          (∀ p e c, s.loop.pendingTransition = some p → due p →
            (p.target = .opened ∧ e = .opened ∧ c = .scheduledOpen ∨
              p.target = .closed ∧ e = .closed ∧ c = .scheduledClose) →
            finished t .command ∧ t.stage = begins e ∧
            (e = s.loop.state → t.loop = { s.loop with pendingTransition := none }) ∧
            (e ≠ s.loop.state → t.loop = { s.loop with
                state := e, missedRun := 0, strokeRun := 0, driveRun := 0, pendingTransition := none,
                lastTransition := some { entered := e, cause := c, frame := some g } } ∧
              t.telem.fifo = (offer (eventRecord { s with loop := { s.loop with state := e } }
                (.loopState e c) (some g) s.activeBank) none s).telem.fifo))) ∧
        (s.loop.state = .hold → s.loop.pendingTransition = none → s.hold = [] → s.linksSettled →
          (∀ n, s.hasSlopeLink n = true → (s.receiver n).queue = []) → (s.bank b).state ≠ .retiring →
          ended t ∧ slotFreed k s t ∧ t.stage = { s.stage with held := s.stage.held + 1 } ∧ t.loop = s.loop ∧
          t.table = s.table ∧ t.hold = [] ∧ sameDrive s t ∧ t.banks = s.banks ∧
          t.telem.fifo = (offer (slotRecord .held .hold { s.slot k with peak := some (peakOf rs) }) none
            s).telem.fifo))

/-- R64: the peak is the largest magnitude, at the lowest row where it occurs. -/
def Obligations.PeakIsLargestMagnitude : Prop :=
  ∀ rs : List Int,
    (∀ r ∈ rs, r.natAbs ≤ (peakOf rs).1) ∧
    (rs ≠ [] → ∃ r, rs[(peakOf rs).2]? = some r ∧ r.natAbs = (peakOf rs).1) ∧
    (∀ i r, i < (peakOf rs).2 → rs[i]? = some r → r.natAbs < (peakOf rs).1)

/-! ### Command stage -/

/-- R113 to R117: what the stage computes for one actuator; the record's limits hold for it. -/
def Obligations.StagedShapeFollowsIntegrator : Prop :=
  ∀ (w : StageFrame) (acc : Table Int) (a : Nat), a < w.n →
    let r := w.actuator a
    let g := w.gainOf a
    r.lo ≤ r.hi →
    ∃ x o, (buildShape w acc).states[a]? = some x ∧ (buildShape w acc).outputs[a]? = some o ∧
      (r.mode ≠ .loop ∨ w.loopRead ≠ .closed → x = r.x) ∧
      (r.mode = .loop → w.loopRead = .closed →
        (x : Int) = saturate (256 * (r.lo : Int)) (256 * (r.hi : Int))
          (256 * (r.bias : Int) +
            roundDiv (((r.x : Int) - 256 * (r.bias : Int)) * (65536 - (g.leak : Int))) 65536 +
            roundDiv ((g.gain : Int) * Table.get zeroes acc a) 4096)) ∧
      ((∀ p, w.poke = some p → p.actuator ≠ a) → (o : Int) = roundDiv x 256) ∧
      (∀ p, w.poke = some p → p.actuator = a →
        (o : Int) = saturate (r.lo : Int) (r.hi : Int) (roundDiv x 256 + p.offset)) ∧
      (r.sound → 256 * r.lo ≤ x ∧ x ≤ 256 * r.hi ∧ r.lo ≤ o ∧ o ≤ r.hi)

/-- R118, R120: a shape that violates no pair becomes a SHAPE transaction request, and the stage is SENDING
(R159: the stroke run is cleared). -/
def Obligations.PassingShapeIsHandedOver : Prop :=
  ∀ (s : State) (w : StageFrame), s.resetLow = false → s.stage.phase = .building w →
    s.loop.state.running = true →
    let shape := buildShape w (s.slot w.slot).acc
    (∀ p ∈ w.pairs, outputGap shape.outputs p.a p.b ≤ p.dmax) →
    exec .shapeChecked s = .next { s with
      stage := { s.stage with phase := .sending w shape }
      drive := { s.drive with
        request := some { kind := .shape, frame := some w.frame, values := shape.outputs } }
      loop := { s.loop with strokeRun := 0 } }

/-- R118, R119, R126, R159, R160: a shape that violates a pair is dropped with its record; the stroke run
counts it, and at its threshold the loop enters HOLD. -/
def Obligations.StrokeDropEndsFrame : Prop :=
  ∀ (s : State) (w : StageFrame), s.resetLow = false → s.stage.phase = .building w →
    s.endsAlone w.slot → s.linksSettled → s.hold = [] → s.loop.state.running = true →
    let shape := buildShape w (s.slot w.slot).acc
    let run := bumpRun s.loop.strokeRun
    let r := { stageRecord .droppedStroke w shape.clamp s with
      violated := (w.pairs.filter (fun p => decide (p.dmax < outputGap shape.outputs p.a p.b))).length
      firstViolated := firstViolated shape.outputs 0 w.pairs }
    (∃ p ∈ w.pairs, p.dmax < outputGap shape.outputs p.a p.b) →
    ∃ t, exec .shapeChecked s = .next t ∧ sameSetting s t ∧ sameDrive s t ∧ slotFreed w.slot s t ∧
      t.stage = { s.stage with phase := .idle, droppedStroke := s.stage.droppedStroke + 1 } ∧
      t.table = s.table ∧ t.hold = [] ∧ t.engine = s.engine ∧ t.banks = s.banks ∧
      t.store = s.store ∧ t.lastClosed = s.lastClosed ∧
      (run < s.loop.strokeThreshold ∨ s.loop.state = .hold →
        t.loop = { s.loop with strokeRun := run } ∧ t.scan = s.scan ∧
        t.telem.fifo = (offer r none s).telem.fifo ∧ t.port = (offer r none s).port) ∧
      (s.loop.strokeThreshold ≤ run → s.loop.state ≠ .hold →
        t.loop = { s.loop with
          state := .hold, strokeRun := run, pendingTransition := none,
          holdEntries := s.loop.holdEntries + 1,
          lastTransition := some { entered := .hold, cause := .strokeRun, frame := some w.frame } } ∧
        t.hasCause .loopHold = true ∧ t.scan.state ≠ .running)

/-! ### Drive links -/

/-- R130: every step keeps IDLE and DISABLED links as the table gives them. -/
def Obligations.LinksStaySettled : Prop :=
  ∀ s t : State, s.linksSettled → step s = .next t → t.linksSettled

/-- R131 to R133, R141: a request begins when no link is LOADING, LOADED or APPLYING: the participants load
or recover; a bias send without participants ends at once. The participants are those of this moment, for a bias
send as well, so that a link reset while its request waited takes part: the model's choice between R131 and R143
(DESIGN CHOICE, log 39). -/
def Obligations.TransactionBegins : Prop :=
  ∀ (s : State) (r : TxRequest) (idle0 idle1 : Bool), s.resetLow = false → s.drive.request = some r →
    let idle := fun l : Nat => if l = 0 then idle0 else idle1
    let tx : Transaction :=
      { number := s.drive.number + 1, kind := r.kind, frame := r.frame,
        links := (participants s).map (txLink s r.values), pulsed := false, dropped := false,
        timeoutReported := false, applied := [] }
    ((∃ l, s.hasDriveLink l = true ∧ (s.driveLink l).state.busy = true) →
      exec (.transactionBegin idle0 idle1) s = .next s) ∧
    ((∀ l, s.hasDriveLink l = true → (s.driveLink l).state.busy = false) → participants s ≠ [] →
      ∃ t, exec (.transactionBegin idle0 idle1) s = .next t ∧ t = { s with drive := t.drive } ∧
        t.drive = { s.drive with
          links := t.drive.links, number := s.drive.number + 1, current := some tx, request := none } ∧
        ∀ l,
          (l ∉ participants s → t.driveLink l = s.driveLink l) ∧
          (l ∈ participants s → idle l = true → t.driveLink l = { s.driveLink l with
            state := .loading, status := .loadSent, loads := (s.driveLink l).loads + 1,
            timer := some (.reply (s.driveLink l).replyTimeout), outstanding := some tx.ref,
            forward := .load (loadFrame r.kind.loadByte (s.drive.number + 1) r.frame
              (channelValues s.table r.values l (s.driveLink l).channels (s.driveLink l).park)) }) ∧
          (l ∈ participants s → idle l = false → t.driveLink l = { s.driveLink l with
            state := .recovering, outstanding := some tx.ref, forward := .resync,
            timer := some (.recovery (s.driveLink l).recoveryWindow) })) ∧
    ((∀ l, s.hasDriveLink l = true → (s.driveLink l).state.busy = false) → participants s = [] →
      r.kind = .bias → s.hold = [] → s.linksSettled →
      ∃ t, exec (.transactionBegin idle0 idle1) s = .next t ∧
        t.drive.number = s.drive.number + 1 ∧ t.drive.current = none ∧ t.drive.request = none ∧
        t.drive.biasSend = none ∧ t.drive.pulses = s.drive.pulses ∧
        (∀ l, t.driveLink l = s.driveLink l) ∧
        t.loop = { s.loop with safeConfirmed := (enabledLinks s).isEmpty } ∧ t.table = s.table ∧
        sameSetting s t ∧ t.stage = s.stage ∧ t.slots = s.slots ∧ t.telem = s.telem ∧ t.port = s.port) ∧
    (∀ p ∈ tx.links, ∀ c, c < (s.driveLink p.link).channels →
      (∀ a b, a < s.table.n → b < s.table.n → s.table.sameChannel a b = true → a = b) →
      (∀ a v, a < s.table.n → (s.table.actuator a).link = p.link →
        (s.table.actuator a).channel = c → r.values[a]? = some v → p.values[c]? = some v) ∧
      ((∀ a, a < s.table.n → (s.table.actuator a).link = p.link → (s.table.actuator a).channel ≠ c) →
        p.values[c]? = some (s.driveLink p.link).park))

/-- R132, R133, R135: a recovered line sends its LOAD; TAKEN makes the link LOADED while others are still to
load, and IDLE or DISABLED when its transaction was dropped. A RECOVERY_LINE_IDLE outside RECOVERING changes
nothing: R132 says so after the window's expiry, and log 2 (DEDUCED) of the other states. -/
def Obligations.LinkAnswersBeforePulse : Prop :=
  ∀ (s : State) (l : Nat) (tx : Transaction) (p : TxLink) (bad : List Nat), s.resetLow = false →
    s.hasDriveLink l = true → s.drive.current = some tx →
    tx.links.find? (fun q => decide (q.link = l)) = some p →
    let taken := fun (state : DriveState) => s.modifyDriveLink l (fun r =>
      { r with state := state, status := .taken, taken := r.taken + 1, timer := none })
    ((s.driveLink l).state = .recovering →
      exec (.recoveryLineIdle l) s = .next (s.modifyDriveLink l (fun r =>
        { r with state := .loading, status := .loadSent, recovered := r.recovered + 1,
                 loads := r.loads + 1, timer := some (.reply p.replyTimeout),
                 forward := .load (tx.loadBytes p) }))) ∧
    ((s.driveLink l).state ≠ .recovering → exec (.recoveryLineIdle l) s = .next s) ∧
    ((s.driveLink l).state = .loading → (s.driveLink l).outstanding = some tx.ref →
      s.busy ∨ s.loop.state.running = false →
      (tx.dropped = false → (∃ q ∈ tx.links, q.link ≠ l ∧ (s.driveLink q.link).state ≠ .loaded) →
        exec (.takenReply l tx.number bad) s = .next (taken .loaded)) ∧
      (tx.dropped = true →
        (∃ q ∈ tx.links, q.link ≠ l ∧ (s.driveLink q.link).state.inTransaction = true) →
        exec (.takenReply l tx.number bad) s = .next (taken (s.restState l))))

/-- R132, R134, R138, R154, R156: a stuck line and a FAULT report make the link FAULTED and the loop SAFE,
whatever the loop state was and whatever request comes between, in either order of drop and entry. The cause
carries the frame of the transaction it arose in (DEDUCED, log 26), the entry follows in the same step with at
most one request between (DEDUCED, log 16), and a RECOVERY_WINDOW_EXPIRY outside RECOVERING changes nothing
(DEDUCED, log 2). A LOOP_OPEN taken between in HOLD is refused with detail LINK_FAULTED (R150). -/
def Obligations.FaultedLinkMakesLoopSafe : Prop :=
  ∀ (s : State) (l : Nat) (entry : SafeEntry), s.resetLow = false → s.hasDriveLink l = true →
    let safe := fun (t : State) (cause : LoopCause) =>
      t.loop.state = .safe ∧ (s.loop.state ≠ .safe →
        t.loop.safeEntries = s.loop.safeEntries + 1 ∧ t.hasCause .safeEntered = true ∧
        t.loop.lastTransition =
          some { entered := .safe, cause := cause, frame := (s.driveLink l).causeFrame })
    ((s.driveLink l).state = .recovering →
      ∃ t, exec (.recoveryWindowExpiry l entry) s = .next t ∧ t.loop.state = .safe ∧
        (entry.between = none → sameSetting s t ∧
          (t.driveLink l).state = .faulted ∧ (t.driveLink l).status = .lineStuck ∧
          (t.driveLink l).lineStuck = (s.driveLink l).lineStuck + 1 ∧ (t.driveLink l).timer = none ∧
          safe t .lineStuck)) ∧
    ((s.driveLink l).state ≠ .recovering → exec (.recoveryWindowExpiry l entry) s = .next s) ∧
    (∀ code channel, ∃ t, exec (.faultReport l code channel entry) s = .next t ∧ t.loop.state = .safe ∧
      (entry.between = none → sameSetting s t ∧
        (t.driveLink l).state = .faulted ∧ (t.driveLink l).status = .faultReport ∧
        (t.driveLink l).faultReports = (s.driveLink l).faultReports + 1 ∧
        (t.driveLink l).timer = none ∧ t.hasCause .driveFault = true ∧ safe t .faultReport) ∧
      (∀ env f, entry.between = some f → env.wellFormed = true → arrives env s → s.port.address < 31 →
        requestBytes s.port.address (.loopOpen env none) = some f.bytes →
        s.loop.state = .hold → s.drive.current = none →
        (∃ r e, t.port.reply = some r ∧ r.status = .wrongState ∧ r.master = env.master ∧ r.tag = env.tag ∧
          t.port.entry env.master = some e ∧ e.status = .wrongState ∧ e.detail = .linkFaulted) ∧
        (t.driveLink l).state = .faulted ∧ t.loop.safeEntries = s.loop.safeEntries + 1 ∧
        t.loop.lastTransition =
          some { entered := .safe, cause := .faultReport, frame := (s.driveLink l).causeFrame }))

/-- R121, R136, R159: TAKEN on the last link brings the update pulse, which commits the frame. -/
def Obligations.PulseCommitsFrame : Prop :=
  ∀ (s : State) (w : StageFrame) (shape : Shape) (tx : Transaction) (l : Nat) (bad : List Nat),
    s.resetLow = false → s.loop.state.running = true → s.stage.phase = .sending w shape →
    s.endsAlone w.slot → s.linksSettled → s.hold = [] → s.scan.state ≠ .running →
    s.drive.current = some tx → tx.kind = .shape → tx.pulsed = false → tx.dropped = false →
    tx.links.Pairwise (fun p q => p.link ≠ q.link) → s.hasDriveLink l = true →
    (∃ p ∈ tx.links, p.link = l) →
    (∀ q ∈ tx.links, q.link ≠ l → (s.driveLink q.link).state = .loaded) →
    (s.driveLink l).state = .loading → (s.driveLink l).outstanding = some tx.ref →
    let copy := captureCopy w shape bad s
    let record := stageRecord (committedKind w) w shape.clamp s
    ∃ t, exec (.takenReply l tx.number bad) s = .next t ∧ sameSetting s t ∧ slotFreed w.slot s t ∧
      t.stage = { s.stage with phase := .idle, committed := s.stage.committed + 1 } ∧
      t.loop = { s.loop with driveRun := 0 } ∧ t.engine = s.engine ∧ t.banks = s.banks ∧
      t.store = s.store ∧ t.lastClosed = s.lastClosed ∧ t.scan = s.scan ∧ t.hold = [] ∧
      t.drive.pulses = s.drive.pulses + 1 ∧ t.drive.current = some { tx with pulsed := true } ∧
      t.drive.number = s.drive.number ∧ t.drive.request = s.drive.request ∧
      t.drive.biasSend = s.drive.biasSend ∧
      (∀ q ∈ tx.links, (t.driveLink q.link).state = .applying ∧
        (t.driveLink q.link).timer = some (.apply q.applyTimeout)) ∧
      (t.driveLink l).status = .taken ∧ (t.driveLink l).taken = (s.driveLink l).taken + 1 ∧
      (∀ m, (∀ q ∈ tx.links, q.link ≠ m) → t.driveLink m = s.driveLink m) ∧
      (∀ a x o, shape.states[a]? = some x → shape.outputs[a]? = some o →
        t.table.actuator a = { s.table.actuator a with x := x, lastOutput := o }) ∧
      (∀ a, shape.states.length ≤ a ∨ shape.outputs.length ≤ a →
        t.table.actuator a = s.table.actuator a) ∧
      t.table.n = s.table.n ∧ t.table.pairs = s.table.pairs ∧
      t.telem.fifo = (offer record copy s).telem.fifo ∧
      t.telem.captures = (offer record copy s).telem.captures

/-- R122, R133, R134, R159: a CRC or LENGTH refusal or a reply timeout before the pulse drops the frame: no
pulse, no commit, one drive failure. A CHANNEL_FAULT refusal makes the loop SAFE and counts no drive failure
(R122, R154, R156): the stage drops the frame or is abandoned (R125), as the drop or the entry comes first. -/
def Obligations.FailedLoadDropsFrame : Prop :=
  ∀ (s : State) (w : StageFrame) (shape : Shape) (tx : Transaction) (l : Nat)
    (channel : Option Nat) (entry : SafeEntry),
    s.resetLow = false → s.loop.state.running = true → s.stage.phase = .sending w shape →
    s.endsAlone w.slot → s.linksSettled → s.hold = [] → s.drive.current = some tx →
    tx.kind = .shape → tx.pulsed = false → tx.dropped = false → s.hasDriveLink l = true →
    (∃ p ∈ tx.links, p.link = l) → (s.driveLink l).state = .loading → (s.driveLink l).outstanding = some tx.ref →
    bumpRun s.loop.driveRun < s.loop.driveThreshold ∨ s.loop.state = .hold →
    let waits := ∃ q ∈ tx.links, q.link ≠ l ∧
      ((s.driveLink q.link).state = .loading ∨ (s.driveLink q.link).state = .applying)
    let dropped := fun (t : State) => sameSetting s t ∧ slotFreed w.slot s t ∧
      t.stage = { s.stage with phase := .idle, droppedDrive := s.stage.droppedDrive + 1 } ∧
      t.loop = { s.loop with driveRun := bumpRun s.loop.driveRun } ∧ t.table = s.table ∧
      t.hold = [] ∧ t.engine = s.engine ∧ t.banks = s.banks ∧ t.store = s.store ∧
      t.lastClosed = s.lastClosed ∧ t.scan = s.scan ∧
      t.telem.fifo = (offer (stageRecord .droppedDrive w shape.clamp s) none s).telem.fifo ∧
      t.drive.pulses = s.drive.pulses ∧ t.drive.number = s.drive.number ∧
      (waits → t.drive.current = some { tx with dropped := true }) ∧
      (¬ waits → t.drive.current = none) ∧
      (t.driveLink l).state = s.restState l ∧ (t.driveLink l).timer = none ∧
      (∀ m, m ≠ l → (t.driveLink m).state =
        if (∃ q ∈ tx.links, q.link = m) ∧
          ((s.driveLink m).state = .loaded ∨ (s.driveLink m).state = .recovering)
        then s.restState m else (s.driveLink m).state)
    (∃ t, exec (.refusedReply l tx.number .crc channel entry) s = .next t ∧ dropped t ∧
      (t.driveLink l).status = .refusedCrc ∧
      (t.driveLink l).refusedCrc = (s.driveLink l).refusedCrc + 1) ∧
    (∃ t, exec (.refusedReply l tx.number .length channel entry) s = .next t ∧ dropped t ∧
      (t.driveLink l).status = .refusedLength ∧
      (t.driveLink l).refusedLength = (s.driveLink l).refusedLength + 1) ∧
    (∀ d, (s.driveLink l).timer = some (.reply d) →
      ∃ t, exec (.replyTimerExpiry l) s = .next t ∧ dropped t ∧
        (t.driveLink l).status = .replyTimeout ∧
        (t.driveLink l).replyTimeouts = (s.driveLink l).replyTimeouts + 1) ∧
    (entry.between = none →
      ∃ t, exec (.refusedReply l tx.number .channelFault channel entry) s = .next t ∧ sameSetting s t ∧
        (t.driveLink l).state = s.restState l ∧ (t.driveLink l).timer = none ∧
        (t.driveLink l).status = .refusedChannel ∧
        (t.driveLink l).refusedChannel = (s.driveLink l).refusedChannel + 1 ∧
        t.loop.state = .safe ∧ t.loop.driveRun = 0 ∧ t.loop.holdEntries = s.loop.holdEntries ∧
        t.loop.safeEntries = s.loop.safeEntries + 1 ∧ t.hasCause .safeEntered = true ∧
        t.loop.lastTransition = some { entered := .safe, cause := .refusedChannel, frame := tx.frame } ∧
        t.stage = { s.stage with
          phase := .idle
          droppedDrive := s.stage.droppedDrive + (if entry.order = .dropFirst then 1 else 0)
          cut := s.stage.cut + (if entry.order = .safeFirst then 1 else 0) } ∧
        (t.slot 0).state = .free ∧ (t.slot 1).state = .free ∧ t.lastClosed = none ∧ t.hold = [] ∧
        t.store = s.store ∧ t.drive.pulses = s.drive.pulses ∧ t.drive.number = s.drive.number ∧
        (waits → t.drive.current = some { tx with dropped := true }) ∧
        (¬ waits → t.drive.current = none) ∧ t.drive.biasSend.isSome = true)

/-- R137, R141, R159: APPLIED and the apply timeout take a link out of its transaction; the last one ends
it, and with it a bias send. -/
def Obligations.AppliedEndsTransaction : Prop :=
  ∀ (s : State) (l : Nat) (tx : Transaction), s.resetLow = false → s.hasDriveLink l = true →
    s.drive.current = some tx → (∃ p ∈ tx.links, p.link = l) → (s.driveLink l).state = .applying →
    let waits := ∃ q ∈ tx.links, q.link ≠ l ∧ (s.driveLink q.link).state.inTransaction = true
    let ended := fun (t : State) => t.drive.current = none ∧
      (∀ q ∈ tx.links, (t.driveLink q.link).outstanding = none) ∧
      (∀ m, m ≠ l → (t.driveLink m).state = (s.driveLink m).state)
    (∀ number o, (s.driveLink l).outstanding = some o → o.number = number →
      ∃ t, exec (.appliedReply l number) s = .next t ∧ sameSetting s t ∧
        (t.driveLink l).state = s.restState l ∧ (t.driveLink l).status = .applied ∧
        (t.driveLink l).applied = (s.driveLink l).applied + 1 ∧ (t.driveLink l).timer = none ∧
        t.slots = s.slots ∧ t.stage = s.stage ∧ t.telem = s.telem ∧ t.port = s.port ∧
        (waits → t.drive.current = some { tx with applied := tx.applied ++ [l] } ∧
          t.loop = s.loop ∧ t.table = s.table) ∧
        (¬ waits → tx.kind = .shape → ended t ∧ t.loop = s.loop ∧ t.table = s.table) ∧
        (¬ waits → tx.kind = .bias → s.hold = [] → s.linksSettled →
          ended t ∧ t.drive.biasSend = none ∧ t.table = s.table ∧
          (t.loop.safeConfirmed = true ↔
            tx.pulsed = true ∧ ∀ m ∈ enabledLinks s, m = l ∨ m ∈ tx.applied))) ∧
    (∀ d, (s.driveLink l).timer = some (.apply d) →
      bumpRun s.loop.driveRun < s.loop.driveThreshold ∨ s.loop.state = .hold →
      s.loop.state.running = true → tx.kind = .shape →
      ∃ t, exec (.applyTimerExpiry l) s = .next t ∧ sameSetting s t ∧
        (t.driveLink l).state = s.restState l ∧ (t.driveLink l).status = .applyTimeout ∧
        (t.driveLink l).applyTimeouts = (s.driveLink l).applyTimeouts + 1 ∧
        (t.driveLink l).timer = none ∧ t.hasCause .driveFault = true ∧
        t.slots = s.slots ∧ t.stage = s.stage ∧ t.telem = s.telem ∧ t.table = s.table ∧
        t.loop = { s.loop with
          driveRun := if tx.timeoutReported then s.loop.driveRun else bumpRun s.loop.driveRun } ∧
        (waits → t.drive.current = some { tx with timeoutReported := true }) ∧ (¬ waits → ended t))

/-- R133, R135, R137, R204: replies that belong to nothing the link waits for, unsound return frames, and
timers that do not run, which change nothing by the model's reading (DEDUCED, log 2). -/
def Obligations.StrayRepliesAreCounted : Prop :=
  ∀ (s : State) (l : Nat) (number : Byte), s.resetLow = false → s.hasDriveLink l = true →
    let stray := s.modifyDriveLink l (fun r => { r with stray := r.stray + 1 })
    let rxError := s.modifyDriveLink l (fun r => { r with rxError := r.rxError + 1 })
    let mine := ∃ o, (s.driveLink l).outstanding = some o ∧ o.number = number
    (∀ bad, ¬ ((s.driveLink l).state = .loading ∧ mine) →
      exec (.takenReply l number bad) s = .next stray) ∧
    (∀ reason channel entry, ¬ ((s.driveLink l).state = .loading ∧ mine) →
      exec (.refusedReply l number reason channel entry) s = .next stray) ∧
    (¬ ((s.driveLink l).state = .applying ∧ mine) →
      exec (.appliedReply l number) s = .next stray) ∧
    exec (.returnFrameDiscard l .cutShort) s = .next rxError ∧
    (∀ bytes, returnFrame bytes = none →
      exec (.returnFrameDiscard l (.frame bytes)) s = .next rxError) ∧
    ((s.driveLink l).timer = none →
      exec (.replyTimerExpiry l) s = .next s ∧ exec (.applyTimerExpiry l) s = .next s)

/-! ### Loop control -/

/-- R150 to R152, R158: LOOP_OPEN and LOOP_CLOSE enter OPEN and CLOSED or schedule the entry. -/
def Obligations.LoopOpensAndCloses : Prop :=
  ∀ (env : Envelope) (s : State), arrives env s →
    let entered := fun (t : State) (e : LoopState) (c : LoopCause) =>
      t = { s with loop := s.loop.tracked e c, telem := t.telem, port := t.port } ∧
      t.telem = (offer (eventRecord { s with loop := s.loop.tracked e c } (.loopState e c) none
        s.activeBank) none s).telem ∧
      t.port.reply = some
        { address := s.port.address, master := env.master, status := .ok, clamped := false,
          tag := env.tag, payload := [] }
    let waiting := fun (target : Target) (f : Frame) =>
      okAfter env (fun u => { u with loop := { u.loop with
        pendingTransition := some { target := target, frame := f, sender := env.master } } }) s
    (s.loop.state = .opened →
      exec (.loopOpen env none) s = .next (okAfter env id s) ∧
      ∃ t, exec (.loopClose env none) s = .next t ∧ entered t .closed .loopClose) ∧
    (s.loop.state = .closed →
      exec (.loopClose env none) s = .next (okAfter env id s) ∧
      ∃ t, exec (.loopOpen env none) s = .next t ∧ entered t .opened .loopOpen) ∧
    (s.loop.state = .hold →
      (∀ l, s.hasDriveLink l = true → (s.driveLink l).state ≠ .faulted) →
      (∃ t, exec (.loopOpen env none) s = .next t ∧ entered t .opened .loopOpen) ∧
      ∃ t, exec (.loopClose env none) s = .next t ∧ entered t .closed .loopClose) ∧
    (∀ b n, s.loop.state = .stopped → s.drive.biasSend = none → s.activeBank = some b →
      (s.bank b).rows.getD 0 = s.table.n → mapFits s.slopeMap ((s.bank b).columns.getD 0) = true →
      s.hasSlopeLink n = true → (s.sensor n).role = .required →
      (∀ l, s.hasDriveLink l = true → (s.driveLink l).state ≠ .faulted) →
      ∃ t, exec (.loopOpen env none) s = .next t ∧ entered t .opened .loopOpen) ∧
    (∀ f, s.loop.state = .opened ∨ s.loop.state = .closed → s.loop.pendingTransition = none →
      (∀ g, s.lastClosed = some g → newer f g = true) →
      exec (.loopOpen env (some f)) s = .next (waiting .opened f) ∧
      exec (.loopClose env (some f)) s = .next (waiting .closed f))

/-- R12, R49, R92, R131, R140, R154 to R156: LOOP_STOP and LOOP_SAFE bring the part to rest; SAFE also
begins a bias send. -/
def Obligations.LoopComesToRest : Prop :=
  ∀ (env : Envelope) (s : State), arrives env s → s.slotsSound → s.banksExclusive →
    let rest := fun (t : State) =>
      (t.loop.missedRun = 0 ∧ t.loop.strokeRun = 0 ∧ t.loop.driveRun = 0) ∧
      t.loop.pendingTransition = none ∧ (t.slot 0).state = .free ∧ (t.slot 1).state = .free ∧
      t.lastClosed = none ∧ t.engine.work = .idle ∧ t.stage.phase = .idle ∧ t.swapPending = false ∧
      (∀ n, s.hasSlopeLink n = true →
        t.receiver n = { s.receiver n with queue := [], headWaiting := false }) ∧
      t.scan.state ≠ .running ∧ sameSetting s t ∧ t.store = s.store ∧
      (∃ r, t.port.reply = some r ∧ r.status = .ok ∧ r.tag = env.tag ∧ r.master = env.master)
    (s.loop.state = .stopped → exec (.loopStop env) s = .next (okAfter env id s)) ∧
    (s.loop.state ≠ .stopped → ∃ t, exec (.loopStop env) s = .next t ∧ rest t ∧
      t.loop.state = .stopped ∧
      t.loop.lastTransition = some { entered := .stopped, cause := .loopStop, frame := none } ∧
      (∀ r, t.drive.request = some r → r.kind = .bias)) ∧
    (s.loop.state = .safe → exec (.loopSafe env) s = .next (okAfter env id s)) ∧
    (s.loop.state ≠ .safe → s.drive.biasSend = none →
      ∃ t, exec (.loopSafe env) s = .next t ∧ rest t ∧ t.loop.state = .safe ∧
        t.loop.lastTransition = some { entered := .safe, cause := .loopSafe, frame := none } ∧
        t.loop.safeEntries = s.loop.safeEntries + 1 ∧ t.hasCause .safeEntered = true ∧
        t.loop.safeConfirmed = false ∧ t.table.n = s.table.n ∧ t.drive.biasSend.isSome = true ∧
        (∀ a, a < s.table.n → s.hold = [] →
          t.table.actuator a = { s.table.actuator a with x := 256 * (s.table.actuator a).bias }) ∧
        (s.hold = [] → t.drive.request = some
          { kind := .bias, frame := none,
            values := (List.range s.table.n).map (fun a => (s.table.actuator a).bias) }))

/-- R4, R15, R140, R142 to R144, R161, R162: FLATTEN, LOOP_CONFIG, LINK_CONFIG, LINK_RESET and
LINK_COUNTERS_CLEAR. -/
def Obligations.LoopAndLinkSettings : Prop :=
  ∀ (env : Envelope) (s : State), arrives env s →
    (s.loop.state = .stopped ∨ s.loop.state = .safe → s.drive.biasSend = none →
      exec (.flatten env) s = .next (replyWith env .accepted false [] (beginBiasSend (takeFrame env s)))) ∧
    (∀ deadline missed stroke drive,
      exec (.loopConfig env deadline missed stroke drive) s = .next (okClamped env
        (!(decide (20 ≤ deadline ∧ deadline ≤ 5000 ∧ 1 ≤ missed ∧ missed ≤ 255 ∧ 1 ≤ stroke ∧
          stroke ≤ 255 ∧ 1 ≤ drive ∧ drive ≤ 255)))
        (fun u => { u with loop := { u.loop with
          deadline := max 20 (min 5000 deadline), missedThreshold := max 1 (min 255 missed),
          strokeThreshold := max 1 (min 255 stroke), driveThreshold := max 1 (min 255 drive) } }) s)) ∧
    (∀ l, s.hasDriveLink l = true → (s.driveLink l).state = .faulted →
      exec (.linkReset env l) s = .next (okAfter env (fun u =>
        u.modifyDriveLink l (fun r => { r with state := s.restState l })) s)) ∧
    (∀ l m park reply apply window, s.hasDriveLink l = true → 1 ≤ m → m ≤ Config.channels s.variant →
      (m = (s.driveLink l).channels ∨ s.loop.state = .stopped) →
      (∀ a, a < s.effective.n → (s.effective.actuator a).link = l →
        (s.effective.actuator a).channel < m) →
      exec (.linkConfig env l m park reply apply window) s = .next (okClamped env
        (!(decide (5 ≤ reply ∧ reply ≤ 500 ∧ 5 ≤ apply ∧ apply ≤ 2000 ∧ 10 ≤ window ∧ window ≤ 1000)))
        (fun u => u.modifyDriveLink l (fun r =>
          { r with channels := m, park := park, replyTimeout := max 5 (min 500 reply),
                   applyTimeout := max 5 (min 2000 apply),
                   recoveryWindow := max 10 (min 1000 window) })) s)) ∧
    (∀ n, s.hasSlopeLink n = true →
      exec (.linkCountersClear env 0 n) s = .next (okAfter env (fun u => u.modifyReceiver n (fun r =>
        { r with accepted := 0, crcFail := 0, misrouted := 0, range := 0, queueOverflow := 0, late := 0,
                 duplicate := 0, downCount := 0 })) s)) ∧
    (∀ l, s.hasDriveLink l = true →
      exec (.linkCountersClear env 1 l) s = .next (okAfter env (fun u => u.modifyDriveLink l (fun r =>
        { r with loads := 0, taken := 0, refusedCrc := 0, refusedLength := 0, refusedChannel := 0,
                 replyTimeouts := 0, applied := 0, applyTimeouts := 0, recovered := 0, lineStuck := 0,
                 faultReports := 0, stray := 0, rxError := 0 })) s))

/-! ### Matrix banks -/

/-- R70 to R72, R77: LOAD_OPEN of a bank that is not in use, fresh, as a restart and as a takeover, or refused
with the owner's id, and LOAD_CLOSE of a load whose columns are all committed. Position 0 in the fault detail
of BUSY and INCOMPLETE is the model's choice (R191; DESIGN CHOICE, log 9), as is the verified count 0, with no
block CRCs, of the bank that a takeover empties (DESIGN CHOICE, log 50). -/
def Obligations.LoadOpensAndCloses : Prop :=
  ∀ (env : Envelope) (s : State), arrives env s →
    (∀ bank rows columns shift block, bank ≤ 1 → 1 ≤ rows →
      rows ≤ Config.actuators s.variant → 1 ≤ columns → columns ≤ Config.columns s.variant →
      shift ≤ 31 → 16 ≤ block → block ≤ 512 →
      let opened := fun (u : State) =>
        { u.setBank bank { Bank.reset bank with
            state := .loading, rows := some rows, columns := some columns, shift := some shift,
            block := some block } with
          loader := { u.loader with
            state := .loading bank env.master, bufferA := none, bufferB := none,
            lastActivity := u.now, reopened := false } }
      let answer := exec (.loadOpen env bank rows columns shift block) s
      let busy := fun (owner : Nat) =>
        answer = .next (refusedReply env 0x0F .busy 0 .none none (some owner) s)
      let unused := (s.bank bank).state = .empty ∨ (s.bank bank).state = .loaded ∨
        (s.bank bank).state = .ready
      (s.loader.state = .idle → unused → answer = .next (okAfter env opened s)) ∧
      (s.loader.state = .loading bank env.master → (s.bank bank).state = .loading →
        answer = .next (okAfter env opened s)) ∧
      (∀ old owner, s.loader.state = .loading old owner → old ≠ bank ∨ owner ≠ env.master →
        unused ∨ (old = bank ∧ (s.bank bank).state = .loading) →
        (1000 * s.port.features.loadIdleLimit < s.now - s.loader.lastActivity →
          answer = .next (okAfter env (fun u => opened (u.setBank old (Bank.reset old))) s)) ∧
        (s.now - s.loader.lastActivity ≤ 1000 * s.port.features.loadIdleLimit → busy owner)) ∧
      (∀ old owner, s.loader.state = .verifying old owner →
        unused ∨ (old = bank ∧ (s.bank bank).state = .verifying) → busy owner)) ∧
    (∀ b expected, s.loader.state = .loading b env.master → s.loader.bufferA = none →
      s.loader.bufferB = none → (∀ j, j < (s.bank b).columnCount → j ∈ (s.bank b).committed) →
      exec (.loadClose env expected) s = .next (replyWith env .accepted false [] (
        let u := (takeFrame env s).modifyBank b (fun r =>
          { r with state := .verifying, expectedCrc := some expected, verified := 0, outcome := none,
                   wholeCrc := none, blockCrcs := [], failingColumn := none, unverified := none })
        { u with loader := { u.loader with
            state := .verifying b env.master, reopened := false, lastActivity := s.now,
            wholeReg := 0xFFFFFFFF#32, blockReg := 0xFFFFFFFF#32 } }))) ∧
    (∀ b expected j, s.loader.state = .loading b env.master → s.loader.bufferA = none →
      s.loader.bufferB = none → j < (s.bank b).columnCount → j ∉ (s.bank b).committed →
      (∀ i, i < j → i ∈ (s.bank b).committed) →
      exec (.loadClose env expected) s = .next (refusedReply env 0x12 .incomplete 0 .none (some j) none
        { s with loader := { s.loader with lastActivity := s.now } }))

/-- R73 to R76: the coefficients of a whole column, and of a flushed one with its missing rows as 0, stand in
the bank; a partial column stays in its buffer. The bytes of LOAD_FLUSH's reply follow R205 as the model reads
it (DEDUCED, log 11), the serial number of a touch is the model's own (DESIGN CHOICE, log 20), and so is a
zero-filled count that grows past 8,192 (DESIGN CHOICE, log 46). -/
def Obligations.SegmentsReachTheBank : Prop :=
  ∀ (env : Envelope) (s : State) (b column firstRow : Nat) (ms : List Int), arrives env s →
    s.loader.state = .loading b env.master → b < 2 → (s.bank b).rowCount ≤ 1024 →
    (s.bank b).columnCount ≤ Config.columns s.variant →
    let reply := fun (t : State) (payload : List Byte) =>
      t.port.reply = some
        { address := s.port.address, master := env.master, status := .ok, clamped := false,
          tag := env.tag, payload := payload }
    let others := fun (t : State) (j : Nat) =>
      (∀ b' j' a, b' < 2 → j' < 8192 → a < 1024 → (b' ≠ b ∨ j' ≠ j) →
        t.coefficient b' j' a = s.coefficient b' j' a) ∧
      t.bank (1 - b) = s.bank (1 - b) ∧ t.slots = s.slots ∧ t.loop = s.loop ∧ t.table = s.table ∧
      t.store = s.store ∧ t.receivers = s.receivers ∧ t.engine = s.engine
    (1 ≤ ms.length → ms.length ≤ 1024 → column < (s.bank b).columnCount →
      firstRow + ms.length ≤ (s.bank b).rowCount → column ∉ (s.bank b).committed →
      (ms.length = (s.bank b).rowCount → s.loader.holder column = none →
        ∃ t, exec (.loadSegment env column firstRow ms) s = .next t ∧ reply t [] ∧ others t column ∧
          (∀ a m, ms[a]? = some m → t.coefficient b column a = m) ∧
          t.bank b = { s.bank b with committed := NatSet.add (s.bank b).committed column } ∧
          t.loader = { s.loader with lastActivity := s.now }) ∧
      (ms.length < (s.bank b).rowCount → s.loader.bufferA = none → s.loader.bufferB = none →
        ∃ t x, exec (.loadSegment env column firstRow ms) s = .next t ∧ reply t [] ∧
          t.dram = s.dram ∧ t.banks = s.banks ∧ others t column ∧
          t.loader = { s.loader with
            bufferA := some x, touches := s.loader.touches + 1, lastActivity := s.now } ∧
          x.column = column ∧
          (∀ a, a ∈ x.rows ↔ firstRow ≤ a ∧ a < firstRow + ms.length) ∧
          (∀ i m, ms[i]? = some m → Table.get zeroes x.values (firstRow + i) = m) ∧
          (∀ a, a ∉ x.rows → Table.get zeroes x.values a = 0))) ∧
    (∀ x, s.loader.bufferA = some x → s.loader.bufferB = none → x.column < (s.bank b).columnCount →
      ∃ t, exec (.loadFlush env) s = .next t ∧ others t x.column ∧
        (∀ a, a < (s.bank b).rowCount → t.coefficient b x.column a = Table.get zeroes x.values a) ∧
        t.bank b = { s.bank b with
          committed := NatSet.add (s.bank b).committed x.column
          zeroFilled := (s.bank b).zeroFilled +
            if x.rows.length < (s.bank b).rowCount then 1 else 0 } ∧
        t.loader = { s.loader with bufferA := none, lastActivity := s.now } ∧
        reply t (be8 1 ++ be8 (if x.rows.length < (s.bank b).rowCount then 1 else 0)))

/-- R82, R83, R84: LOAD_ABORT, BLOCK_REOPEN of a LOADED bank and of a load made by one, and BANK_CLEAR. The
positions in the fault details of its refusals are the model's choice (R191; DESIGN CHOICE, log 9), as is the
verified count 0 of an EMPTY bank, with no block CRCs (DESIGN CHOICE, log 50). -/
def Obligations.LoadIsAbandonedReopenedOrCleared : Prop :=
  ∀ (env : Envelope) (s : State), arrives env s →
    (∀ b, s.loader.state = .loading b env.master ∨ s.loader.state = .verifying b env.master →
      exec (.loadAbort env) s = .next (okAfter env (fun u =>
        { u.setBank b (Bank.reset b) with loader := { u.loader with
          state := .idle, bufferA := none, bufferB := none, reopened := false } }) s)) ∧
    (∀ b, b ≤ 1 →
      ((s.bank b).state = .empty ∨ (s.bank b).state = .loaded ∨ (s.bank b).state = .ready →
        exec (.bankClear env b) s = .next (okAfter env (fun u => u.setBank b (Bank.reset b)) s)) ∧
      ((s.bank b).state ≠ .empty → (s.bank b).state ≠ .loaded → (s.bank b).state ≠ .ready →
        exec (.bankClear env b) s =
          .next (refusedReply env 0x15 .wrongState 0 .none none none s))) ∧
    (∀ b, 1 < b →
      exec (.bankClear env b) s = .next (refusedReply env 0x15 .badArgument 1 .none none none s)) ∧
    (∀ b block, b ≤ 1 → block < (s.bank b).blockCount →
      let kept := fun (r : Bank) => r.committed.filter (fun j =>
        !(decide (block * r.blockSize ≤ j) && decide (j < (block + 1) * r.blockSize)))
      ((s.bank b).state = .loaded → s.loader.state = .idle →
        (s.bank b).recordedOwner = some env.master →
        exec (.blockReopen env b block) s = .next (okAfter env (fun u =>
          { u.modifyBank b (fun r =>
              { r with committed := kept r, state := .loading, recordedOwner := none }) with
            loader := { u.loader with
              state := .loading b env.master, bufferA := none, bufferB := none, reopened := true,
              lastActivity := u.now } }) s)) ∧
      ((s.bank b).state = .loading → s.loader.state = .loading b env.master →
        s.loader.reopened = true →
        exec (.blockReopen env b block) s = .next (okAfter env (fun u =>
          { u.modifyBank b (fun r => { r with committed := kept r }) with
            loader := { u.loader with lastActivity := u.now } }) s)))

/-- R78 to R80: one column of the verify pass: it enters both CRCs; the last one ends the pass with MATCH
or MISMATCH; an uncorrectable read fails it. -/
def Obligations.VerifyReadsOneColumn : Prop :=
  ∀ (s : State) (b owner : Nat), s.resetLow = false → s.loader.state = .verifying b owner →
    (s.bank b).verified < (s.bank b).columnCount →
    let j := (s.bank b).verified
    let bytes := (s.column b j (s.bank b).rowCount).flatMap beInt16
    let whole := crc32Feed s.loader.wholeReg bytes
    let blockReg := crc32Feed s.loader.blockReg bytes
    let done := fun (t : State) => t.loader = { s.loader with
        state := .idle, bufferA := none, bufferB := none, reopened := false,
        wholeReg := t.loader.wholeReg, blockReg := t.loader.blockReg } ∧
      t.hasCause .loadDone = true ∧ t.bank (1 - b) = s.bank (1 - b) ∧ t.dram = s.dram
    (j + 1 < (s.bank b).columnCount → (j + 1) % (s.bank b).blockSize ≠ 0 →
      exec (.verifyColumnRead false) s = .next
        { s.modifyBank b (fun r => { r with verified := j + 1 }) with
          loader := { s.loader with wholeReg := whole, blockReg := blockReg } }) ∧
    (j + 1 < (s.bank b).columnCount → (j + 1) % (s.bank b).blockSize = 0 →
      exec (.verifyColumnRead false) s = .next
        { s.modifyBank b (fun r =>
            { r with verified := j + 1, blockCrcs := r.blockCrcs ++ [~~~blockReg] }) with
          loader := { s.loader with wholeReg := whole, blockReg := 0xFFFFFFFF#32 } }) ∧
    (b < 2 → j + 1 = (s.bank b).columnCount →
      ∃ t, exec (.verifyColumnRead false) s = .next t ∧ done t ∧
        ((s.bank b).expectedCrc = some (~~~whole) → t.bank b = { s.bank b with
          verified := j + 1, blockCrcs := (s.bank b).blockCrcs ++ [~~~blockReg],
          wholeCrc := some (~~~whole), outcome := some .matched, recordedOwner := none,
          state := .ready }) ∧
        ((s.bank b).expectedCrc ≠ some (~~~whole) → t.bank b = { s.bank b with
          verified := j + 1, blockCrcs := (s.bank b).blockCrcs ++ [~~~blockReg],
          wholeCrc := some (~~~whole), outcome := some .mismatch, recordedOwner := some owner,
          state := .loaded })) ∧
    (b < 2 → ∃ t, exec (.verifyColumnRead true) s = .next t ∧ done t ∧
      t.bank b = { s.bank b with
        outcome := some .failed, failingColumn := some j,
        unverified := some ((s.bank b).columnCount - j), errorCount := (s.bank b).errorCount + 1,
        state := .loaded, recordedOwner := some owner })

/-- R78, R79, R203: a verify pass without a failing read reads the bank's every column in order, and its
whole-bank CRC is the CRC-32 of all their bytes. -/
def Obligations.VerifyPassReadsWholeBank : Prop :=
  ∀ (s : State) (b owner : Nat), s.resetLow = false → s.loader.state = .verifying b owner → b < 2 →
    (s.bank b).verified = 0 → 0 < (s.bank b).columnCount → s.loader.wholeReg = 0xFFFFFFFF#32 →
    let bytes := (List.range (s.bank b).columnCount).flatMap (fun j => columnBytes s b j)
    ∃ t, runAll (List.replicate (s.bank b).columnCount (.verifyColumnRead false)) s = .next t ∧
      (t.bank b).wholeCrc = some (~~~(crc32Feed 0xFFFFFFFF#32 bytes)) ∧
      (t.bank b).verified = (s.bank b).columnCount ∧ t.loader.state = .idle ∧
      ((t.bank b).state = .ready ↔
        (s.bank b).expectedCrc = some (~~~(crc32Feed 0xFFFFFFFF#32 bytes)))

/-- R86 to R91, R190: a swap in STOPPED takes effect at once, one in a running loop waits, a late one
is refused, and a late broadcast raises SWAP_LATE; SWAP_CANCEL, addressed or broadcast. That the fault detail
of TOO_LATE has position 2 and no offending value is the model's choice (R191; DESIGN CHOICE, logs 9 and 10). -/
def Obligations.SwapsWaitOrTakeEffect : Prop :=
  ∀ (env : Envelope) (s : State), env.payloadFits = true → env.master ≠ 0 → s.resetLow = false →
    (env.broadcast = false → s.port.address ≠ Config.broadcastAddress) →
    let fit := fun (b : Nat) => b < 2 ∧ s.swapPending = false ∧ (s.bank b).state = .ready ∧
      (s.bank b).rowCount = s.table.n ∧ mapFits s.slopeMap (s.bank b).columnCount = true
    let later := fun (b : Nat) (at? : PendingFrame) => replyWith env .ok false []
      ((takeFrame env s).modifyBank b (fun r =>
        { r with state := .pending, pendingFrame := some at? }))
    (∀ b atFrame, fit b → s.loop.state = .stopped →
      ∃ t, exec (.swap env b atFrame) s = .next t ∧
        t.bank b = { s.bank b with state := .active, pendingFrame := none } ∧
        (s.activeBank = none → t.bank (1 - b) = s.bank (1 - b)) ∧
        (∀ o, s.activeBank = some o → t.bank o = { s.bank o with state := .ready }) ∧
        t.hasCause .swapDone = true ∧ t.loop = s.loop ∧ t.slots = s.slots ∧ t.table = s.table ∧
        t.dram = s.dram ∧ t.loader = s.loader ∧ t.receivers = s.receivers) ∧
    (∀ b, fit b → s.loop.state.running = true →
      exec (.swap env b none) s = .next (later b .next)) ∧
    (∀ b f, fit b → s.loop.state.running = true → (∀ g, s.lastClosed = some g → newer f g = true) →
      (∀ k, k < 2 → (s.slot k).state = .opened → newer f (s.slot k).frame = true) →
      exec (.swap env b (some f)) s = .next (later b (.frame f))) ∧
    (∀ b f, fit b → s.loop.state.running = true →
      ((∃ g, s.lastClosed = some g ∧ newer f g = false) ∨
        ∃ k, k < 2 ∧ (s.slot k).state = .opened ∧ newer f (s.slot k).frame = false) →
      (env.broadcast = true →
        exec (.swap env b (some f)) s = .next (raise .swapLate (raise .broadcastRefused
          (enterFault env 0x17 .tooLate 2 .none none none (takeFrame env s))))) ∧
      (env.broadcast = false → exec (.swap env b (some f)) s =
        .next (refusedReply env 0x17 .tooLate 2 .none none none s))) ∧
    (s.pendingBank = none →
      exec (.swapCancel env) s = .next (replyWith env .ok false [] (takeFrame env s))) ∧
    (∀ b, s.pendingBank = some b →
      exec (.swapCancel env) s = .next (replyWith env .ok false [] (raise .swapCancelled
        ((takeFrame env s).modifyBank b (fun r => { r with state := .ready, pendingFrame := none })))))

/-! ### Actuator table -/

/-- R97, R99, R101 to R106: gain sets and the count are written at once; an edit is applied at once, or held
during a flight, or refused BUSY at a full hold, with position 0 by the model's choice (R191; DESIGN CHOICE,
log 9). -/
def Obligations.TableRequestsAreAppliedOrHeld : Prop :=
  ∀ (env : Envelope) (s : State), arrives env s →
    let t := s.effective
    let n := Config.actuators s.variant
    let edited := fun (c : Instr) (code : Nat) (e : Edit) =>
      (s.inFlight = false → exec c s = .next (okAfter env (fun u =>
        settleLinks { u with table := u.table.apply e }) s)) ∧
      (s.inFlight = true → s.hold.length < 32 →
        exec c s = .next (okAfter env (fun u => { u with hold := u.hold ++ [e] }) s)) ∧
      (s.inFlight = true → 32 ≤ s.hold.length →
        exec c s = .next (refusedReply env code .busy 0 .none none none s))
    (∀ k g leak, k ≤ 7 → exec (.gainWrite env k g leak) s = .next (okAfter env (fun u =>
      { u with gains := Table.set Gain.reset u.gains k { gain := g, leak := leak } }) s)) ∧
    (∀ m, m ≤ n → s.swapPending = false → s.loop.state = .stopped → s.drive.biasSend = none →
      countFault s m = none → exec (.actCount env m) s = .next (okAfter env (fun u =>
        settleLinks { u with table := { u.table with n := m } }) s)) ∧
    (∀ first records, 1 ≤ records.length → records.length ≤ 64 → first + records.length ≤ n →
      recordsFault s t first 0 records = none →
      writeConflict s (t.rewrite first records) first records.length = none →
      edited (.actWrite env first records) 0x1A (.write first records)) ∧
    (∀ a v, a < n → (t.actuator a).lo ≤ v → v ≤ (t.actuator a).hi →
      edited (.actMode env a 2 (some v)) 0x1B (.mode a .forced (some v))) ∧
    (∀ a, a < n → edited (.actMode env a 0 none) 0x1B (.mode a .loop none) ∧
      edited (.actMode env a 1 none) 0x1B (.mode a .held none)) ∧
    (∀ a b dmax, a < n → b < n → a ≠ b → a < t.n → b < t.n → t.pairs.length < 3072 →
      (∀ p ∈ t.pairs, p.names a b = false) →
      (((t.actuator a).bias : Int) - ((t.actuator b).bias : Int)).natAbs ≤ dmax →
      edited (.pairWrite env a b dmax) 0x1F (.pairAdd { a := a, b := b, dmax := dmax })) ∧
    (∀ a b, a < n → b < n → (∃ p ∈ t.pairs, p.names a b = true) →
      edited (.pairRemove env a b) 0x20 (.pairDrop a b))

/-- R99, R100, R103: an edit leaves the same effective table whether it is applied or held; the end of the
flight makes the effective table the table; a rewritten record keeps mode and last output, and its state
is brought into the new limits. -/
def Obligations.EditsAreTheSameHeldOrNot : Prop :=
  (∀ (e : Edit) (s t : State) (payload : List Byte) (clamped : Bool),
    (s.inFlight = false → s.hold = []) → takeEdit e s = .ok payload clamped t →
    t.effective = s.effective.apply e ∧ (s.inFlight = true → t.table = s.table) ∧
      (s.inFlight = false → t.hold = [])) ∧
  (∀ s : State, (applyHold s).table = s.effective ∧ (applyHold s).hold = []) ∧
  (∀ (t : ActTable) (first a : Nat) (fs : List ActFields),
    (∀ i f, fs[i]? = some f → a = first + i →
      (t.apply (.write first fs)).actuator a = { t.actuator a with
        link := f.link, channel := f.channel, bias := f.bias, lo := f.lo, hi := f.hi,
        gainSet := f.gainSet,
        x := if (t.actuator a).x < 256 * f.lo then 256 * f.lo
             else if 256 * f.hi < (t.actuator a).x then 256 * f.hi else (t.actuator a).x }) ∧
    (a < first ∨ first + fs.length ≤ a →
      (t.apply (.write first fs)).actuator a = t.actuator a))

/-! ### Sensors -/

/-- R19 to R23, R27, R29: the sensor settings and the map, and their refusals by absence and by state; nothing
changes but what is named. The positions in the fault details are the model's choice (R191; DESIGN CHOICE, log
9). -/
def Obligations.SensorSettings : Prop :=
  ∀ (env : Envelope) (s : State) (n : Nat), arrives env s →
    let old := s.sensor n
    let set := fun (r : Sensor) => okAfter env (fun u => u.setSensor n r) s
    let marked := fun (r : Sensor) (t : State) =>
      t = { s with
        sensors := Table.set Sensor.reset s.sensors n r, slots := t.slots, port := (okAfter env id s).port } ∧
      (∀ k, k < 2 → t.slot k =
        if (s.slot k).state ≠ .free ∧ n ∈ (s.slot k).conditioned then
          { s.slot k with changed := NatSet.add (s.slot k).changed n }
        else s.slot k)
    (s.hasSlopeLink n = false →
      (∀ role, exec (.sensorRole env n role) s =
        .next (refusedReply env 0x03 .notPresent 1 .none none none s)) ∧
      (∀ tag, exec (.sensorTag env n tag) s =
        .next (refusedReply env 0x04 .notPresent 1 .none none none s))) ∧
    (s.hasSlopeLink n = true →
      (∀ tag, tag ≤ 15 → exec (.sensorTag env n tag) s = .next (set { old with tag := tag })) ∧
      (∀ tag, 15 < tag → exec (.sensorTag env n tag) s =
        .next (refusedReply env 0x04 .badArgument 2 .none none none s)) ∧
      (∀ number role, roleOf number = some role →
        (s.loop.state.running = false ∨ role = .required ∨
          ∃ m, m ≠ n ∧ s.hasSlopeLink m = true ∧ (s.sensor m).role = .required) →
        exec (.sensorRole env n number) s = .next (set { old with role := role })) ∧
      (∀ number role, roleOf number = some role → s.loop.state.running = true →
        role ≠ .required →
        (∀ m, m ≠ n → s.hasSlopeLink m = true → (s.sensor m).role ≠ .required) →
        exec (.sensorRole env n number) s =
          .next (refusedReply env 0x03 .conflict 2 .none none none s)) ∧
      (∀ count, count ≤ 2048 → s.swapPending = false → s.loop.state = .stopped →
        (∀ e ∈ s.slopeMap, e.sensor = n → e.first + e.count ≤ count) →
        exec (.sensorCount env n count) s = .next (set { old with slopeCount := count })) ∧
      (∀ scale, ∃ t, exec (.sensorScale env n scale) s = .next t ∧
        marked { old with scale := scale } t) ∧
      (∀ first offsets, 1 ≤ offsets.length → offsets.length ≤ 1000 →
        first + offsets.length ≤ 2048 → (∀ v ∈ offsets, v ≠ -32768) →
        ∃ t, exec (.refWrite env n first offsets.length offsets) s = .next t ∧
          marked { old with refs := Table.setList zeroes old.refs first offsets } t)) ∧
    (∀ entries, entries.length ≤ 32 → s.swapPending = false → s.loop.state = .stopped →
      (∀ e ∈ entries, s.hasSlopeLink e.sensor = true ∧ e.first ≤ 2047 ∧ 1 ≤ e.count ∧
        e.count ≤ 2048 ∧ e.first + e.count ≤ (s.sensor e.sensor).slopeCount ∧
        e.column + e.count ≤ Config.columns s.variant) →
      entries.Pairwise (fun e f => e.column + e.count ≤ f.column ∨ f.column + f.count ≤ e.column) →
      exec (.mapWrite env entries) s =
        .next (okAfter env (fun u => { u with slopeMap := entries, store := [] }) s))

/-! ### Scan and telemetry -/

/-- R168, R171, R176, R180, R183: the scan's start and stop, and the telemetry unit's requests. The bytes of
the replies of TELEM_SELECT and TELEM_POP follow R205 as the model reads it (DEDUCED, log 11). -/
def Obligations.ScanAndTelemetryRequests : Prop :=
  ∀ (env : Envelope) (s : State), arrives env s →
    (∀ low high amplitude dwell number pattern cycles, patternOf number = some pattern →
      1 ≤ amplitude → amplitude ≤ 32767 → 1 ≤ dwell → dwell ≤ 64 → cycles ≤ 255 → low ≤ high →
      high < s.table.n → s.table.n ≤ Config.actuators s.variant → s.loop.state = .opened →
      s.scan.state ≠ .running →
      exec (.scanStart env low high amplitude dwell number cycles) s = .next (okAfter env (fun u =>
        { u with scan :=
          { state := .running
            run := some
              { low := low, high := high, amplitude := amplitude, dwell := dwell, pattern := pattern,
                cycles := cycles, actuator := low, phase := .push, framesLeft := dwell,
                cyclesDone := 0, endCause := none }
            poked := 0 } }) s)) ∧
    (s.scan.state ≠ .running → exec (.scanStop env) s = .next (okAfter env id s)) ∧
    (∀ r, s.scan.state = .running → s.scan.run = some r →
      ∃ t, exec (.scanStop env) s = .next t ∧
        t = { s with scan := t.scan, telem := t.telem, port := t.port } ∧
        t.scan = { s.scan with state := .aborted, run := some { r with endCause := some .scanStop } } ∧
        t.telem = (offer (eventRecord s (.scanEnd .aborted (some .scanStop)) none s.activeBank) none
          s).telem) ∧
    (∀ kinds : BitVec 16, kinds.toNat < 128 → exec (.telemSelect env kinds) s = .next
      (replyWith env .ok false (be16 kinds.toNat) (let u := takeFrame env s
        { u with telem := { u.telem with selection := kinds.setWidth 7 } }))) ∧
    (∀ count, 1 ≤ count → count ≤ 8 →
      ∃ t, exec (.telemPop env count) s = .next t ∧ t = { s with telem := t.telem, port := t.port } ∧
        t.telem.fifo = s.telem.fifo.drop count ∧
        (∀ k, t.telem.captureSlot k =
          if ∃ r ∈ s.telem.fifo.take count, r.capture = some k then none
          else s.telem.captureSlot k) ∧
        t.telem.overflow = s.telem.overflow ∧ t.telem.lost = s.telem.lost ∧
        t.telem.selection = s.telem.selection ∧ t.telem.images = s.telem.images ∧
        t.port.reply = some
        { address := s.port.address, master := env.master, status := .ok, clamped := false,
          tag := env.tag,
          payload := be8 (min count s.telem.fifo.length) ++ be16 (s.telem.fifo.length - count) ++
            beFlag s.telem.overflow ++ beCount s.telem.lost ++
            (s.telem.fifo.take count).flatMap Record.bytes }) ∧
    exec (.telemReset env) s = .next (okAfter env (fun u => { u with telem := { u.telem with
      fifo := [], captures := [], overflow := false, lost := 0 } }) s)

/-- R176, R177, R206: what becomes of an offered record, and the length of a record on the wire. -/
def Obligations.OfferedRecordsJoinInOrder : Prop :=
  ∀ (r : Record) (s : State), r.bytes.length = 40 ∧
    (s.telem.selects r.kind = false → offer r none s = s) ∧
    (s.telem.selects r.kind = true →
      (s.telem.overflow = true →
        offer r none s = { s with telem := { s.telem with lost := s.telem.lost + 1 } }) ∧
      (s.telem.overflow = false → 512 ≤ s.telem.fifo.length →
        offer r none s = raise .telemOverflow { s with telem := { s.telem with
          overflow := true, lost := s.telem.lost + 1 } }) ∧
      (s.telem.overflow = false → s.telem.fifo.length < 512 → s.telem.fifo.length ≠ 255 →
        offer r none s = { s with telem := { s.telem with fifo := s.telem.fifo ++ [r] } }) ∧
      (s.telem.overflow = false → s.telem.fifo.length = 255 →
        offer r none s = raise .telemHalf
          { s with telem := { s.telem with fifo := s.telem.fifo ++ [r] } }))

/-- R167, R169, R170: a scan of Q cycles over the actuators low..high runs for (high - low + 1) * P poked
frames a cycle, twice as many with PUSH_PULL, and then is DONE. -/
def Obligations.ScanRunsItsCycles : Prop :=
  ∀ (low high amplitude dwell cycles : Nat) (pattern : Pattern), low ≤ high → 1 ≤ dwell →
    dwell ≤ 64 → 1 ≤ cycles → cycles ≤ 255 → high < 1024 →
    let start : Scan :=
      { state := .running
        run := some
          { low := low, high := high, amplitude := amplitude, dwell := dwell, pattern := pattern,
            cycles := cycles, actuator := low, phase := .push, framesLeft := dwell, cyclesDone := 0,
            endCause := none }
        poked := 0 }
    let frames := cycles * (high - low + 1) * dwell * (if pattern = .push then 1 else 2)
    (∀ i, i < frames → (advanceScan start i).state = .running) ∧
    (advanceScan start frames).state = .done ∧
    (advanceScan start frames).poked = BitVec.ofNat 32 frames ∧
    ∃ r, (advanceScan start frames).run = some r ∧ r.cyclesDone.toNat = cycles ∧
      r.endCause = some .complete ∧ r.actuator = high

/-! ### Supervisory port -/

/-- The requests that report: the reply's payload is read from the state the request finds, and nothing but
the port changes (R14, R24, R30, R31, R50, R66, R85, R97, R107, R127, R142, R164, R172, R181, R182, R193,
R194, R196, R198). The bytes rest on the model's reading of R205 (DEDUCED, log 11; DESIGN CHOICE, log 45), the
clamp count in BUILDING on log 18 and the numbers of ON and OFF on log 32 (DEDUCED), whole ms on log 37, the
modulus of the zero-filled count on log 46, and the numbers of detail codes and of OPEN and CLOSED as targets on
logs 12 and 44, and the four bytes of an offending value on log 51 (DESIGN CHOICES). -/
def Obligations.ReportsChangeNothing : Prop :=
  ∀ (env : Envelope) (s : State), arrives env s →
    let tells := fun (c : Instr) (payload : State → List Byte) =>
      exec c s = .next (okReport env payload s)
    (∀ n, s.hasSlopeLink n = true →
      tells (.linkStatus env 0 n) (fun u => slopeLinkPayload u n) ∧
      tells (.sensorRead env n) (fun u => be8 (u.sensor n).role.number ++ be16 (u.sensor n).slopeCount ++
        be16 (u.sensor n).scale ++ be8 (u.sensor n).tag) ∧
      ∀ first count, 1 ≤ count → count ≤ 1000 → first + count ≤ 2048 →
        tells (.refRead env n first count) (fun u =>
          (Table.getList zeroes (u.sensor n).refs first count).flatMap beInt16)) ∧
    (∀ l, s.hasDriveLink l = true → tells (.linkStatus env 1 l) (fun u => driveLinkPayload u l)) ∧
    tells (.mapRead env) (fun u => be16 u.slopeMap.length ++ u.slopeMap.flatMap entryBytes ++
      beOptNat 2 be16 (highestColumn u.slopeMap)) ∧
    (∀ first count, 1 ≤ count → count ≤ 1000 → first + count ≤ Config.columns s.variant →
      tells (.storeRead env first count) (fun u =>
        (Table.getList zeroes u.store first count).flatMap beInt16)) ∧
    tells (.slotStatus env) (fun u =>
      beOptFrame u.lastClosed ++ slotPayload u (u.slot 0) ++ slotPayload u (u.slot 1)) ∧
    tells (.engineStatus env) (fun u => be8 u.engine.work.number ++
      beOption 8 u.engine.work.segmentBytes ++ beOption 3 u.engine.work.fillBytes ++
      beOptNat 1 be8 u.engine.lastServed ++ beCount u.engine.segmentsDone ++
      beCount u.engine.segmentsCut ++ beCount u.engine.passesDone ++ beCount u.engine.passesCut) ∧
    (∀ b first count, b ≤ 1 → count ≤ 256 → tells (.loadStatus env b first count) (fun u =>
      be8 u.loader.state.number ++ beOptNat 1 be8 u.loader.state.bank ++
        beOptNat 1 be8 u.loader.state.owner ++ beOptNat 2 be16 (loaderAge u) ++
        bufferBytes u.loader.bufferA ++ bufferBytes u.loader.bufferB ++ (u.bank 0).bytes ++
        (u.bank 1).bytes ++ blockCrcBytes (u.bank b).blockCrcs first count)) ∧
    (∀ first count, 1 ≤ count → count ≤ 64 → first + count ≤ Config.actuators s.variant →
      tells (.actRead env first count) (fun u =>
        (List.range count).flatMap (fun i => (u.table.actuator (first + i)).bytes) ++
          be16 u.table.n ++ be8 u.hold.length)) ∧
    tells (.gainRead env) (fun u => (List.range 8).flatMap (fun k =>
      be16 (u.gain k).gain ++ be16 (u.gain k).leak)) ∧
    (∀ first count, count ≤ 128 → tells (.pairRead env first count) (fun u =>
      be16 u.table.pairs.length ++ be8 u.hold.length ++
        (List.range count).flatMap (fun i => beOption 6 (u.table.pairs[first + i]?.map Pair.bytes)))) ∧
    tells (.stageStatus env) (fun u => be8 u.stage.phase.number ++ beOption 11 u.stage.phase.group ++
      be8 u.hold.length ++ beCount u.stage.committed ++ beCount u.stage.droppedStroke ++
      beCount u.stage.droppedDrive ++ beCount u.stage.held ++ beCount u.stage.cut) ∧
    tells (.loopStatus env) (fun u =>
      let l := u.loop
      be8 l.state.number ++ beOption 5 (l.lastTransition.map LastTransition.bytes) ++
        be8 l.missedRun ++ be8 l.strokeRun ++ be8 l.driveRun ++ be8 l.missedThreshold ++
        be8 l.strokeThreshold ++ be8 l.driveThreshold ++ be16 l.deadline ++
        beOption 4 (l.pendingTransition.map PendingTransition.bytes) ++ beFlag l.safeConfirmed ++
        beFlag u.drive.biasSend.isSome ++ beOptNat 1 be8 u.activeBank ++ beCount l.holdEntries ++
        beCount l.safeEntries) ∧
    tells (.scanStatus env) (fun u =>
      be8 u.scan.state.number ++ beOption 20 (u.scan.run.map (fun r => r.bytes u.scan.poked))) ∧
    (∀ k offset length bad c, k ≤ 31 → 1 ≤ length → length ≤ 1000 →
      s.telem.captureSlot k = some c → offset + length ≤ c.columns + c.n →
      tells (.captureRead env k offset length bad) (fun _ =>
        be16 c.frame.toNat ++ be16 c.columns ++ be16 c.n ++ beFlag (readDamaged offset length bad) ++
          c.values offset length bad)) ∧
    tells (.telemStatus env) (fun u => be16 u.telem.fifo.length ++ beFlag u.telem.overflow ++
      beCount u.telem.lost ++ be16 u.telem.selection.toNat ++
      be8 (onOffNumber u.port.features.capture) ++
      (List.range 32).flatMap (captureSlotBytes u.telem) ++
      beFlag (u.telem.image 0).isSome ++ beFlag (u.telem.image 1).isSome) ∧
    tells (.ident env) (fun u => be8 (variantNumber u.variant) ++ capacityBytes u.variant ++
      commonBytes ++ be8 u.port.address ++ be8 Config.revision) ∧
    tells (.portStatus env) (fun u => beCount u.port.framesTaken ++ beCount u.port.broadcastsTaken ++
      beCount u.port.crcFail ++ beCount u.port.badMaster ++ beCount u.port.gap ++
      beCount u.port.overlength ++ beCount u.port.replyLost ++ be8 u.port.address ++
      (List.range 7).flatMap (fun i => beFlag (u.port.entry (i + 1)).isSome)) ∧
    tells (.faultDetail env) (fun _ => beOption 13 ((s.port.entry env.master).map FaultEntry.bytes)) ∧
    (∀ k, k ≤ 3 → tells (.featureGet env (some k)) (fun u => featureBytes u.port.features k)) ∧
    tells (.featureGet env none) (fun u => featureBytes u.port.features 0 ++
      featureBytes u.port.features 1 ++ featureBytes u.port.features 2 ++
      featureBytes u.port.features 3) ∧
    tells (.attnRead env) (fun u => be16 u.port.causes.toNat ++ be16 u.port.mask.toNat)

/-- R186, R189, R195, R197 to R200: the port's settings, its discards and its replies. REPLY_SENT, REPLY_LOST
and REPLY_WOULD_HAVE_ENDED with nothing that waits change nothing by the model's reading (DEDUCED, log 2), and ON is
0 and OFF is 1 by its reading of R202 (DEDUCED, log 32); the positions in the fault details are its choice
(DESIGN CHOICE, log 9). -/
def Obligations.PortSettingsAndEvents : Prop :=
  ∀ (env : Envelope) (s : State), s.resetLow = false →
    let at_ := fun (p : Port) => ({ s with port := p } : State)
    (arrives env s →
      let set := fun (f : Features) => okAfter env (fun u => { u with port := { u.port with features := f } }) s
      exec (.featureSet env 0 0) s = .next (set { s.port.features with keep := true }) ∧
      exec (.featureSet env 0 1) s = .next (set { s.port.features with keep := false }) ∧
      exec (.featureSet env 1 0) s = .next (set { s.port.features with substitute := .holdLast }) ∧
      exec (.featureSet env 1 1) s = .next (set { s.port.features with substitute := .zero }) ∧
      exec (.featureSet env 2 0) s = .next (set { s.port.features with capture := true }) ∧
      exec (.featureSet env 2 1) s = .next (set { s.port.features with capture := false }) ∧
      (∀ v, exec (.featureSet env 3 v) s = .next (okClamped env (decide (v < 10 ∨ 60000 < v))
        (fun u => { u with port := { u.port with
          features := { s.port.features with loadIdleLimit := max 10 (min 60000 v) } } }) s)) ∧
      (∀ causes : BitVec 16, causes.toNat < 8192 →
        exec (.attnMask env causes) s = .next (okAfter env (fun u =>
          { u with port := { u.port with mask := causes.setWidth 13 } }) s) ∧
        ∃ t, exec (.attnAck env causes) s = .next t ∧ t = { s with port := t.port } ∧
          (∀ c : Cause, t.hasCause c = (s.hasCause c && !causes.getLsbD c.index)) ∧
          t.port.mask = s.port.mask) ∧
      (∀ causes : BitVec 16, 8192 ≤ causes.toNat →
        exec (.attnMask env causes) s =
          .next (refusedReply env 0x39 .badArgument 1 .none none none s) ∧
        exec (.attnAck env causes) s =
          .next (refusedReply env 0x3B .badArgument 1 .none none none s)) ∧
      exec (.resetSoft env) s = .next (okAfter env (fun u =>
        { u with port := { u.port with resetAfterReply := true } }) s)) ∧
    exec .busSilenceGap s = .next (at_ { s.port with reception := none, gap := s.port.gap + 1 }) ∧
    exec .overlengthHeader s =
      .next (at_ { s.port with reception := none, overlength := s.port.overlength + 1 }) ∧
    (∀ r, s.port.reply = some r →
      (s.port.resetAfterReply = false →
        exec .replySent s = .next (at_ { s.port with reply := none })) ∧
      exec .replyLost s = .next (at_ { s.port with
        reply := none, replyLost := s.port.replyLost + 1, resetAfterReply := false,
        resetsAtReplyEnd := s.port.resetsAtReplyEnd + if s.port.resetAfterReply then 1 else 0 })) ∧
    (s.port.reply = none → exec .replySent s = .next s ∧ exec .replyLost s = .next s) ∧
    (s.port.resetsAtReplyEnd = 0 → exec .replyWouldHaveEnded s = .next s)

/-- R17, R33, R51, R67, R94, R109, R128, R146, R166, R173, R184, R200: what a soft reset leaves, after a
broadcast RESET_SOFT, the sent reply of an addressed one, or the end of its lost reply; it loses no soft reset
that still waits for another reply. The verified count 0 of an EMPTY bank, with no block CRCs, is the model's
choice (DESIGN CHOICE, log 50). -/
def Obligations.SoftResetClearsBlocks : Prop :=
  ∀ (s : State), s.resetLow = false →
    let keep := s.port.features.keep
    let cleared := fun (t : State) =>
      (∀ k, t.slot k = Slot.reset k) ∧ t.lastClosed = none ∧ t.engine = Engine.reset ∧
      t.stage = Stage.reset ∧ t.scan = Scan.reset ∧ t.hold = [] ∧ t.loop.state = .stopped ∧
      t.telem.fifo = [] ∧ t.telem.captures = [] ∧ t.telem.images = [] ∧ t.telem.overflow = false ∧
      t.telem.lost = 0 ∧ t.dram = s.dram ∧ t.loader.state = .idle ∧ t.drive.number = s.drive.number ∧
      t.drive.current = none ∧ t.drive.request = none ∧ t.drive.biasSend = none ∧
      t.drive.pulses = 0 ∧
      (∀ l, s.hasDriveLink l = true →
        ((t.driveLink l).state = .idle ∨ (t.driveLink l).state = .disabled) ∧
        (t.driveLink l).outstanding = none ∧ (t.driveLink l).timer = none) ∧ t.linksSettled ∧
      (∀ n, s.hasSlopeLink n = true → (t.receiver n).queue = [] ∧
        (t.receiver n).line = (s.receiver n).line ∧
        (t.receiver n).silenceRunning = (s.receiver n).silenceRunning ∧
        (t.receiver n).accepted = 0) ∧
      t.port.features = s.port.features ∧ t.port.address = s.port.address ∧ t.port.mask = 0 ∧
      (∀ m, t.port.entry m = none) ∧
      t.port.causes = (if s.swapPending then Cause.swapCancelled.bit else 0) ∧
      (keep = true → t.sensors = s.sensors ∧ t.slopeMap = s.slopeMap ∧ t.store = s.store ∧
        t.gains = s.gains ∧ t.table = s.effective ∧ t.loop.deadline = s.loop.deadline ∧
        t.telem.selection = s.telem.selection ∧
        (∀ b, (s.bank b).state = .active → t.bank b = s.bank b)) ∧
      (keep = false → t.sensors = [] ∧ t.slopeMap = [] ∧ t.store = [] ∧ t.gains = [] ∧
        t.table = ActTable.reset ∧ t.loop = Loop.reset ∧ t.telem = Telem.reset ∧
        (∀ b, b < 2 → t.bank b = Bank.reset b) ∧
        (∀ l, s.hasDriveLink l = true → (t.driveLink l).channels = Config.channels s.variant))
    (∀ env : Envelope, env.broadcast = true → env.master ≠ 0 → env.payloadFits = true →
      ∃ t, exec (.resetSoft env) s = .next t ∧ cleared t ∧
        t.port.resetAfterReply = s.port.resetAfterReply ∧
        t.port.resetsAtReplyEnd = s.port.resetsAtReplyEnd) ∧
    (∀ r, s.port.reply = some r → s.port.resetAfterReply = true →
      ∃ t, exec .replySent s = .next t ∧ cleared t ∧ t.port.reply = none ∧
        t.port.resetAfterReply = false ∧ t.port.resetsAtReplyEnd = s.port.resetsAtReplyEnd) ∧
    (0 < s.port.resetsAtReplyEnd → ∃ t, exec .replyWouldHaveEnded s = .next t ∧ cleared t ∧
      t.port.resetAfterReply = s.port.resetAfterReply ∧
      t.port.resetsAtReplyEnd = s.port.resetsAtReplyEnd - 1)

/-- R189, R191, R192: every addressed request is answered; a refusal makes the fault-detail entry of its
master and, LOAD_CLOSE apart, changes nothing outside the port. A reply still to be sent is replaced by the
new one, by the model's choice (DESIGN CHOICE, log 23). -/
def Obligations.EveryRequestIsAnswered : Prop :=
  ∀ (c : Instr) (env : Envelope) (code : Nat) (s : State), envelopeOf c = some env →
    codeOf c = some code → reaches env s →
    ∃ t r, exec c s = .next t ∧ t.port.reply = some r ∧ r.address = s.port.address ∧
      r.master = env.master ∧ r.tag = env.tag ∧
      (∀ m, m ≠ env.master → t.port.entry m = s.port.entry m) ∧
      t.port.framesTaken = s.port.framesTaken + 1 ∧
      (r.status = .ok ∨ r.status = .accepted → t.port.entry env.master = none) ∧
      (r.status ≠ .ok → r.status ≠ .accepted →
        (∃ e, t.port.entry env.master = some e ∧ e.code = code ∧ e.status = r.status ∧
          e.tag = env.tag) ∧
        ((∀ e x, c ≠ .loadClose e x) → t = { s with port := t.port }))

/-- R188, R190, R205: a broadcast of a request that may not be one is refused and reported, and a payload
that does not match its fields is refused BAD_ARGUMENT, before the checks of the owning block (DEDUCED, log 8)
and with position 0 (DESIGN CHOICE, log 9). REF_WRITE makes that check after those of the sensor and the count
(R23). -/
def Obligations.UnsuitableRequestsAreRefused : Prop :=
  ∀ (c : Instr) (env : Envelope) (code : Nat) (s : State), envelopeOf c = some env →
    codeOf c = some code →
    (s.resetLow = false → env.master ≠ 0 → env.broadcast = true →
      code ∉ [0x17, 0x18, 0x25, 0x26, 0x27, 0x28, 0x29, 0x3C] →
      exec c s = .next (broadcastRefused env code s)) ∧
    (reaches env s → env.payloadFits = false → (∀ e a b n xs, c ≠ .refWrite e a b n xs) →
      exec c s = .next (refusedReply env code .badArgument 0 .none none none s)) ∧
    (reaches env s → env.payloadFits = false → ∀ n first count offsets,
      c = .refWrite env n first count offsets → s.hasSlopeLink n = true → 1 ≤ count → count ≤ 1000 →
      exec c s = .next (refusedReply env code .badArgument 0 .none none none s))
end

