-- ==== Sys2Proof/Laws/State.lean ====
section
/-! SUPPORT. One lemma per field per update: what the named writes of Machine/Ops.lean leave as it was. -/

namespace Sys2Proof.Machine

@[simp] theorem State.setReceiver_variant (s : State) (n : Nat) (r : Receiver) : (s.setReceiver n r).variant = s.variant := rfl
@[simp] theorem State.setReceiver_resetLow (s : State) (n : Nat) (r : Receiver) : (s.setReceiver n r).resetLow = s.resetLow := rfl
@[simp] theorem State.setReceiver_now (s : State) (n : Nat) (r : Receiver) : (s.setReceiver n r).now = s.now := rfl
@[simp] theorem State.setReceiver_sensors (s : State) (n : Nat) (r : Receiver) : (s.setReceiver n r).sensors = s.sensors := rfl
@[simp] theorem State.setReceiver_slopeMap (s : State) (n : Nat) (r : Receiver) : (s.setReceiver n r).slopeMap = s.slopeMap := rfl
@[simp] theorem State.setReceiver_store (s : State) (n : Nat) (r : Receiver) : (s.setReceiver n r).store = s.store := rfl
@[simp] theorem State.setReceiver_slots (s : State) (n : Nat) (r : Receiver) : (s.setReceiver n r).slots = s.slots := rfl
@[simp] theorem State.setReceiver_lastClosed (s : State) (n : Nat) (r : Receiver) : (s.setReceiver n r).lastClosed = s.lastClosed := rfl
@[simp] theorem State.setReceiver_engine (s : State) (n : Nat) (r : Receiver) : (s.setReceiver n r).engine = s.engine := rfl
@[simp] theorem State.setReceiver_banks (s : State) (n : Nat) (r : Receiver) : (s.setReceiver n r).banks = s.banks := rfl
@[simp] theorem State.setReceiver_dram (s : State) (n : Nat) (r : Receiver) : (s.setReceiver n r).dram = s.dram := rfl
@[simp] theorem State.setReceiver_loader (s : State) (n : Nat) (r : Receiver) : (s.setReceiver n r).loader = s.loader := rfl
@[simp] theorem State.setReceiver_table (s : State) (n : Nat) (r : Receiver) : (s.setReceiver n r).table = s.table := rfl
@[simp] theorem State.setReceiver_gains (s : State) (n : Nat) (r : Receiver) : (s.setReceiver n r).gains = s.gains := rfl
@[simp] theorem State.setReceiver_hold (s : State) (n : Nat) (r : Receiver) : (s.setReceiver n r).hold = s.hold := rfl
@[simp] theorem State.setReceiver_stage (s : State) (n : Nat) (r : Receiver) : (s.setReceiver n r).stage = s.stage := rfl
@[simp] theorem State.setReceiver_drive (s : State) (n : Nat) (r : Receiver) : (s.setReceiver n r).drive = s.drive := rfl
@[simp] theorem State.setReceiver_loop (s : State) (n : Nat) (r : Receiver) : (s.setReceiver n r).loop = s.loop := rfl
@[simp] theorem State.setReceiver_scan (s : State) (n : Nat) (r : Receiver) : (s.setReceiver n r).scan = s.scan := rfl
@[simp] theorem State.setReceiver_telem (s : State) (n : Nat) (r : Receiver) : (s.setReceiver n r).telem = s.telem := rfl
@[simp] theorem State.setReceiver_port (s : State) (n : Nat) (r : Receiver) : (s.setReceiver n r).port = s.port := rfl
@[simp] theorem State.setReceiver_pending (s : State) (n : Nat) (r : Receiver) : (s.setReceiver n r).pending = s.pending := rfl

@[simp] theorem State.modifyReceiver_variant (s : State) (n : Nat) (f : Receiver → Receiver) : (s.modifyReceiver n f).variant = s.variant := rfl
@[simp] theorem State.modifyReceiver_resetLow (s : State) (n : Nat) (f : Receiver → Receiver) : (s.modifyReceiver n f).resetLow = s.resetLow := rfl
@[simp] theorem State.modifyReceiver_now (s : State) (n : Nat) (f : Receiver → Receiver) : (s.modifyReceiver n f).now = s.now := rfl
@[simp] theorem State.modifyReceiver_sensors (s : State) (n : Nat) (f : Receiver → Receiver) : (s.modifyReceiver n f).sensors = s.sensors := rfl
@[simp] theorem State.modifyReceiver_slopeMap (s : State) (n : Nat) (f : Receiver → Receiver) : (s.modifyReceiver n f).slopeMap = s.slopeMap := rfl
@[simp] theorem State.modifyReceiver_store (s : State) (n : Nat) (f : Receiver → Receiver) : (s.modifyReceiver n f).store = s.store := rfl
@[simp] theorem State.modifyReceiver_slots (s : State) (n : Nat) (f : Receiver → Receiver) : (s.modifyReceiver n f).slots = s.slots := rfl
@[simp] theorem State.modifyReceiver_lastClosed (s : State) (n : Nat) (f : Receiver → Receiver) : (s.modifyReceiver n f).lastClosed = s.lastClosed := rfl
@[simp] theorem State.modifyReceiver_engine (s : State) (n : Nat) (f : Receiver → Receiver) : (s.modifyReceiver n f).engine = s.engine := rfl
@[simp] theorem State.modifyReceiver_banks (s : State) (n : Nat) (f : Receiver → Receiver) : (s.modifyReceiver n f).banks = s.banks := rfl
@[simp] theorem State.modifyReceiver_dram (s : State) (n : Nat) (f : Receiver → Receiver) : (s.modifyReceiver n f).dram = s.dram := rfl
@[simp] theorem State.modifyReceiver_loader (s : State) (n : Nat) (f : Receiver → Receiver) : (s.modifyReceiver n f).loader = s.loader := rfl
@[simp] theorem State.modifyReceiver_table (s : State) (n : Nat) (f : Receiver → Receiver) : (s.modifyReceiver n f).table = s.table := rfl
@[simp] theorem State.modifyReceiver_gains (s : State) (n : Nat) (f : Receiver → Receiver) : (s.modifyReceiver n f).gains = s.gains := rfl
@[simp] theorem State.modifyReceiver_hold (s : State) (n : Nat) (f : Receiver → Receiver) : (s.modifyReceiver n f).hold = s.hold := rfl
@[simp] theorem State.modifyReceiver_stage (s : State) (n : Nat) (f : Receiver → Receiver) : (s.modifyReceiver n f).stage = s.stage := rfl
@[simp] theorem State.modifyReceiver_drive (s : State) (n : Nat) (f : Receiver → Receiver) : (s.modifyReceiver n f).drive = s.drive := rfl
@[simp] theorem State.modifyReceiver_loop (s : State) (n : Nat) (f : Receiver → Receiver) : (s.modifyReceiver n f).loop = s.loop := rfl
@[simp] theorem State.modifyReceiver_scan (s : State) (n : Nat) (f : Receiver → Receiver) : (s.modifyReceiver n f).scan = s.scan := rfl
@[simp] theorem State.modifyReceiver_telem (s : State) (n : Nat) (f : Receiver → Receiver) : (s.modifyReceiver n f).telem = s.telem := rfl
@[simp] theorem State.modifyReceiver_port (s : State) (n : Nat) (f : Receiver → Receiver) : (s.modifyReceiver n f).port = s.port := rfl
@[simp] theorem State.modifyReceiver_pending (s : State) (n : Nat) (f : Receiver → Receiver) : (s.modifyReceiver n f).pending = s.pending := rfl

@[simp] theorem State.setSensor_variant (s : State) (n : Nat) (r : Sensor) : (s.setSensor n r).variant = s.variant := rfl
@[simp] theorem State.setSensor_resetLow (s : State) (n : Nat) (r : Sensor) : (s.setSensor n r).resetLow = s.resetLow := rfl
@[simp] theorem State.setSensor_now (s : State) (n : Nat) (r : Sensor) : (s.setSensor n r).now = s.now := rfl
@[simp] theorem State.setSensor_receivers (s : State) (n : Nat) (r : Sensor) : (s.setSensor n r).receivers = s.receivers := rfl
@[simp] theorem State.setSensor_slopeMap (s : State) (n : Nat) (r : Sensor) : (s.setSensor n r).slopeMap = s.slopeMap := rfl
@[simp] theorem State.setSensor_store (s : State) (n : Nat) (r : Sensor) : (s.setSensor n r).store = s.store := rfl
@[simp] theorem State.setSensor_slots (s : State) (n : Nat) (r : Sensor) : (s.setSensor n r).slots = s.slots := rfl
@[simp] theorem State.setSensor_lastClosed (s : State) (n : Nat) (r : Sensor) : (s.setSensor n r).lastClosed = s.lastClosed := rfl
@[simp] theorem State.setSensor_engine (s : State) (n : Nat) (r : Sensor) : (s.setSensor n r).engine = s.engine := rfl
@[simp] theorem State.setSensor_banks (s : State) (n : Nat) (r : Sensor) : (s.setSensor n r).banks = s.banks := rfl
@[simp] theorem State.setSensor_dram (s : State) (n : Nat) (r : Sensor) : (s.setSensor n r).dram = s.dram := rfl
@[simp] theorem State.setSensor_loader (s : State) (n : Nat) (r : Sensor) : (s.setSensor n r).loader = s.loader := rfl
@[simp] theorem State.setSensor_table (s : State) (n : Nat) (r : Sensor) : (s.setSensor n r).table = s.table := rfl
@[simp] theorem State.setSensor_gains (s : State) (n : Nat) (r : Sensor) : (s.setSensor n r).gains = s.gains := rfl
@[simp] theorem State.setSensor_hold (s : State) (n : Nat) (r : Sensor) : (s.setSensor n r).hold = s.hold := rfl
@[simp] theorem State.setSensor_stage (s : State) (n : Nat) (r : Sensor) : (s.setSensor n r).stage = s.stage := rfl
@[simp] theorem State.setSensor_drive (s : State) (n : Nat) (r : Sensor) : (s.setSensor n r).drive = s.drive := rfl
@[simp] theorem State.setSensor_loop (s : State) (n : Nat) (r : Sensor) : (s.setSensor n r).loop = s.loop := rfl
@[simp] theorem State.setSensor_scan (s : State) (n : Nat) (r : Sensor) : (s.setSensor n r).scan = s.scan := rfl
@[simp] theorem State.setSensor_telem (s : State) (n : Nat) (r : Sensor) : (s.setSensor n r).telem = s.telem := rfl
@[simp] theorem State.setSensor_port (s : State) (n : Nat) (r : Sensor) : (s.setSensor n r).port = s.port := rfl
@[simp] theorem State.setSensor_pending (s : State) (n : Nat) (r : Sensor) : (s.setSensor n r).pending = s.pending := rfl

@[simp] theorem State.setSlot_variant (s : State) (k : Nat) (r : Slot) : (s.setSlot k r).variant = s.variant := rfl
@[simp] theorem State.setSlot_resetLow (s : State) (k : Nat) (r : Slot) : (s.setSlot k r).resetLow = s.resetLow := rfl
@[simp] theorem State.setSlot_now (s : State) (k : Nat) (r : Slot) : (s.setSlot k r).now = s.now := rfl
@[simp] theorem State.setSlot_receivers (s : State) (k : Nat) (r : Slot) : (s.setSlot k r).receivers = s.receivers := rfl
@[simp] theorem State.setSlot_sensors (s : State) (k : Nat) (r : Slot) : (s.setSlot k r).sensors = s.sensors := rfl
@[simp] theorem State.setSlot_slopeMap (s : State) (k : Nat) (r : Slot) : (s.setSlot k r).slopeMap = s.slopeMap := rfl
@[simp] theorem State.setSlot_store (s : State) (k : Nat) (r : Slot) : (s.setSlot k r).store = s.store := rfl
@[simp] theorem State.setSlot_lastClosed (s : State) (k : Nat) (r : Slot) : (s.setSlot k r).lastClosed = s.lastClosed := rfl
@[simp] theorem State.setSlot_engine (s : State) (k : Nat) (r : Slot) : (s.setSlot k r).engine = s.engine := rfl
@[simp] theorem State.setSlot_banks (s : State) (k : Nat) (r : Slot) : (s.setSlot k r).banks = s.banks := rfl
@[simp] theorem State.setSlot_dram (s : State) (k : Nat) (r : Slot) : (s.setSlot k r).dram = s.dram := rfl
@[simp] theorem State.setSlot_loader (s : State) (k : Nat) (r : Slot) : (s.setSlot k r).loader = s.loader := rfl
@[simp] theorem State.setSlot_table (s : State) (k : Nat) (r : Slot) : (s.setSlot k r).table = s.table := rfl
@[simp] theorem State.setSlot_gains (s : State) (k : Nat) (r : Slot) : (s.setSlot k r).gains = s.gains := rfl
@[simp] theorem State.setSlot_hold (s : State) (k : Nat) (r : Slot) : (s.setSlot k r).hold = s.hold := rfl
@[simp] theorem State.setSlot_stage (s : State) (k : Nat) (r : Slot) : (s.setSlot k r).stage = s.stage := rfl
@[simp] theorem State.setSlot_drive (s : State) (k : Nat) (r : Slot) : (s.setSlot k r).drive = s.drive := rfl
@[simp] theorem State.setSlot_loop (s : State) (k : Nat) (r : Slot) : (s.setSlot k r).loop = s.loop := rfl
@[simp] theorem State.setSlot_scan (s : State) (k : Nat) (r : Slot) : (s.setSlot k r).scan = s.scan := rfl
@[simp] theorem State.setSlot_telem (s : State) (k : Nat) (r : Slot) : (s.setSlot k r).telem = s.telem := rfl
@[simp] theorem State.setSlot_port (s : State) (k : Nat) (r : Slot) : (s.setSlot k r).port = s.port := rfl
@[simp] theorem State.setSlot_pending (s : State) (k : Nat) (r : Slot) : (s.setSlot k r).pending = s.pending := rfl

@[simp] theorem State.modifySlot_variant (s : State) (k : Nat) (f : Slot → Slot) : (s.modifySlot k f).variant = s.variant := rfl
@[simp] theorem State.modifySlot_resetLow (s : State) (k : Nat) (f : Slot → Slot) : (s.modifySlot k f).resetLow = s.resetLow := rfl
@[simp] theorem State.modifySlot_now (s : State) (k : Nat) (f : Slot → Slot) : (s.modifySlot k f).now = s.now := rfl
@[simp] theorem State.modifySlot_receivers (s : State) (k : Nat) (f : Slot → Slot) : (s.modifySlot k f).receivers = s.receivers := rfl
@[simp] theorem State.modifySlot_sensors (s : State) (k : Nat) (f : Slot → Slot) : (s.modifySlot k f).sensors = s.sensors := rfl
@[simp] theorem State.modifySlot_slopeMap (s : State) (k : Nat) (f : Slot → Slot) : (s.modifySlot k f).slopeMap = s.slopeMap := rfl
@[simp] theorem State.modifySlot_store (s : State) (k : Nat) (f : Slot → Slot) : (s.modifySlot k f).store = s.store := rfl
@[simp] theorem State.modifySlot_lastClosed (s : State) (k : Nat) (f : Slot → Slot) : (s.modifySlot k f).lastClosed = s.lastClosed := rfl
@[simp] theorem State.modifySlot_engine (s : State) (k : Nat) (f : Slot → Slot) : (s.modifySlot k f).engine = s.engine := rfl
@[simp] theorem State.modifySlot_banks (s : State) (k : Nat) (f : Slot → Slot) : (s.modifySlot k f).banks = s.banks := rfl
@[simp] theorem State.modifySlot_dram (s : State) (k : Nat) (f : Slot → Slot) : (s.modifySlot k f).dram = s.dram := rfl
@[simp] theorem State.modifySlot_loader (s : State) (k : Nat) (f : Slot → Slot) : (s.modifySlot k f).loader = s.loader := rfl
@[simp] theorem State.modifySlot_table (s : State) (k : Nat) (f : Slot → Slot) : (s.modifySlot k f).table = s.table := rfl
@[simp] theorem State.modifySlot_gains (s : State) (k : Nat) (f : Slot → Slot) : (s.modifySlot k f).gains = s.gains := rfl
@[simp] theorem State.modifySlot_hold (s : State) (k : Nat) (f : Slot → Slot) : (s.modifySlot k f).hold = s.hold := rfl
@[simp] theorem State.modifySlot_stage (s : State) (k : Nat) (f : Slot → Slot) : (s.modifySlot k f).stage = s.stage := rfl
@[simp] theorem State.modifySlot_drive (s : State) (k : Nat) (f : Slot → Slot) : (s.modifySlot k f).drive = s.drive := rfl
@[simp] theorem State.modifySlot_loop (s : State) (k : Nat) (f : Slot → Slot) : (s.modifySlot k f).loop = s.loop := rfl
@[simp] theorem State.modifySlot_scan (s : State) (k : Nat) (f : Slot → Slot) : (s.modifySlot k f).scan = s.scan := rfl
@[simp] theorem State.modifySlot_telem (s : State) (k : Nat) (f : Slot → Slot) : (s.modifySlot k f).telem = s.telem := rfl
@[simp] theorem State.modifySlot_port (s : State) (k : Nat) (f : Slot → Slot) : (s.modifySlot k f).port = s.port := rfl
@[simp] theorem State.modifySlot_pending (s : State) (k : Nat) (f : Slot → Slot) : (s.modifySlot k f).pending = s.pending := rfl

@[simp] theorem State.setBank_variant (s : State) (b : Nat) (r : Bank) : (s.setBank b r).variant = s.variant := rfl
@[simp] theorem State.setBank_resetLow (s : State) (b : Nat) (r : Bank) : (s.setBank b r).resetLow = s.resetLow := rfl
@[simp] theorem State.setBank_now (s : State) (b : Nat) (r : Bank) : (s.setBank b r).now = s.now := rfl
@[simp] theorem State.setBank_receivers (s : State) (b : Nat) (r : Bank) : (s.setBank b r).receivers = s.receivers := rfl
@[simp] theorem State.setBank_sensors (s : State) (b : Nat) (r : Bank) : (s.setBank b r).sensors = s.sensors := rfl
@[simp] theorem State.setBank_slopeMap (s : State) (b : Nat) (r : Bank) : (s.setBank b r).slopeMap = s.slopeMap := rfl
@[simp] theorem State.setBank_store (s : State) (b : Nat) (r : Bank) : (s.setBank b r).store = s.store := rfl
@[simp] theorem State.setBank_slots (s : State) (b : Nat) (r : Bank) : (s.setBank b r).slots = s.slots := rfl
@[simp] theorem State.setBank_lastClosed (s : State) (b : Nat) (r : Bank) : (s.setBank b r).lastClosed = s.lastClosed := rfl
@[simp] theorem State.setBank_engine (s : State) (b : Nat) (r : Bank) : (s.setBank b r).engine = s.engine := rfl
@[simp] theorem State.setBank_dram (s : State) (b : Nat) (r : Bank) : (s.setBank b r).dram = s.dram := rfl
@[simp] theorem State.setBank_loader (s : State) (b : Nat) (r : Bank) : (s.setBank b r).loader = s.loader := rfl
@[simp] theorem State.setBank_table (s : State) (b : Nat) (r : Bank) : (s.setBank b r).table = s.table := rfl
@[simp] theorem State.setBank_gains (s : State) (b : Nat) (r : Bank) : (s.setBank b r).gains = s.gains := rfl
@[simp] theorem State.setBank_hold (s : State) (b : Nat) (r : Bank) : (s.setBank b r).hold = s.hold := rfl
@[simp] theorem State.setBank_stage (s : State) (b : Nat) (r : Bank) : (s.setBank b r).stage = s.stage := rfl
@[simp] theorem State.setBank_drive (s : State) (b : Nat) (r : Bank) : (s.setBank b r).drive = s.drive := rfl
@[simp] theorem State.setBank_loop (s : State) (b : Nat) (r : Bank) : (s.setBank b r).loop = s.loop := rfl
@[simp] theorem State.setBank_scan (s : State) (b : Nat) (r : Bank) : (s.setBank b r).scan = s.scan := rfl
@[simp] theorem State.setBank_telem (s : State) (b : Nat) (r : Bank) : (s.setBank b r).telem = s.telem := rfl
@[simp] theorem State.setBank_port (s : State) (b : Nat) (r : Bank) : (s.setBank b r).port = s.port := rfl
@[simp] theorem State.setBank_pending (s : State) (b : Nat) (r : Bank) : (s.setBank b r).pending = s.pending := rfl

@[simp] theorem State.modifyBank_variant (s : State) (b : Nat) (f : Bank → Bank) : (s.modifyBank b f).variant = s.variant := rfl
@[simp] theorem State.modifyBank_resetLow (s : State) (b : Nat) (f : Bank → Bank) : (s.modifyBank b f).resetLow = s.resetLow := rfl
@[simp] theorem State.modifyBank_now (s : State) (b : Nat) (f : Bank → Bank) : (s.modifyBank b f).now = s.now := rfl
@[simp] theorem State.modifyBank_receivers (s : State) (b : Nat) (f : Bank → Bank) : (s.modifyBank b f).receivers = s.receivers := rfl
@[simp] theorem State.modifyBank_sensors (s : State) (b : Nat) (f : Bank → Bank) : (s.modifyBank b f).sensors = s.sensors := rfl
@[simp] theorem State.modifyBank_slopeMap (s : State) (b : Nat) (f : Bank → Bank) : (s.modifyBank b f).slopeMap = s.slopeMap := rfl
@[simp] theorem State.modifyBank_store (s : State) (b : Nat) (f : Bank → Bank) : (s.modifyBank b f).store = s.store := rfl
@[simp] theorem State.modifyBank_slots (s : State) (b : Nat) (f : Bank → Bank) : (s.modifyBank b f).slots = s.slots := rfl
@[simp] theorem State.modifyBank_lastClosed (s : State) (b : Nat) (f : Bank → Bank) : (s.modifyBank b f).lastClosed = s.lastClosed := rfl
@[simp] theorem State.modifyBank_engine (s : State) (b : Nat) (f : Bank → Bank) : (s.modifyBank b f).engine = s.engine := rfl
@[simp] theorem State.modifyBank_dram (s : State) (b : Nat) (f : Bank → Bank) : (s.modifyBank b f).dram = s.dram := rfl
@[simp] theorem State.modifyBank_loader (s : State) (b : Nat) (f : Bank → Bank) : (s.modifyBank b f).loader = s.loader := rfl
@[simp] theorem State.modifyBank_table (s : State) (b : Nat) (f : Bank → Bank) : (s.modifyBank b f).table = s.table := rfl
@[simp] theorem State.modifyBank_gains (s : State) (b : Nat) (f : Bank → Bank) : (s.modifyBank b f).gains = s.gains := rfl
@[simp] theorem State.modifyBank_hold (s : State) (b : Nat) (f : Bank → Bank) : (s.modifyBank b f).hold = s.hold := rfl
@[simp] theorem State.modifyBank_stage (s : State) (b : Nat) (f : Bank → Bank) : (s.modifyBank b f).stage = s.stage := rfl
@[simp] theorem State.modifyBank_drive (s : State) (b : Nat) (f : Bank → Bank) : (s.modifyBank b f).drive = s.drive := rfl
@[simp] theorem State.modifyBank_loop (s : State) (b : Nat) (f : Bank → Bank) : (s.modifyBank b f).loop = s.loop := rfl
@[simp] theorem State.modifyBank_scan (s : State) (b : Nat) (f : Bank → Bank) : (s.modifyBank b f).scan = s.scan := rfl
@[simp] theorem State.modifyBank_telem (s : State) (b : Nat) (f : Bank → Bank) : (s.modifyBank b f).telem = s.telem := rfl
@[simp] theorem State.modifyBank_port (s : State) (b : Nat) (f : Bank → Bank) : (s.modifyBank b f).port = s.port := rfl
@[simp] theorem State.modifyBank_pending (s : State) (b : Nat) (f : Bank → Bank) : (s.modifyBank b f).pending = s.pending := rfl

@[simp] theorem State.setDriveLink_variant (s : State) (l : Nat) (r : DriveLink) : (s.setDriveLink l r).variant = s.variant := rfl
@[simp] theorem State.setDriveLink_resetLow (s : State) (l : Nat) (r : DriveLink) : (s.setDriveLink l r).resetLow = s.resetLow := rfl
@[simp] theorem State.setDriveLink_now (s : State) (l : Nat) (r : DriveLink) : (s.setDriveLink l r).now = s.now := rfl
@[simp] theorem State.setDriveLink_receivers (s : State) (l : Nat) (r : DriveLink) : (s.setDriveLink l r).receivers = s.receivers := rfl
@[simp] theorem State.setDriveLink_sensors (s : State) (l : Nat) (r : DriveLink) : (s.setDriveLink l r).sensors = s.sensors := rfl
@[simp] theorem State.setDriveLink_slopeMap (s : State) (l : Nat) (r : DriveLink) : (s.setDriveLink l r).slopeMap = s.slopeMap := rfl
@[simp] theorem State.setDriveLink_store (s : State) (l : Nat) (r : DriveLink) : (s.setDriveLink l r).store = s.store := rfl
@[simp] theorem State.setDriveLink_slots (s : State) (l : Nat) (r : DriveLink) : (s.setDriveLink l r).slots = s.slots := rfl
@[simp] theorem State.setDriveLink_lastClosed (s : State) (l : Nat) (r : DriveLink) : (s.setDriveLink l r).lastClosed = s.lastClosed := rfl
@[simp] theorem State.setDriveLink_engine (s : State) (l : Nat) (r : DriveLink) : (s.setDriveLink l r).engine = s.engine := rfl
@[simp] theorem State.setDriveLink_banks (s : State) (l : Nat) (r : DriveLink) : (s.setDriveLink l r).banks = s.banks := rfl
@[simp] theorem State.setDriveLink_dram (s : State) (l : Nat) (r : DriveLink) : (s.setDriveLink l r).dram = s.dram := rfl
@[simp] theorem State.setDriveLink_loader (s : State) (l : Nat) (r : DriveLink) : (s.setDriveLink l r).loader = s.loader := rfl
@[simp] theorem State.setDriveLink_table (s : State) (l : Nat) (r : DriveLink) : (s.setDriveLink l r).table = s.table := rfl
@[simp] theorem State.setDriveLink_gains (s : State) (l : Nat) (r : DriveLink) : (s.setDriveLink l r).gains = s.gains := rfl
@[simp] theorem State.setDriveLink_hold (s : State) (l : Nat) (r : DriveLink) : (s.setDriveLink l r).hold = s.hold := rfl
@[simp] theorem State.setDriveLink_stage (s : State) (l : Nat) (r : DriveLink) : (s.setDriveLink l r).stage = s.stage := rfl
@[simp] theorem State.setDriveLink_loop (s : State) (l : Nat) (r : DriveLink) : (s.setDriveLink l r).loop = s.loop := rfl
@[simp] theorem State.setDriveLink_scan (s : State) (l : Nat) (r : DriveLink) : (s.setDriveLink l r).scan = s.scan := rfl
@[simp] theorem State.setDriveLink_telem (s : State) (l : Nat) (r : DriveLink) : (s.setDriveLink l r).telem = s.telem := rfl
@[simp] theorem State.setDriveLink_port (s : State) (l : Nat) (r : DriveLink) : (s.setDriveLink l r).port = s.port := rfl
@[simp] theorem State.setDriveLink_pending (s : State) (l : Nat) (r : DriveLink) : (s.setDriveLink l r).pending = s.pending := rfl

@[simp] theorem State.modifyDriveLink_variant (s : State) (l : Nat) (f : DriveLink → DriveLink) : (s.modifyDriveLink l f).variant = s.variant := rfl
@[simp] theorem State.modifyDriveLink_resetLow (s : State) (l : Nat) (f : DriveLink → DriveLink) : (s.modifyDriveLink l f).resetLow = s.resetLow := rfl
@[simp] theorem State.modifyDriveLink_now (s : State) (l : Nat) (f : DriveLink → DriveLink) : (s.modifyDriveLink l f).now = s.now := rfl
@[simp] theorem State.modifyDriveLink_receivers (s : State) (l : Nat) (f : DriveLink → DriveLink) : (s.modifyDriveLink l f).receivers = s.receivers := rfl
@[simp] theorem State.modifyDriveLink_sensors (s : State) (l : Nat) (f : DriveLink → DriveLink) : (s.modifyDriveLink l f).sensors = s.sensors := rfl
@[simp] theorem State.modifyDriveLink_slopeMap (s : State) (l : Nat) (f : DriveLink → DriveLink) : (s.modifyDriveLink l f).slopeMap = s.slopeMap := rfl
@[simp] theorem State.modifyDriveLink_store (s : State) (l : Nat) (f : DriveLink → DriveLink) : (s.modifyDriveLink l f).store = s.store := rfl
@[simp] theorem State.modifyDriveLink_slots (s : State) (l : Nat) (f : DriveLink → DriveLink) : (s.modifyDriveLink l f).slots = s.slots := rfl
@[simp] theorem State.modifyDriveLink_lastClosed (s : State) (l : Nat) (f : DriveLink → DriveLink) : (s.modifyDriveLink l f).lastClosed = s.lastClosed := rfl
@[simp] theorem State.modifyDriveLink_engine (s : State) (l : Nat) (f : DriveLink → DriveLink) : (s.modifyDriveLink l f).engine = s.engine := rfl
@[simp] theorem State.modifyDriveLink_banks (s : State) (l : Nat) (f : DriveLink → DriveLink) : (s.modifyDriveLink l f).banks = s.banks := rfl
@[simp] theorem State.modifyDriveLink_dram (s : State) (l : Nat) (f : DriveLink → DriveLink) : (s.modifyDriveLink l f).dram = s.dram := rfl
@[simp] theorem State.modifyDriveLink_loader (s : State) (l : Nat) (f : DriveLink → DriveLink) : (s.modifyDriveLink l f).loader = s.loader := rfl
@[simp] theorem State.modifyDriveLink_table (s : State) (l : Nat) (f : DriveLink → DriveLink) : (s.modifyDriveLink l f).table = s.table := rfl
@[simp] theorem State.modifyDriveLink_gains (s : State) (l : Nat) (f : DriveLink → DriveLink) : (s.modifyDriveLink l f).gains = s.gains := rfl
@[simp] theorem State.modifyDriveLink_hold (s : State) (l : Nat) (f : DriveLink → DriveLink) : (s.modifyDriveLink l f).hold = s.hold := rfl
@[simp] theorem State.modifyDriveLink_stage (s : State) (l : Nat) (f : DriveLink → DriveLink) : (s.modifyDriveLink l f).stage = s.stage := rfl
@[simp] theorem State.modifyDriveLink_loop (s : State) (l : Nat) (f : DriveLink → DriveLink) : (s.modifyDriveLink l f).loop = s.loop := rfl
@[simp] theorem State.modifyDriveLink_scan (s : State) (l : Nat) (f : DriveLink → DriveLink) : (s.modifyDriveLink l f).scan = s.scan := rfl
@[simp] theorem State.modifyDriveLink_telem (s : State) (l : Nat) (f : DriveLink → DriveLink) : (s.modifyDriveLink l f).telem = s.telem := rfl
@[simp] theorem State.modifyDriveLink_port (s : State) (l : Nat) (f : DriveLink → DriveLink) : (s.modifyDriveLink l f).port = s.port := rfl
@[simp] theorem State.modifyDriveLink_pending (s : State) (l : Nat) (f : DriveLink → DriveLink) : (s.modifyDriveLink l f).pending = s.pending := rfl

@[simp] theorem State.setImage_variant (s : State) (k : Nat) (i : Option (Table Int)) : (s.setImage k i).variant = s.variant := rfl
@[simp] theorem State.setImage_resetLow (s : State) (k : Nat) (i : Option (Table Int)) : (s.setImage k i).resetLow = s.resetLow := rfl
@[simp] theorem State.setImage_now (s : State) (k : Nat) (i : Option (Table Int)) : (s.setImage k i).now = s.now := rfl
@[simp] theorem State.setImage_receivers (s : State) (k : Nat) (i : Option (Table Int)) : (s.setImage k i).receivers = s.receivers := rfl
@[simp] theorem State.setImage_sensors (s : State) (k : Nat) (i : Option (Table Int)) : (s.setImage k i).sensors = s.sensors := rfl
@[simp] theorem State.setImage_slopeMap (s : State) (k : Nat) (i : Option (Table Int)) : (s.setImage k i).slopeMap = s.slopeMap := rfl
@[simp] theorem State.setImage_store (s : State) (k : Nat) (i : Option (Table Int)) : (s.setImage k i).store = s.store := rfl
@[simp] theorem State.setImage_slots (s : State) (k : Nat) (i : Option (Table Int)) : (s.setImage k i).slots = s.slots := rfl
@[simp] theorem State.setImage_lastClosed (s : State) (k : Nat) (i : Option (Table Int)) : (s.setImage k i).lastClosed = s.lastClosed := rfl
@[simp] theorem State.setImage_engine (s : State) (k : Nat) (i : Option (Table Int)) : (s.setImage k i).engine = s.engine := rfl
@[simp] theorem State.setImage_banks (s : State) (k : Nat) (i : Option (Table Int)) : (s.setImage k i).banks = s.banks := rfl
@[simp] theorem State.setImage_dram (s : State) (k : Nat) (i : Option (Table Int)) : (s.setImage k i).dram = s.dram := rfl
@[simp] theorem State.setImage_loader (s : State) (k : Nat) (i : Option (Table Int)) : (s.setImage k i).loader = s.loader := rfl
@[simp] theorem State.setImage_table (s : State) (k : Nat) (i : Option (Table Int)) : (s.setImage k i).table = s.table := rfl
@[simp] theorem State.setImage_gains (s : State) (k : Nat) (i : Option (Table Int)) : (s.setImage k i).gains = s.gains := rfl
@[simp] theorem State.setImage_hold (s : State) (k : Nat) (i : Option (Table Int)) : (s.setImage k i).hold = s.hold := rfl
@[simp] theorem State.setImage_stage (s : State) (k : Nat) (i : Option (Table Int)) : (s.setImage k i).stage = s.stage := rfl
@[simp] theorem State.setImage_drive (s : State) (k : Nat) (i : Option (Table Int)) : (s.setImage k i).drive = s.drive := rfl
@[simp] theorem State.setImage_loop (s : State) (k : Nat) (i : Option (Table Int)) : (s.setImage k i).loop = s.loop := rfl
@[simp] theorem State.setImage_scan (s : State) (k : Nat) (i : Option (Table Int)) : (s.setImage k i).scan = s.scan := rfl
@[simp] theorem State.setImage_port (s : State) (k : Nat) (i : Option (Table Int)) : (s.setImage k i).port = s.port := rfl
@[simp] theorem State.setImage_pending (s : State) (k : Nat) (i : Option (Table Int)) : (s.setImage k i).pending = s.pending := rfl

@[simp] theorem State.writeColumn_variant (s : State) (b j : Nat) (v : List Int) : (s.writeColumn b j v).variant = s.variant := rfl
@[simp] theorem State.writeColumn_resetLow (s : State) (b j : Nat) (v : List Int) : (s.writeColumn b j v).resetLow = s.resetLow := rfl
@[simp] theorem State.writeColumn_now (s : State) (b j : Nat) (v : List Int) : (s.writeColumn b j v).now = s.now := rfl
@[simp] theorem State.writeColumn_receivers (s : State) (b j : Nat) (v : List Int) : (s.writeColumn b j v).receivers = s.receivers := rfl
@[simp] theorem State.writeColumn_sensors (s : State) (b j : Nat) (v : List Int) : (s.writeColumn b j v).sensors = s.sensors := rfl
@[simp] theorem State.writeColumn_slopeMap (s : State) (b j : Nat) (v : List Int) : (s.writeColumn b j v).slopeMap = s.slopeMap := rfl
@[simp] theorem State.writeColumn_store (s : State) (b j : Nat) (v : List Int) : (s.writeColumn b j v).store = s.store := rfl
@[simp] theorem State.writeColumn_slots (s : State) (b j : Nat) (v : List Int) : (s.writeColumn b j v).slots = s.slots := rfl
@[simp] theorem State.writeColumn_lastClosed (s : State) (b j : Nat) (v : List Int) : (s.writeColumn b j v).lastClosed = s.lastClosed := rfl
@[simp] theorem State.writeColumn_engine (s : State) (b j : Nat) (v : List Int) : (s.writeColumn b j v).engine = s.engine := rfl
@[simp] theorem State.writeColumn_banks (s : State) (b j : Nat) (v : List Int) : (s.writeColumn b j v).banks = s.banks := rfl
@[simp] theorem State.writeColumn_loader (s : State) (b j : Nat) (v : List Int) : (s.writeColumn b j v).loader = s.loader := rfl
@[simp] theorem State.writeColumn_table (s : State) (b j : Nat) (v : List Int) : (s.writeColumn b j v).table = s.table := rfl
@[simp] theorem State.writeColumn_gains (s : State) (b j : Nat) (v : List Int) : (s.writeColumn b j v).gains = s.gains := rfl
@[simp] theorem State.writeColumn_hold (s : State) (b j : Nat) (v : List Int) : (s.writeColumn b j v).hold = s.hold := rfl
@[simp] theorem State.writeColumn_stage (s : State) (b j : Nat) (v : List Int) : (s.writeColumn b j v).stage = s.stage := rfl
@[simp] theorem State.writeColumn_drive (s : State) (b j : Nat) (v : List Int) : (s.writeColumn b j v).drive = s.drive := rfl
@[simp] theorem State.writeColumn_loop (s : State) (b j : Nat) (v : List Int) : (s.writeColumn b j v).loop = s.loop := rfl
@[simp] theorem State.writeColumn_scan (s : State) (b j : Nat) (v : List Int) : (s.writeColumn b j v).scan = s.scan := rfl
@[simp] theorem State.writeColumn_telem (s : State) (b j : Nat) (v : List Int) : (s.writeColumn b j v).telem = s.telem := rfl
@[simp] theorem State.writeColumn_port (s : State) (b j : Nat) (v : List Int) : (s.writeColumn b j v).port = s.port := rfl
@[simp] theorem State.writeColumn_pending (s : State) (b j : Nat) (v : List Int) : (s.writeColumn b j v).pending = s.pending := rfl

@[simp] theorem State.setDriveLink_drive_number (s : State) (l : Nat) (r : DriveLink) : (s.setDriveLink l r).drive.number = s.drive.number := rfl
@[simp] theorem State.setDriveLink_drive_current (s : State) (l : Nat) (r : DriveLink) : (s.setDriveLink l r).drive.current = s.drive.current := rfl
@[simp] theorem State.setDriveLink_drive_request (s : State) (l : Nat) (r : DriveLink) : (s.setDriveLink l r).drive.request = s.drive.request := rfl
@[simp] theorem State.setDriveLink_drive_pulses (s : State) (l : Nat) (r : DriveLink) : (s.setDriveLink l r).drive.pulses = s.drive.pulses := rfl
@[simp] theorem State.setDriveLink_drive_updateLine (s : State) (l : Nat) (r : DriveLink) : (s.setDriveLink l r).drive.updateLine = s.drive.updateLine := rfl
@[simp] theorem State.setDriveLink_drive_biasSend (s : State) (l : Nat) (r : DriveLink) : (s.setDriveLink l r).drive.biasSend = s.drive.biasSend := rfl
@[simp] theorem State.modifyDriveLink_drive_number (s : State) (l : Nat) (f : DriveLink → DriveLink) : (s.modifyDriveLink l f).drive.number = s.drive.number := rfl
@[simp] theorem State.modifyDriveLink_drive_current (s : State) (l : Nat) (f : DriveLink → DriveLink) : (s.modifyDriveLink l f).drive.current = s.drive.current := rfl
@[simp] theorem State.modifyDriveLink_drive_request (s : State) (l : Nat) (f : DriveLink → DriveLink) : (s.modifyDriveLink l f).drive.request = s.drive.request := rfl
@[simp] theorem State.modifyDriveLink_drive_pulses (s : State) (l : Nat) (f : DriveLink → DriveLink) : (s.modifyDriveLink l f).drive.pulses = s.drive.pulses := rfl
@[simp] theorem State.modifyDriveLink_drive_updateLine (s : State) (l : Nat) (f : DriveLink → DriveLink) : (s.modifyDriveLink l f).drive.updateLine = s.drive.updateLine := rfl
@[simp] theorem State.modifyDriveLink_drive_biasSend (s : State) (l : Nat) (f : DriveLink → DriveLink) : (s.modifyDriveLink l f).drive.biasSend = s.drive.biasSend := rfl
@[simp] theorem State.setImage_telem_fifo (s : State) (k : Nat) (i : Option (Table Int)) : (s.setImage k i).telem.fifo = s.telem.fifo := rfl
@[simp] theorem State.setImage_telem_overflow (s : State) (k : Nat) (i : Option (Table Int)) : (s.setImage k i).telem.overflow = s.telem.overflow := rfl
@[simp] theorem State.setImage_telem_lost (s : State) (k : Nat) (i : Option (Table Int)) : (s.setImage k i).telem.lost = s.telem.lost := rfl
@[simp] theorem State.setImage_telem_selection (s : State) (k : Nat) (i : Option (Table Int)) : (s.setImage k i).telem.selection = s.telem.selection := rfl
@[simp] theorem State.setImage_telem_captures (s : State) (k : Nat) (i : Option (Table Int)) : (s.setImage k i).telem.captures = s.telem.captures := rfl

@[simp] theorem raise_variant (c : Cause) (s : State) : (raise c s).variant = s.variant := rfl
@[simp] theorem raise_resetLow (c : Cause) (s : State) : (raise c s).resetLow = s.resetLow := rfl
@[simp] theorem raise_now (c : Cause) (s : State) : (raise c s).now = s.now := rfl
@[simp] theorem raise_receivers (c : Cause) (s : State) : (raise c s).receivers = s.receivers := rfl
@[simp] theorem raise_sensors (c : Cause) (s : State) : (raise c s).sensors = s.sensors := rfl
@[simp] theorem raise_slopeMap (c : Cause) (s : State) : (raise c s).slopeMap = s.slopeMap := rfl
@[simp] theorem raise_store (c : Cause) (s : State) : (raise c s).store = s.store := rfl
@[simp] theorem raise_slots (c : Cause) (s : State) : (raise c s).slots = s.slots := rfl
@[simp] theorem raise_lastClosed (c : Cause) (s : State) : (raise c s).lastClosed = s.lastClosed := rfl
@[simp] theorem raise_engine (c : Cause) (s : State) : (raise c s).engine = s.engine := rfl
@[simp] theorem raise_banks (c : Cause) (s : State) : (raise c s).banks = s.banks := rfl
@[simp] theorem raise_dram (c : Cause) (s : State) : (raise c s).dram = s.dram := rfl
@[simp] theorem raise_loader (c : Cause) (s : State) : (raise c s).loader = s.loader := rfl
@[simp] theorem raise_table (c : Cause) (s : State) : (raise c s).table = s.table := rfl
@[simp] theorem raise_gains (c : Cause) (s : State) : (raise c s).gains = s.gains := rfl
@[simp] theorem raise_hold (c : Cause) (s : State) : (raise c s).hold = s.hold := rfl
@[simp] theorem raise_stage (c : Cause) (s : State) : (raise c s).stage = s.stage := rfl
@[simp] theorem raise_drive (c : Cause) (s : State) : (raise c s).drive = s.drive := rfl
@[simp] theorem raise_loop (c : Cause) (s : State) : (raise c s).loop = s.loop := rfl
@[simp] theorem raise_scan (c : Cause) (s : State) : (raise c s).scan = s.scan := rfl
@[simp] theorem raise_telem (c : Cause) (s : State) : (raise c s).telem = s.telem := rfl
@[simp] theorem raise_pending (c : Cause) (s : State) : (raise c s).pending = s.pending := rfl
@[simp] theorem raise_port_address (c : Cause) (s : State) : (raise c s).port.address = s.port.address := rfl
@[simp] theorem raise_port_reception (c : Cause) (s : State) : (raise c s).port.reception = s.port.reception := rfl
@[simp] theorem raise_port_reply (c : Cause) (s : State) : (raise c s).port.reply = s.port.reply := rfl
@[simp] theorem raise_port_resetAfterReply (c : Cause) (s : State) : (raise c s).port.resetAfterReply = s.port.resetAfterReply := rfl
@[simp] theorem raise_port_resetsAtReplyEnd (c : Cause) (s : State) : (raise c s).port.resetsAtReplyEnd = s.port.resetsAtReplyEnd := rfl
@[simp] theorem raise_port_entries (c : Cause) (s : State) : (raise c s).port.entries = s.port.entries := rfl
@[simp] theorem raise_port_features (c : Cause) (s : State) : (raise c s).port.features = s.port.features := rfl
@[simp] theorem raise_port_mask (c : Cause) (s : State) : (raise c s).port.mask = s.port.mask := rfl
@[simp] theorem raise_port_framesTaken (c : Cause) (s : State) : (raise c s).port.framesTaken = s.port.framesTaken := rfl
@[simp] theorem raise_port_broadcastsTaken (c : Cause) (s : State) : (raise c s).port.broadcastsTaken = s.port.broadcastsTaken := rfl
@[simp] theorem raise_port_crcFail (c : Cause) (s : State) : (raise c s).port.crcFail = s.port.crcFail := rfl
@[simp] theorem raise_port_badMaster (c : Cause) (s : State) : (raise c s).port.badMaster = s.port.badMaster := rfl
@[simp] theorem raise_port_gap (c : Cause) (s : State) : (raise c s).port.gap = s.port.gap := rfl
@[simp] theorem raise_port_overlength (c : Cause) (s : State) : (raise c s).port.overlength = s.port.overlength := rfl
@[simp] theorem raise_port_replyLost (c : Cause) (s : State) : (raise c s).port.replyLost = s.port.replyLost := rfl

end Sys2Proof.Machine
end

