-- ==== Sys2Proof/Laws/Tables.lean ====
section
/-! SUPPORT. The laws of tables and sets: a read after a write, the canonical form, and the reads of the
indexed records after their writes. -/

namespace Sys2Proof.Machine

variable {α : Type}

/-! ### Reading -/

theorem Table.get_filter_ne (d : Nat → α) (t : Table α) (k j : Nat) (h : j ≠ k) :
    Table.get d (t.filter (fun e => e.1 != k)) j = Table.get d t j := by
  induction t with
  | nil => rfl
  | cons e rest ih =>
    by_cases he : e.1 = k
    · simp only [List.filter, he, bne_self_eq_false, Table.get]
      rw [ih]; simp [Ne.symm h]
    · have : (e.1 != k) = true := by simp [he]
      simp only [List.filter, this, Table.get, ih]

theorem Table.get_filter_self (d : Nat → α) (t : Table α) (k : Nat) :
    Table.get d (t.filter (fun e => e.1 != k)) k = d k := by
  induction t with
  | nil => rfl
  | cons e rest ih =>
    by_cases he : e.1 = k
    · simpa only [List.filter, he, bne_self_eq_false] using ih
    · have : (e.1 != k) = true := by simp [he]
      simp only [List.filter, this, Table.get, if_neg he, ih]

theorem Table.get_insert (d : Nat → α) (t : Table α) (k j : Nat) (v : α)
    (h : ∀ e ∈ t, e.1 ≠ k) :
    Table.get d (Table.insert t k v) j = if k = j then v else Table.get d t j := by
  induction t with
  | nil => rfl
  | cons e rest ih =>
    have he : e.1 ≠ k := h e (by simp)
    by_cases hk : k < e.1
    · simp only [Table.insert, hk, if_true, Table.get]
    · simp only [Table.insert, hk, if_false, Table.get, ih (fun e' he' => h e' (by simp [he']))]
      by_cases hj : e.1 = j
      · subst hj; simp [Ne.symm he]
      · simp [hj]

/-- A read after a write of the same place gives the value, of another place what it held. -/
theorem Table.get_set [DecidableEq α] (d : Nat → α) (t : Table α) (k j : Nat) (v : α) :
    Table.get d (Table.set d t k v) j = if k = j then v else Table.get d t j := by
  unfold Table.set
  by_cases hv : v = d k
  · simp only [hv, if_true]
    by_cases hj : k = j
    · subst hj; simp [Table.get_filter_self]
    · simp [hj, Table.get_filter_ne d t k j (Ne.symm hj)]
  · simp only [hv, if_false]
    rw [Table.get_insert d _ k j v (by intro e he; simpa using (List.mem_filter.mp he).2)]
    by_cases hj : k = j
    · simp [hj]
    · simp [hj, Table.get_filter_ne d t k j (Ne.symm hj)]

@[simp] theorem Table.get_set_self [DecidableEq α] (d : Nat → α) (t : Table α) (k : Nat) (v : α) :
    Table.get d (Table.set d t k v) k = v := by simp [Table.get_set]

theorem Table.get_set_ne [DecidableEq α] (d : Nat → α) (t : Table α) (k j : Nat) (v : α) (h : k ≠ j) :
    Table.get d (Table.set d t k v) j = Table.get d t j := by simp [Table.get_set, h]

/-- A read after consecutive writes. -/
theorem Table.get_setList [DecidableEq α] (d : Nat → α) (vs : List α) (t : Table α) (k j : Nat) :
    Table.get d (Table.setList d t k vs) j =
      if k ≤ j then (vs[j - k]?).getD (Table.get d t j) else Table.get d t j := by
  induction vs generalizing t k with
  | nil => simp [Table.setList]
  | cons v vs ih =>
    rw [Table.setList, ih, Table.get_set]
    by_cases h1 : k = j
    · subst h1; simp
    · by_cases h2 : k ≤ j
      · have h3 : k + 1 ≤ j := by omega
        have h4 : j - k = (j - (k + 1)) + 1 := by omega
        simp [h1, h2, h3, h4]
      · have h3 : ¬ k + 1 ≤ j := by omega
        simp [h1, h2, h3]

/-! ### The canonical form -/

theorem Table.wf_nil [DecidableEq α] (d : Nat → α) : Table.wf d ([] : Table α) = true := rfl

theorem Table.wf_cons [DecidableEq α] (d : Nat → α) (e : Nat × α) (t : Table α) :
    Table.wf d (e :: t) = true ↔
      (∀ f ∈ t, e.1 < f.1) ∧ e.2 ≠ d e.1 ∧ Table.wf d t = true := by
  simp only [Table.wf, List.pairwise_cons, List.all_cons, Bool.and_eq_true, decide_eq_true_eq]
  tauto

theorem Table.wf_filter [DecidableEq α] (d : Nat → α) (t : Table α) (p : Nat × α → Bool)
    (h : Table.wf d t = true) : Table.wf d (t.filter p) = true := by
  simp only [Table.wf, Bool.and_eq_true, decide_eq_true_eq, List.all_eq_true] at h ⊢
  exact ⟨h.1.filter p, fun e he => h.2 e (List.mem_of_mem_filter he)⟩

theorem Table.mem_insert (t : Table α) (k : Nat) (v : α) (f : Nat × α) :
    f ∈ Table.insert t k v ↔ f = (k, v) ∨ f ∈ t := by
  induction t with
  | nil => simp [Table.insert]
  | cons e rest ih =>
    by_cases hk : k < e.1
    · simp [Table.insert, hk]
    · simp only [Table.insert, hk, if_false, List.mem_cons, ih]; tauto

theorem Table.wf_insert [DecidableEq α] (d : Nat → α) (t : Table α) (k : Nat) (v : α)
    (h : Table.wf d t = true) (hk : ∀ e ∈ t, e.1 ≠ k) (hv : v ≠ d k) :
    Table.wf d (Table.insert t k v) = true := by
  induction t with
  | nil => simp [Table.insert, Table.wf_cons, Table.wf_nil, hv]
  | cons e rest ih =>
    have he := (Table.wf_cons d e rest).mp h
    have hne : e.1 ≠ k := hk e (by simp)
    by_cases hlt : k < e.1
    · simp only [Table.insert, hlt, if_true]
      refine (Table.wf_cons d _ _).mpr ⟨?_, hv, h⟩
      intro f hf
      rcases List.mem_cons.mp hf with rfl | hf
      · exact hlt
      · exact Nat.lt_trans hlt (he.1 f hf)
    · simp only [Table.insert, hlt, if_false]
      refine (Table.wf_cons d _ _).mpr ⟨?_, he.2.1, ih he.2.2 (fun f hf => hk f (by simp [hf]))⟩
      intro f hf
      rcases (Table.mem_insert rest k v f).mp hf with rfl | hf
      · exact Nat.lt_of_le_of_ne (Nat.le_of_not_lt hlt) hne
      · exact he.1 f hf

/-- Every write keeps the canonical form. -/
theorem Table.wf_set [DecidableEq α] (d : Nat → α) (t : Table α) (k : Nat) (v : α)
    (h : Table.wf d t = true) : Table.wf d (Table.set d t k v) = true := by
  unfold Table.set
  have hf := Table.wf_filter d t (fun e => e.1 != k) h
  by_cases hv : v = d k
  · simpa [hv] using hf
  · simp only [hv, if_false]
    exact Table.wf_insert d _ k v hf (by intro e he; simpa using (List.mem_filter.mp he).2) hv

theorem Table.wf_setList [DecidableEq α] (d : Nat → α) (vs : List α) (t : Table α) (k : Nat)
    (h : Table.wf d t = true) : Table.wf d (Table.setList d t k vs) = true := by
  induction vs generalizing t k with
  | nil => exact h
  | cons v vs ih => exact ih _ _ (Table.wf_set d t k v h)

/-! ### The indexed records of the state -/

@[simp] theorem State.receiver_setReceiver (s : State) (n m : Nat) (r : Receiver) :
    (s.setReceiver n r).receiver m = if n = m then r else s.receiver m := Table.get_set ..

@[simp] theorem State.receiver_modifyReceiver (s : State) (n m : Nat) (f : Receiver → Receiver) :
    (s.modifyReceiver n f).receiver m = if n = m then f (s.receiver n) else s.receiver m :=
  Table.get_set ..

@[simp] theorem State.sensor_setSensor (s : State) (n m : Nat) (r : Sensor) :
    (s.setSensor n r).sensor m = if n = m then r else s.sensor m := Table.get_set ..

@[simp] theorem State.slot_setSlot (s : State) (k m : Nat) (r : Slot) :
    (s.setSlot k r).slot m = if k = m then r else s.slot m := Table.get_set ..

@[simp] theorem State.slot_modifySlot (s : State) (k m : Nat) (f : Slot → Slot) :
    (s.modifySlot k f).slot m = if k = m then f (s.slot k) else s.slot m := Table.get_set ..

@[simp] theorem State.bank_setBank (s : State) (b m : Nat) (r : Bank) :
    (s.setBank b r).bank m = if b = m then r else s.bank m := Table.get_set ..

@[simp] theorem State.bank_modifyBank (s : State) (b m : Nat) (f : Bank → Bank) :
    (s.modifyBank b f).bank m = if b = m then f (s.bank b) else s.bank m := Table.get_set ..

@[simp] theorem State.driveLink_setDriveLink (s : State) (l m : Nat) (r : DriveLink) :
    (s.setDriveLink l r).driveLink m = if l = m then r else s.driveLink m := Table.get_set ..

@[simp] theorem State.driveLink_modifyDriveLink (s : State) (l m : Nat) (f : DriveLink → DriveLink) :
    (s.modifyDriveLink l f).driveLink m = if l = m then f (s.driveLink l) else s.driveLink m :=
  Table.get_set ..

@[simp] theorem ActTable.actuator_setActuator (t : ActTable) (a m : Nat) (r : Actuator) :
    (t.setActuator a r).actuator m = if a = m then r else t.actuator m := Table.get_set ..

@[simp] theorem ActTable.setActuator_n (t : ActTable) (a : Nat) (r : Actuator) :
    (t.setActuator a r).n = t.n := rfl

@[simp] theorem ActTable.setActuator_pairs (t : ActTable) (a : Nat) (r : Actuator) :
    (t.setActuator a r).pairs = t.pairs := rfl

@[simp] theorem Port.entry_setEntry (p : Port) (m k : Nat) (e : Option FaultEntry) :
    (p.setEntry m e).entry k = if m = k then e else p.entry k := Table.get_set ..

/-! Writes of one kind of record leave the reads of the others as they were. -/

@[simp] theorem State.receiver_setSensor (s : State) (i : Nat) (r : Sensor) (n : Nat) :
    (s.setSensor i r).receiver n = s.receiver n := rfl
@[simp] theorem State.receiver_setSlot (s : State) (i : Nat) (r : Slot) (n : Nat) :
    (s.setSlot i r).receiver n = s.receiver n := rfl
@[simp] theorem State.receiver_modifySlot (s : State) (i : Nat) (f : Slot → Slot) (n : Nat) :
    (s.modifySlot i f).receiver n = s.receiver n := rfl
@[simp] theorem State.receiver_setBank (s : State) (i : Nat) (r : Bank) (n : Nat) :
    (s.setBank i r).receiver n = s.receiver n := rfl
@[simp] theorem State.receiver_modifyBank (s : State) (i : Nat) (f : Bank → Bank) (n : Nat) :
    (s.modifyBank i f).receiver n = s.receiver n := rfl
@[simp] theorem State.receiver_setDriveLink (s : State) (i : Nat) (r : DriveLink) (n : Nat) :
    (s.setDriveLink i r).receiver n = s.receiver n := rfl
@[simp] theorem State.receiver_modifyDriveLink (s : State) (i : Nat) (f : DriveLink → DriveLink) (n : Nat) :
    (s.modifyDriveLink i f).receiver n = s.receiver n := rfl
@[simp] theorem State.receiver_setImage (s : State) (i : Nat) (v : Option (Table Int)) (n : Nat) :
    (s.setImage i v).receiver n = s.receiver n := rfl
@[simp] theorem State.receiver_raise (s : State) (c : Cause) (n : Nat) :
    (raise c s).receiver n = s.receiver n := rfl
@[simp] theorem State.sensor_setReceiver (s : State) (i : Nat) (r : Receiver) (n : Nat) :
    (s.setReceiver i r).sensor n = s.sensor n := rfl
@[simp] theorem State.sensor_modifyReceiver (s : State) (i : Nat) (f : Receiver → Receiver) (n : Nat) :
    (s.modifyReceiver i f).sensor n = s.sensor n := rfl
@[simp] theorem State.sensor_setSlot (s : State) (i : Nat) (r : Slot) (n : Nat) :
    (s.setSlot i r).sensor n = s.sensor n := rfl
@[simp] theorem State.sensor_modifySlot (s : State) (i : Nat) (f : Slot → Slot) (n : Nat) :
    (s.modifySlot i f).sensor n = s.sensor n := rfl
@[simp] theorem State.sensor_setBank (s : State) (i : Nat) (r : Bank) (n : Nat) :
    (s.setBank i r).sensor n = s.sensor n := rfl
@[simp] theorem State.sensor_modifyBank (s : State) (i : Nat) (f : Bank → Bank) (n : Nat) :
    (s.modifyBank i f).sensor n = s.sensor n := rfl
@[simp] theorem State.sensor_setDriveLink (s : State) (i : Nat) (r : DriveLink) (n : Nat) :
    (s.setDriveLink i r).sensor n = s.sensor n := rfl
@[simp] theorem State.sensor_modifyDriveLink (s : State) (i : Nat) (f : DriveLink → DriveLink) (n : Nat) :
    (s.modifyDriveLink i f).sensor n = s.sensor n := rfl
@[simp] theorem State.sensor_setImage (s : State) (i : Nat) (v : Option (Table Int)) (n : Nat) :
    (s.setImage i v).sensor n = s.sensor n := rfl
@[simp] theorem State.sensor_raise (s : State) (c : Cause) (n : Nat) :
    (raise c s).sensor n = s.sensor n := rfl
@[simp] theorem State.slot_setReceiver (s : State) (i : Nat) (r : Receiver) (n : Nat) :
    (s.setReceiver i r).slot n = s.slot n := rfl
@[simp] theorem State.slot_modifyReceiver (s : State) (i : Nat) (f : Receiver → Receiver) (n : Nat) :
    (s.modifyReceiver i f).slot n = s.slot n := rfl
@[simp] theorem State.slot_setSensor (s : State) (i : Nat) (r : Sensor) (n : Nat) :
    (s.setSensor i r).slot n = s.slot n := rfl
@[simp] theorem State.slot_setBank (s : State) (i : Nat) (r : Bank) (n : Nat) :
    (s.setBank i r).slot n = s.slot n := rfl
@[simp] theorem State.slot_modifyBank (s : State) (i : Nat) (f : Bank → Bank) (n : Nat) :
    (s.modifyBank i f).slot n = s.slot n := rfl
@[simp] theorem State.slot_setDriveLink (s : State) (i : Nat) (r : DriveLink) (n : Nat) :
    (s.setDriveLink i r).slot n = s.slot n := rfl
@[simp] theorem State.slot_modifyDriveLink (s : State) (i : Nat) (f : DriveLink → DriveLink) (n : Nat) :
    (s.modifyDriveLink i f).slot n = s.slot n := rfl
@[simp] theorem State.slot_setImage (s : State) (i : Nat) (v : Option (Table Int)) (n : Nat) :
    (s.setImage i v).slot n = s.slot n := rfl
@[simp] theorem State.slot_raise (s : State) (c : Cause) (n : Nat) :
    (raise c s).slot n = s.slot n := rfl
@[simp] theorem State.bank_setReceiver (s : State) (i : Nat) (r : Receiver) (n : Nat) :
    (s.setReceiver i r).bank n = s.bank n := rfl
@[simp] theorem State.bank_modifyReceiver (s : State) (i : Nat) (f : Receiver → Receiver) (n : Nat) :
    (s.modifyReceiver i f).bank n = s.bank n := rfl
@[simp] theorem State.bank_setSensor (s : State) (i : Nat) (r : Sensor) (n : Nat) :
    (s.setSensor i r).bank n = s.bank n := rfl
@[simp] theorem State.bank_setSlot (s : State) (i : Nat) (r : Slot) (n : Nat) :
    (s.setSlot i r).bank n = s.bank n := rfl
@[simp] theorem State.bank_modifySlot (s : State) (i : Nat) (f : Slot → Slot) (n : Nat) :
    (s.modifySlot i f).bank n = s.bank n := rfl
@[simp] theorem State.bank_setDriveLink (s : State) (i : Nat) (r : DriveLink) (n : Nat) :
    (s.setDriveLink i r).bank n = s.bank n := rfl
@[simp] theorem State.bank_modifyDriveLink (s : State) (i : Nat) (f : DriveLink → DriveLink) (n : Nat) :
    (s.modifyDriveLink i f).bank n = s.bank n := rfl
@[simp] theorem State.bank_setImage (s : State) (i : Nat) (v : Option (Table Int)) (n : Nat) :
    (s.setImage i v).bank n = s.bank n := rfl
@[simp] theorem State.bank_raise (s : State) (c : Cause) (n : Nat) :
    (raise c s).bank n = s.bank n := rfl
@[simp] theorem State.driveLink_setReceiver (s : State) (i : Nat) (r : Receiver) (n : Nat) :
    (s.setReceiver i r).driveLink n = s.driveLink n := rfl
@[simp] theorem State.driveLink_modifyReceiver (s : State) (i : Nat) (f : Receiver → Receiver) (n : Nat) :
    (s.modifyReceiver i f).driveLink n = s.driveLink n := rfl
@[simp] theorem State.driveLink_setSensor (s : State) (i : Nat) (r : Sensor) (n : Nat) :
    (s.setSensor i r).driveLink n = s.driveLink n := rfl
@[simp] theorem State.driveLink_setSlot (s : State) (i : Nat) (r : Slot) (n : Nat) :
    (s.setSlot i r).driveLink n = s.driveLink n := rfl
@[simp] theorem State.driveLink_modifySlot (s : State) (i : Nat) (f : Slot → Slot) (n : Nat) :
    (s.modifySlot i f).driveLink n = s.driveLink n := rfl
@[simp] theorem State.driveLink_setBank (s : State) (i : Nat) (r : Bank) (n : Nat) :
    (s.setBank i r).driveLink n = s.driveLink n := rfl
@[simp] theorem State.driveLink_modifyBank (s : State) (i : Nat) (f : Bank → Bank) (n : Nat) :
    (s.modifyBank i f).driveLink n = s.driveLink n := rfl
@[simp] theorem State.driveLink_setImage (s : State) (i : Nat) (v : Option (Table Int)) (n : Nat) :
    (s.setImage i v).driveLink n = s.driveLink n := rfl
@[simp] theorem State.driveLink_raise (s : State) (c : Cause) (n : Nat) :
    (raise c s).driveLink n = s.driveLink n := rfl
@[simp] theorem State.gain_setReceiver (s : State) (i : Nat) (r : Receiver) (n : Nat) :
    (s.setReceiver i r).gain n = s.gain n := rfl
@[simp] theorem State.gain_modifyReceiver (s : State) (i : Nat) (f : Receiver → Receiver) (n : Nat) :
    (s.modifyReceiver i f).gain n = s.gain n := rfl
@[simp] theorem State.gain_setSensor (s : State) (i : Nat) (r : Sensor) (n : Nat) :
    (s.setSensor i r).gain n = s.gain n := rfl
@[simp] theorem State.gain_setSlot (s : State) (i : Nat) (r : Slot) (n : Nat) :
    (s.setSlot i r).gain n = s.gain n := rfl
@[simp] theorem State.gain_modifySlot (s : State) (i : Nat) (f : Slot → Slot) (n : Nat) :
    (s.modifySlot i f).gain n = s.gain n := rfl
@[simp] theorem State.gain_setBank (s : State) (i : Nat) (r : Bank) (n : Nat) :
    (s.setBank i r).gain n = s.gain n := rfl
@[simp] theorem State.gain_modifyBank (s : State) (i : Nat) (f : Bank → Bank) (n : Nat) :
    (s.modifyBank i f).gain n = s.gain n := rfl
@[simp] theorem State.gain_setDriveLink (s : State) (i : Nat) (r : DriveLink) (n : Nat) :
    (s.setDriveLink i r).gain n = s.gain n := rfl
@[simp] theorem State.gain_modifyDriveLink (s : State) (i : Nat) (f : DriveLink → DriveLink) (n : Nat) :
    (s.modifyDriveLink i f).gain n = s.gain n := rfl
@[simp] theorem State.gain_setImage (s : State) (i : Nat) (v : Option (Table Int)) (n : Nat) :
    (s.setImage i v).gain n = s.gain n := rfl
@[simp] theorem State.gain_raise (s : State) (c : Cause) (n : Nat) :
    (raise c s).gain n = s.gain n := rfl
@[simp] theorem State.activeBank_setReceiver (s : State) (i : Nat) (r : Receiver) :
    (s.setReceiver i r).activeBank = s.activeBank := rfl
@[simp] theorem State.pendingBank_setReceiver (s : State) (i : Nat) (r : Receiver) :
    (s.setReceiver i r).pendingBank = s.pendingBank := rfl
@[simp] theorem State.swapPending_setReceiver (s : State) (i : Nat) (r : Receiver) :
    (s.setReceiver i r).swapPending = s.swapPending := rfl
@[simp] theorem State.hasSlopeLink_setReceiver (s : State) (i : Nat) (r : Receiver) (n : Nat) :
    (s.setReceiver i r).hasSlopeLink n = s.hasSlopeLink n := rfl
@[simp] theorem State.hasDriveLink_setReceiver (s : State) (i : Nat) (r : Receiver) (n : Nat) :
    (s.setReceiver i r).hasDriveLink n = s.hasDriveLink n := rfl
@[simp] theorem State.effective_setReceiver (s : State) (i : Nat) (r : Receiver) :
    (s.setReceiver i r).effective = s.effective := rfl
@[simp] theorem State.restState_setReceiver (s : State) (i : Nat) (r : Receiver) (l : Nat) :
    (s.setReceiver i r).restState l = s.restState l := rfl
@[simp] theorem State.coefficient_setReceiver (s : State) (i : Nat) (r : Receiver) (b j a : Nat) :
    (s.setReceiver i r).coefficient b j a = s.coefficient b j a := rfl
@[simp] theorem State.activeBank_modifyReceiver (s : State) (i : Nat) (f : Receiver → Receiver) :
    (s.modifyReceiver i f).activeBank = s.activeBank := rfl
@[simp] theorem State.pendingBank_modifyReceiver (s : State) (i : Nat) (f : Receiver → Receiver) :
    (s.modifyReceiver i f).pendingBank = s.pendingBank := rfl
@[simp] theorem State.swapPending_modifyReceiver (s : State) (i : Nat) (f : Receiver → Receiver) :
    (s.modifyReceiver i f).swapPending = s.swapPending := rfl
@[simp] theorem State.hasSlopeLink_modifyReceiver (s : State) (i : Nat) (f : Receiver → Receiver) (n : Nat) :
    (s.modifyReceiver i f).hasSlopeLink n = s.hasSlopeLink n := rfl
@[simp] theorem State.hasDriveLink_modifyReceiver (s : State) (i : Nat) (f : Receiver → Receiver) (n : Nat) :
    (s.modifyReceiver i f).hasDriveLink n = s.hasDriveLink n := rfl
@[simp] theorem State.effective_modifyReceiver (s : State) (i : Nat) (f : Receiver → Receiver) :
    (s.modifyReceiver i f).effective = s.effective := rfl
@[simp] theorem State.restState_modifyReceiver (s : State) (i : Nat) (f : Receiver → Receiver) (l : Nat) :
    (s.modifyReceiver i f).restState l = s.restState l := rfl
@[simp] theorem State.coefficient_modifyReceiver (s : State) (i : Nat) (f : Receiver → Receiver) (b j a : Nat) :
    (s.modifyReceiver i f).coefficient b j a = s.coefficient b j a := rfl
@[simp] theorem State.activeBank_setSensor (s : State) (i : Nat) (r : Sensor) :
    (s.setSensor i r).activeBank = s.activeBank := rfl
@[simp] theorem State.pendingBank_setSensor (s : State) (i : Nat) (r : Sensor) :
    (s.setSensor i r).pendingBank = s.pendingBank := rfl
@[simp] theorem State.swapPending_setSensor (s : State) (i : Nat) (r : Sensor) :
    (s.setSensor i r).swapPending = s.swapPending := rfl
@[simp] theorem State.hasSlopeLink_setSensor (s : State) (i : Nat) (r : Sensor) (n : Nat) :
    (s.setSensor i r).hasSlopeLink n = s.hasSlopeLink n := rfl
@[simp] theorem State.hasDriveLink_setSensor (s : State) (i : Nat) (r : Sensor) (n : Nat) :
    (s.setSensor i r).hasDriveLink n = s.hasDriveLink n := rfl
@[simp] theorem State.effective_setSensor (s : State) (i : Nat) (r : Sensor) :
    (s.setSensor i r).effective = s.effective := rfl
@[simp] theorem State.restState_setSensor (s : State) (i : Nat) (r : Sensor) (l : Nat) :
    (s.setSensor i r).restState l = s.restState l := rfl
@[simp] theorem State.coefficient_setSensor (s : State) (i : Nat) (r : Sensor) (b j a : Nat) :
    (s.setSensor i r).coefficient b j a = s.coefficient b j a := rfl
@[simp] theorem State.activeBank_setSlot (s : State) (i : Nat) (r : Slot) :
    (s.setSlot i r).activeBank = s.activeBank := rfl
@[simp] theorem State.pendingBank_setSlot (s : State) (i : Nat) (r : Slot) :
    (s.setSlot i r).pendingBank = s.pendingBank := rfl
@[simp] theorem State.swapPending_setSlot (s : State) (i : Nat) (r : Slot) :
    (s.setSlot i r).swapPending = s.swapPending := rfl
@[simp] theorem State.hasSlopeLink_setSlot (s : State) (i : Nat) (r : Slot) (n : Nat) :
    (s.setSlot i r).hasSlopeLink n = s.hasSlopeLink n := rfl
@[simp] theorem State.hasDriveLink_setSlot (s : State) (i : Nat) (r : Slot) (n : Nat) :
    (s.setSlot i r).hasDriveLink n = s.hasDriveLink n := rfl
@[simp] theorem State.effective_setSlot (s : State) (i : Nat) (r : Slot) :
    (s.setSlot i r).effective = s.effective := rfl
@[simp] theorem State.restState_setSlot (s : State) (i : Nat) (r : Slot) (l : Nat) :
    (s.setSlot i r).restState l = s.restState l := rfl
@[simp] theorem State.coefficient_setSlot (s : State) (i : Nat) (r : Slot) (b j a : Nat) :
    (s.setSlot i r).coefficient b j a = s.coefficient b j a := rfl
@[simp] theorem State.activeBank_modifySlot (s : State) (i : Nat) (f : Slot → Slot) :
    (s.modifySlot i f).activeBank = s.activeBank := rfl
@[simp] theorem State.pendingBank_modifySlot (s : State) (i : Nat) (f : Slot → Slot) :
    (s.modifySlot i f).pendingBank = s.pendingBank := rfl
@[simp] theorem State.swapPending_modifySlot (s : State) (i : Nat) (f : Slot → Slot) :
    (s.modifySlot i f).swapPending = s.swapPending := rfl
@[simp] theorem State.hasSlopeLink_modifySlot (s : State) (i : Nat) (f : Slot → Slot) (n : Nat) :
    (s.modifySlot i f).hasSlopeLink n = s.hasSlopeLink n := rfl
@[simp] theorem State.hasDriveLink_modifySlot (s : State) (i : Nat) (f : Slot → Slot) (n : Nat) :
    (s.modifySlot i f).hasDriveLink n = s.hasDriveLink n := rfl
@[simp] theorem State.effective_modifySlot (s : State) (i : Nat) (f : Slot → Slot) :
    (s.modifySlot i f).effective = s.effective := rfl
@[simp] theorem State.restState_modifySlot (s : State) (i : Nat) (f : Slot → Slot) (l : Nat) :
    (s.modifySlot i f).restState l = s.restState l := rfl
@[simp] theorem State.coefficient_modifySlot (s : State) (i : Nat) (f : Slot → Slot) (b j a : Nat) :
    (s.modifySlot i f).coefficient b j a = s.coefficient b j a := rfl
@[simp] theorem State.hasSlopeLink_setBank (s : State) (i : Nat) (r : Bank) (n : Nat) :
    (s.setBank i r).hasSlopeLink n = s.hasSlopeLink n := rfl
@[simp] theorem State.hasDriveLink_setBank (s : State) (i : Nat) (r : Bank) (n : Nat) :
    (s.setBank i r).hasDriveLink n = s.hasDriveLink n := rfl
@[simp] theorem State.effective_setBank (s : State) (i : Nat) (r : Bank) :
    (s.setBank i r).effective = s.effective := rfl
@[simp] theorem State.restState_setBank (s : State) (i : Nat) (r : Bank) (l : Nat) :
    (s.setBank i r).restState l = s.restState l := rfl
@[simp] theorem State.coefficient_setBank (s : State) (i : Nat) (r : Bank) (b j a : Nat) :
    (s.setBank i r).coefficient b j a = s.coefficient b j a := rfl
@[simp] theorem State.hasSlopeLink_modifyBank (s : State) (i : Nat) (f : Bank → Bank) (n : Nat) :
    (s.modifyBank i f).hasSlopeLink n = s.hasSlopeLink n := rfl
@[simp] theorem State.hasDriveLink_modifyBank (s : State) (i : Nat) (f : Bank → Bank) (n : Nat) :
    (s.modifyBank i f).hasDriveLink n = s.hasDriveLink n := rfl
@[simp] theorem State.effective_modifyBank (s : State) (i : Nat) (f : Bank → Bank) :
    (s.modifyBank i f).effective = s.effective := rfl
@[simp] theorem State.restState_modifyBank (s : State) (i : Nat) (f : Bank → Bank) (l : Nat) :
    (s.modifyBank i f).restState l = s.restState l := rfl
@[simp] theorem State.coefficient_modifyBank (s : State) (i : Nat) (f : Bank → Bank) (b j a : Nat) :
    (s.modifyBank i f).coefficient b j a = s.coefficient b j a := rfl
@[simp] theorem State.activeBank_setDriveLink (s : State) (i : Nat) (r : DriveLink) :
    (s.setDriveLink i r).activeBank = s.activeBank := rfl
@[simp] theorem State.pendingBank_setDriveLink (s : State) (i : Nat) (r : DriveLink) :
    (s.setDriveLink i r).pendingBank = s.pendingBank := rfl
@[simp] theorem State.swapPending_setDriveLink (s : State) (i : Nat) (r : DriveLink) :
    (s.setDriveLink i r).swapPending = s.swapPending := rfl
@[simp] theorem State.hasSlopeLink_setDriveLink (s : State) (i : Nat) (r : DriveLink) (n : Nat) :
    (s.setDriveLink i r).hasSlopeLink n = s.hasSlopeLink n := rfl
@[simp] theorem State.hasDriveLink_setDriveLink (s : State) (i : Nat) (r : DriveLink) (n : Nat) :
    (s.setDriveLink i r).hasDriveLink n = s.hasDriveLink n := rfl
@[simp] theorem State.effective_setDriveLink (s : State) (i : Nat) (r : DriveLink) :
    (s.setDriveLink i r).effective = s.effective := rfl
@[simp] theorem State.restState_setDriveLink (s : State) (i : Nat) (r : DriveLink) (l : Nat) :
    (s.setDriveLink i r).restState l = s.restState l := rfl
@[simp] theorem State.coefficient_setDriveLink (s : State) (i : Nat) (r : DriveLink) (b j a : Nat) :
    (s.setDriveLink i r).coefficient b j a = s.coefficient b j a := rfl
@[simp] theorem State.activeBank_modifyDriveLink (s : State) (i : Nat) (f : DriveLink → DriveLink) :
    (s.modifyDriveLink i f).activeBank = s.activeBank := rfl
@[simp] theorem State.pendingBank_modifyDriveLink (s : State) (i : Nat) (f : DriveLink → DriveLink) :
    (s.modifyDriveLink i f).pendingBank = s.pendingBank := rfl
@[simp] theorem State.swapPending_modifyDriveLink (s : State) (i : Nat) (f : DriveLink → DriveLink) :
    (s.modifyDriveLink i f).swapPending = s.swapPending := rfl
@[simp] theorem State.hasSlopeLink_modifyDriveLink (s : State) (i : Nat) (f : DriveLink → DriveLink) (n : Nat) :
    (s.modifyDriveLink i f).hasSlopeLink n = s.hasSlopeLink n := rfl
@[simp] theorem State.hasDriveLink_modifyDriveLink (s : State) (i : Nat) (f : DriveLink → DriveLink) (n : Nat) :
    (s.modifyDriveLink i f).hasDriveLink n = s.hasDriveLink n := rfl
@[simp] theorem State.effective_modifyDriveLink (s : State) (i : Nat) (f : DriveLink → DriveLink) :
    (s.modifyDriveLink i f).effective = s.effective := rfl
@[simp] theorem State.restState_modifyDriveLink (s : State) (i : Nat) (f : DriveLink → DriveLink) (l : Nat) :
    (s.modifyDriveLink i f).restState l = s.restState l := rfl
@[simp] theorem State.coefficient_modifyDriveLink (s : State) (i : Nat) (f : DriveLink → DriveLink) (b j a : Nat) :
    (s.modifyDriveLink i f).coefficient b j a = s.coefficient b j a := rfl
@[simp] theorem State.activeBank_setImage (s : State) (i : Nat) (v : Option (Table Int)) :
    (s.setImage i v).activeBank = s.activeBank := rfl
@[simp] theorem State.pendingBank_setImage (s : State) (i : Nat) (v : Option (Table Int)) :
    (s.setImage i v).pendingBank = s.pendingBank := rfl
@[simp] theorem State.swapPending_setImage (s : State) (i : Nat) (v : Option (Table Int)) :
    (s.setImage i v).swapPending = s.swapPending := rfl
@[simp] theorem State.hasSlopeLink_setImage (s : State) (i : Nat) (v : Option (Table Int)) (n : Nat) :
    (s.setImage i v).hasSlopeLink n = s.hasSlopeLink n := rfl
@[simp] theorem State.hasDriveLink_setImage (s : State) (i : Nat) (v : Option (Table Int)) (n : Nat) :
    (s.setImage i v).hasDriveLink n = s.hasDriveLink n := rfl
@[simp] theorem State.effective_setImage (s : State) (i : Nat) (v : Option (Table Int)) :
    (s.setImage i v).effective = s.effective := rfl
@[simp] theorem State.restState_setImage (s : State) (i : Nat) (v : Option (Table Int)) (l : Nat) :
    (s.setImage i v).restState l = s.restState l := rfl
@[simp] theorem State.coefficient_setImage (s : State) (i : Nat) (v : Option (Table Int)) (b j a : Nat) :
    (s.setImage i v).coefficient b j a = s.coefficient b j a := rfl
@[simp] theorem State.activeBank_raise (s : State) (c : Cause) :
    (raise c s).activeBank = s.activeBank := rfl
@[simp] theorem State.pendingBank_raise (s : State) (c : Cause) :
    (raise c s).pendingBank = s.pendingBank := rfl
@[simp] theorem State.swapPending_raise (s : State) (c : Cause) :
    (raise c s).swapPending = s.swapPending := rfl
@[simp] theorem State.hasSlopeLink_raise (s : State) (c : Cause) (n : Nat) :
    (raise c s).hasSlopeLink n = s.hasSlopeLink n := rfl
@[simp] theorem State.hasDriveLink_raise (s : State) (c : Cause) (n : Nat) :
    (raise c s).hasDriveLink n = s.hasDriveLink n := rfl
@[simp] theorem State.effective_raise (s : State) (c : Cause) :
    (raise c s).effective = s.effective := rfl
@[simp] theorem State.restState_raise (s : State) (c : Cause) (l : Nat) :
    (raise c s).restState l = s.restState l := rfl
@[simp] theorem State.coefficient_raise (s : State) (c : Cause) (b j a : Nat) :
    (raise c s).coefficient b j a = s.coefficient b j a := rfl

/-! ### Two writes of one place -/

theorem Table.filter_insert (t : Table α) (k : Nat) (v : α) (h : ∀ e ∈ t, e.1 ≠ k) :
    (Table.insert t k v).filter (fun e => e.1 != k) = t := by
  induction t with
  | nil => simp [Table.insert]
  | cons e rest ih =>
    have he : (e.1 != k) = true := by simpa using h e (by simp)
    have hr : rest.filter (fun e => e.1 != k) = rest :=
      List.filter_eq_self.mpr (fun f hf => by simpa using h f (by simp [hf]))
    by_cases hk : k < e.1
    · simp [Table.insert, hk, he, hr]
    · simp [Table.insert, hk, he, ih (fun f hf => h f (by simp [hf]))]

/-- The later of two writes of one place stands. -/
@[simp] theorem Table.set_set [DecidableEq α] (d : Nat → α) (t : Table α) (k : Nat) (v w : α) :
    Table.set d (Table.set d t k v) k w = Table.set d t k w := by
  have h : (Table.set d t k v).filter (fun e => e.1 != k) = t.filter (fun e => e.1 != k) := by
    unfold Table.set
    by_cases hv : v = d k
    · simp [hv, List.filter_filter]
    · simp only [hv, if_false]
      exact Table.filter_insert _ k v (fun e he => by simpa using (List.mem_filter.mp he).2)
  show (if w = d k then _ else _) = (if w = d k then _ else _)
  rw [h]

@[simp] theorem State.modifyReceiver_modifyReceiver (s : State) (n : Nat) (f g : Receiver → Receiver) :
    (s.modifyReceiver n f).modifyReceiver n g = s.modifyReceiver n (fun r => g (f r)) := by
  simp [State.modifyReceiver, State.setReceiver, State.receiver]

@[simp] theorem State.modifySlot_modifySlot (s : State) (n : Nat) (f g : Slot → Slot) :
    (s.modifySlot n f).modifySlot n g = s.modifySlot n (fun r => g (f r)) := by
  simp [State.modifySlot, State.setSlot, State.slot]

@[simp] theorem State.modifyBank_modifyBank (s : State) (n : Nat) (f g : Bank → Bank) :
    (s.modifyBank n f).modifyBank n g = s.modifyBank n (fun r => g (f r)) := by
  simp [State.modifyBank, State.setBank, State.bank]

@[simp] theorem State.modifyDriveLink_modifyDriveLink (s : State) (n : Nat) (f g : DriveLink → DriveLink) :
    (s.modifyDriveLink n f).modifyDriveLink n g = s.modifyDriveLink n (fun r => g (f r)) := by
  simp [State.modifyDriveLink, State.setDriveLink, State.driveLink]

end Sys2Proof.Machine
end

