-- ==== Sys2Proof/Laws/Requests.lean ====
section
/-! SUPPORT. What taking a request can do: one equation per kind of verdict, so that no later proof unfolds
the port. -/

namespace Sys2Proof.Machine

/-! ### takeFrame and replyWith leave everything but the port -/

section fields

variable (env : Envelope) (s : State)

@[simp] theorem takeFrame_variant : (takeFrame env s).variant = s.variant := rfl
@[simp] theorem takeFrame_resetLow : (takeFrame env s).resetLow = s.resetLow := rfl
@[simp] theorem takeFrame_now : (takeFrame env s).now = s.now := rfl
@[simp] theorem takeFrame_receivers : (takeFrame env s).receivers = s.receivers := rfl
@[simp] theorem takeFrame_sensors : (takeFrame env s).sensors = s.sensors := rfl
@[simp] theorem takeFrame_slopeMap : (takeFrame env s).slopeMap = s.slopeMap := rfl
@[simp] theorem takeFrame_store : (takeFrame env s).store = s.store := rfl
@[simp] theorem takeFrame_slots : (takeFrame env s).slots = s.slots := rfl
@[simp] theorem takeFrame_lastClosed : (takeFrame env s).lastClosed = s.lastClosed := rfl
@[simp] theorem takeFrame_engine : (takeFrame env s).engine = s.engine := rfl
@[simp] theorem takeFrame_banks : (takeFrame env s).banks = s.banks := rfl
@[simp] theorem takeFrame_dram : (takeFrame env s).dram = s.dram := rfl
@[simp] theorem takeFrame_loader : (takeFrame env s).loader = s.loader := rfl
@[simp] theorem takeFrame_table : (takeFrame env s).table = s.table := rfl
@[simp] theorem takeFrame_gains : (takeFrame env s).gains = s.gains := rfl
@[simp] theorem takeFrame_hold : (takeFrame env s).hold = s.hold := rfl
@[simp] theorem takeFrame_stage : (takeFrame env s).stage = s.stage := rfl
@[simp] theorem takeFrame_drive : (takeFrame env s).drive = s.drive := rfl
@[simp] theorem takeFrame_loop : (takeFrame env s).loop = s.loop := rfl
@[simp] theorem takeFrame_scan : (takeFrame env s).scan = s.scan := rfl
@[simp] theorem takeFrame_telem : (takeFrame env s).telem = s.telem := rfl
@[simp] theorem takeFrame_pending : (takeFrame env s).pending = s.pending := rfl
@[simp] theorem takeFrame_receiver (n : Nat) : (takeFrame env s).receiver n = s.receiver n := rfl
@[simp] theorem takeFrame_sensor (n : Nat) : (takeFrame env s).sensor n = s.sensor n := rfl
@[simp] theorem takeFrame_slot (k : Nat) : (takeFrame env s).slot k = s.slot k := rfl
@[simp] theorem takeFrame_bank (b : Nat) : (takeFrame env s).bank b = s.bank b := rfl
@[simp] theorem takeFrame_driveLink (l : Nat) : (takeFrame env s).driveLink l = s.driveLink l := rfl
@[simp] theorem takeFrame_gain (k : Nat) : (takeFrame env s).gain k = s.gain k := rfl
@[simp] theorem takeFrame_effective : (takeFrame env s).effective = s.effective := rfl
@[simp] theorem takeFrame_inFlight : (takeFrame env s).inFlight = s.inFlight := rfl
@[simp] theorem takeFrame_swapPending : (takeFrame env s).swapPending = s.swapPending := rfl
@[simp] theorem takeFrame_activeBank : (takeFrame env s).activeBank = s.activeBank := rfl
@[simp] theorem takeFrame_pendingBank : (takeFrame env s).pendingBank = s.pendingBank := rfl
@[simp] theorem takeFrame_hasSlopeLink (n : Nat) :
    (takeFrame env s).hasSlopeLink n = s.hasSlopeLink n := rfl
@[simp] theorem takeFrame_hasDriveLink (l : Nat) :
    (takeFrame env s).hasDriveLink l = s.hasDriveLink l := rfl
@[simp] theorem takeFrame_port_address : (takeFrame env s).port.address = s.port.address := rfl
@[simp] theorem takeFrame_port_features : (takeFrame env s).port.features = s.port.features := rfl
@[simp] theorem takeFrame_port_causes : (takeFrame env s).port.causes = s.port.causes := rfl
@[simp] theorem takeFrame_port_mask : (takeFrame env s).port.mask = s.port.mask := rfl

end fields

/-- R192: taking a request removes the master's entry and no other. -/
theorem takeFrame_entry (env : Envelope) (s : State) (m : Nat) :
    (takeFrame env s).port.entry m = if env.master = m then none else s.port.entry m :=
  Port.entry_setEntry s.port env.master m none

/-- An addressed request of a known code goes to its owning block. -/
theorem request_reaches (env : Envelope) (code : Nat) (body : State → Verdict) (s : State)
    (h : reaches env s) :
    request env code body s = .next (conclude env code (body (takeFrame env s))) := by
  obtain ⟨h1, h2, h3, h4⟩ := h
  simp [request, awake, takeRequest, verdictOf, h1, h2, h3, h4]

/-- A request whose payload matches its fields is judged by its checks. -/
theorem whenFits_true (env : Envelope) (s : State) (body : Verdict) (h : env.payloadFits = true) :
    whenFits env s body = body := by simp [whenFits, h]

/-- A request whose payload does not match its fields is refused BAD_ARGUMENT. -/
theorem whenFits_false (env : Envelope) (s : State) (body : Verdict) (h : env.payloadFits = false) :
    whenFits env s body = refusePayload s := by simp [whenFits, h]

/-- R190: the refusal of an addressed request raises nothing. -/
theorem reportRefusal_addressed (env : Envelope) (code : Nat) (status : Status) (s : State)
    (h : env.broadcast = false) : reportRefusal env code status s = s := by simp [reportRefusal, h]

/-- While the reset line is low a request has no effect. -/
theorem request_low (env : Envelope) (code : Nat) (body : State → Verdict) (s : State)
    (h : s.resetLow = true) : request env code body s = .next s := by simp [request, awake, h]

/-- A request always answers a next state. -/
theorem request_next (env : Envelope) (code : Nat) (body : State → Verdict) (s : State) :
    ∃ t, request env code body s = .next t := ⟨_, rfl⟩

end Sys2Proof.Machine
end

