-- ==== Sys2Proof/Laws/Leaves.lean ====
section
/-! SUPPORT. The frame of every shared operation: one lemma per operation that says which parts of the
state it leaves as they were, so that no later proof unfolds it for them. -/

namespace Sys2Proof.Machine

@[simp] theorem foldl_modify_leaves (ls : List Nat) (f : Receiver → Receiver) (s : State) :
    (ls.foldl (fun t n => t.modifyReceiver n f) s).variant = s.variant ∧ (ls.foldl (fun t n => t.modifyReceiver n f) s).resetLow = s.resetLow ∧
      (ls.foldl (fun t n => t.modifyReceiver n f) s).now = s.now ∧ (ls.foldl (fun t n => t.modifyReceiver n f) s).sensors = s.sensors ∧
      (ls.foldl (fun t n => t.modifyReceiver n f) s).slopeMap = s.slopeMap ∧ (ls.foldl (fun t n => t.modifyReceiver n f) s).store = s.store ∧
      (ls.foldl (fun t n => t.modifyReceiver n f) s).slots = s.slots ∧ (ls.foldl (fun t n => t.modifyReceiver n f) s).lastClosed = s.lastClosed ∧
      (ls.foldl (fun t n => t.modifyReceiver n f) s).engine = s.engine ∧ (ls.foldl (fun t n => t.modifyReceiver n f) s).banks = s.banks ∧
      (ls.foldl (fun t n => t.modifyReceiver n f) s).dram = s.dram ∧ (ls.foldl (fun t n => t.modifyReceiver n f) s).loader = s.loader ∧
      (ls.foldl (fun t n => t.modifyReceiver n f) s).table = s.table ∧ (ls.foldl (fun t n => t.modifyReceiver n f) s).gains = s.gains ∧
      (ls.foldl (fun t n => t.modifyReceiver n f) s).hold = s.hold ∧ (ls.foldl (fun t n => t.modifyReceiver n f) s).stage = s.stage ∧
      (ls.foldl (fun t n => t.modifyReceiver n f) s).drive = s.drive ∧ (ls.foldl (fun t n => t.modifyReceiver n f) s).loop = s.loop ∧
      (ls.foldl (fun t n => t.modifyReceiver n f) s).scan = s.scan ∧ (ls.foldl (fun t n => t.modifyReceiver n f) s).telem = s.telem ∧
      (ls.foldl (fun t n => t.modifyReceiver n f) s).port = s.port ∧ (ls.foldl (fun t n => t.modifyReceiver n f) s).pending = s.pending := by
  induction ls generalizing s with
  | nil => simp
  | cons x xs ih => simp [ih]

@[simp] theorem forReceivers_leaves (s : State) (f : Receiver → Receiver) :
    (State.forReceivers s f).variant = s.variant ∧ (State.forReceivers s f).resetLow = s.resetLow ∧
      (State.forReceivers s f).now = s.now ∧ (State.forReceivers s f).sensors = s.sensors ∧
      (State.forReceivers s f).slopeMap = s.slopeMap ∧ (State.forReceivers s f).store = s.store ∧
      (State.forReceivers s f).slots = s.slots ∧ (State.forReceivers s f).lastClosed = s.lastClosed ∧
      (State.forReceivers s f).engine = s.engine ∧ (State.forReceivers s f).banks = s.banks ∧
      (State.forReceivers s f).dram = s.dram ∧ (State.forReceivers s f).loader = s.loader ∧
      (State.forReceivers s f).table = s.table ∧ (State.forReceivers s f).gains = s.gains ∧
      (State.forReceivers s f).hold = s.hold ∧ (State.forReceivers s f).stage = s.stage ∧
      (State.forReceivers s f).drive = s.drive ∧ (State.forReceivers s f).loop = s.loop ∧
      (State.forReceivers s f).scan = s.scan ∧ (State.forReceivers s f).telem = s.telem ∧
      (State.forReceivers s f).port = s.port ∧ (State.forReceivers s f).pending = s.pending := by
  simp [State.forReceivers]

@[simp] theorem joinFifo_leaves (r : Record) (copy : Option CaptureCopy) (s : State) :
    (joinFifo r copy s).variant = s.variant ∧ (joinFifo r copy s).resetLow = s.resetLow ∧
      (joinFifo r copy s).now = s.now ∧ (joinFifo r copy s).receivers = s.receivers ∧
      (joinFifo r copy s).sensors = s.sensors ∧ (joinFifo r copy s).slopeMap = s.slopeMap ∧
      (joinFifo r copy s).store = s.store ∧ (joinFifo r copy s).slots = s.slots ∧
      (joinFifo r copy s).lastClosed = s.lastClosed ∧ (joinFifo r copy s).engine = s.engine ∧
      (joinFifo r copy s).banks = s.banks ∧ (joinFifo r copy s).dram = s.dram ∧
      (joinFifo r copy s).loader = s.loader ∧ (joinFifo r copy s).table = s.table ∧
      (joinFifo r copy s).gains = s.gains ∧ (joinFifo r copy s).hold = s.hold ∧
      (joinFifo r copy s).stage = s.stage ∧ (joinFifo r copy s).drive = s.drive ∧
      (joinFifo r copy s).loop = s.loop ∧ (joinFifo r copy s).scan = s.scan ∧
      (joinFifo r copy s).pending = s.pending := by
  unfold joinFifo
  try dsimp only
  repeat' split
  all_goals simp

@[simp] theorem offer_leaves (r : Record) (copy : Option CaptureCopy) (s : State) :
    (offer r copy s).variant = s.variant ∧ (offer r copy s).resetLow = s.resetLow ∧
      (offer r copy s).now = s.now ∧ (offer r copy s).receivers = s.receivers ∧
      (offer r copy s).sensors = s.sensors ∧ (offer r copy s).slopeMap = s.slopeMap ∧
      (offer r copy s).store = s.store ∧ (offer r copy s).slots = s.slots ∧
      (offer r copy s).lastClosed = s.lastClosed ∧ (offer r copy s).engine = s.engine ∧
      (offer r copy s).banks = s.banks ∧ (offer r copy s).dram = s.dram ∧
      (offer r copy s).loader = s.loader ∧ (offer r copy s).table = s.table ∧
      (offer r copy s).gains = s.gains ∧ (offer r copy s).hold = s.hold ∧
      (offer r copy s).stage = s.stage ∧ (offer r copy s).drive = s.drive ∧
      (offer r copy s).loop = s.loop ∧ (offer r copy s).scan = s.scan ∧
      (offer r copy s).pending = s.pending := by
  unfold offer
  try dsimp only
  repeat' split
  all_goals simp

@[simp] theorem settleLink_leaves (l : Nat) (s : State) :
    (settleLink l s).variant = s.variant ∧ (settleLink l s).resetLow = s.resetLow ∧
      (settleLink l s).now = s.now ∧ (settleLink l s).receivers = s.receivers ∧
      (settleLink l s).sensors = s.sensors ∧ (settleLink l s).slopeMap = s.slopeMap ∧
      (settleLink l s).store = s.store ∧ (settleLink l s).slots = s.slots ∧
      (settleLink l s).lastClosed = s.lastClosed ∧ (settleLink l s).engine = s.engine ∧
      (settleLink l s).banks = s.banks ∧ (settleLink l s).dram = s.dram ∧
      (settleLink l s).loader = s.loader ∧ (settleLink l s).table = s.table ∧
      (settleLink l s).gains = s.gains ∧ (settleLink l s).hold = s.hold ∧
      (settleLink l s).stage = s.stage ∧ (settleLink l s).loop = s.loop ∧
      (settleLink l s).scan = s.scan ∧ (settleLink l s).telem = s.telem ∧
      (settleLink l s).port = s.port ∧ (settleLink l s).pending = s.pending := by
  unfold settleLink
  try dsimp only
  repeat' split
  all_goals simp

@[simp] theorem foldl_settleLink_leaves (ls : List Nat) (s : State) :
    (ls.foldl (fun t l => settleLink l t) s).variant = s.variant ∧ (ls.foldl (fun t l => settleLink l t) s).resetLow = s.resetLow ∧
      (ls.foldl (fun t l => settleLink l t) s).now = s.now ∧ (ls.foldl (fun t l => settleLink l t) s).receivers = s.receivers ∧
      (ls.foldl (fun t l => settleLink l t) s).sensors = s.sensors ∧ (ls.foldl (fun t l => settleLink l t) s).slopeMap = s.slopeMap ∧
      (ls.foldl (fun t l => settleLink l t) s).store = s.store ∧ (ls.foldl (fun t l => settleLink l t) s).slots = s.slots ∧
      (ls.foldl (fun t l => settleLink l t) s).lastClosed = s.lastClosed ∧ (ls.foldl (fun t l => settleLink l t) s).engine = s.engine ∧
      (ls.foldl (fun t l => settleLink l t) s).banks = s.banks ∧ (ls.foldl (fun t l => settleLink l t) s).dram = s.dram ∧
      (ls.foldl (fun t l => settleLink l t) s).loader = s.loader ∧ (ls.foldl (fun t l => settleLink l t) s).table = s.table ∧
      (ls.foldl (fun t l => settleLink l t) s).gains = s.gains ∧ (ls.foldl (fun t l => settleLink l t) s).hold = s.hold ∧
      (ls.foldl (fun t l => settleLink l t) s).stage = s.stage ∧ (ls.foldl (fun t l => settleLink l t) s).loop = s.loop ∧
      (ls.foldl (fun t l => settleLink l t) s).scan = s.scan ∧ (ls.foldl (fun t l => settleLink l t) s).telem = s.telem ∧
      (ls.foldl (fun t l => settleLink l t) s).port = s.port ∧ (ls.foldl (fun t l => settleLink l t) s).pending = s.pending := by
  induction ls generalizing s with
  | nil => simp
  | cons x xs ih => simp [ih]

@[simp] theorem settleLinks_leaves (s : State) :
    (settleLinks s).variant = s.variant ∧ (settleLinks s).resetLow = s.resetLow ∧
      (settleLinks s).now = s.now ∧ (settleLinks s).receivers = s.receivers ∧
      (settleLinks s).sensors = s.sensors ∧ (settleLinks s).slopeMap = s.slopeMap ∧
      (settleLinks s).store = s.store ∧ (settleLinks s).slots = s.slots ∧
      (settleLinks s).lastClosed = s.lastClosed ∧ (settleLinks s).engine = s.engine ∧
      (settleLinks s).banks = s.banks ∧ (settleLinks s).dram = s.dram ∧
      (settleLinks s).loader = s.loader ∧ (settleLinks s).table = s.table ∧
      (settleLinks s).gains = s.gains ∧ (settleLinks s).hold = s.hold ∧
      (settleLinks s).stage = s.stage ∧ (settleLinks s).loop = s.loop ∧
      (settleLinks s).scan = s.scan ∧ (settleLinks s).telem = s.telem ∧
      (settleLinks s).port = s.port ∧ (settleLinks s).pending = s.pending := by
  simp [settleLinks]

@[simp] theorem applyHold_leaves (s : State) :
    (applyHold s).variant = s.variant ∧ (applyHold s).resetLow = s.resetLow ∧
      (applyHold s).now = s.now ∧ (applyHold s).receivers = s.receivers ∧
      (applyHold s).sensors = s.sensors ∧ (applyHold s).slopeMap = s.slopeMap ∧
      (applyHold s).store = s.store ∧ (applyHold s).slots = s.slots ∧
      (applyHold s).lastClosed = s.lastClosed ∧ (applyHold s).engine = s.engine ∧
      (applyHold s).banks = s.banks ∧ (applyHold s).dram = s.dram ∧
      (applyHold s).loader = s.loader ∧ (applyHold s).gains = s.gains ∧
      (applyHold s).stage = s.stage ∧ (applyHold s).loop = s.loop ∧
      (applyHold s).scan = s.scan ∧ (applyHold s).telem = s.telem ∧
      (applyHold s).port = s.port ∧ (applyHold s).pending = s.pending := by
  simp [applyHold]

@[simp] theorem offerScanEnd_leaves (state : ScanState) (cause : EndCause) (frame : Option Frame) (s : State) :
    (offerScanEnd state cause frame s).variant = s.variant ∧ (offerScanEnd state cause frame s).resetLow = s.resetLow ∧
      (offerScanEnd state cause frame s).now = s.now ∧ (offerScanEnd state cause frame s).receivers = s.receivers ∧
      (offerScanEnd state cause frame s).sensors = s.sensors ∧ (offerScanEnd state cause frame s).slopeMap = s.slopeMap ∧
      (offerScanEnd state cause frame s).store = s.store ∧ (offerScanEnd state cause frame s).slots = s.slots ∧
      (offerScanEnd state cause frame s).lastClosed = s.lastClosed ∧ (offerScanEnd state cause frame s).engine = s.engine ∧
      (offerScanEnd state cause frame s).banks = s.banks ∧ (offerScanEnd state cause frame s).dram = s.dram ∧
      (offerScanEnd state cause frame s).loader = s.loader ∧ (offerScanEnd state cause frame s).table = s.table ∧
      (offerScanEnd state cause frame s).gains = s.gains ∧ (offerScanEnd state cause frame s).hold = s.hold ∧
      (offerScanEnd state cause frame s).stage = s.stage ∧ (offerScanEnd state cause frame s).drive = s.drive ∧
      (offerScanEnd state cause frame s).loop = s.loop ∧ (offerScanEnd state cause frame s).scan = s.scan ∧
      (offerScanEnd state cause frame s).pending = s.pending := by
  simp [offerScanEnd]

@[simp] theorem scanAbort_leaves (cause : EndCause) (s : State) :
    (scanAbort cause s).variant = s.variant ∧ (scanAbort cause s).resetLow = s.resetLow ∧
      (scanAbort cause s).now = s.now ∧ (scanAbort cause s).receivers = s.receivers ∧
      (scanAbort cause s).sensors = s.sensors ∧ (scanAbort cause s).slopeMap = s.slopeMap ∧
      (scanAbort cause s).store = s.store ∧ (scanAbort cause s).slots = s.slots ∧
      (scanAbort cause s).lastClosed = s.lastClosed ∧ (scanAbort cause s).engine = s.engine ∧
      (scanAbort cause s).banks = s.banks ∧ (scanAbort cause s).dram = s.dram ∧
      (scanAbort cause s).loader = s.loader ∧ (scanAbort cause s).table = s.table ∧
      (scanAbort cause s).gains = s.gains ∧ (scanAbort cause s).hold = s.hold ∧
      (scanAbort cause s).stage = s.stage ∧ (scanAbort cause s).drive = s.drive ∧
      (scanAbort cause s).loop = s.loop ∧ (scanAbort cause s).pending = s.pending := by
  unfold scanAbort
  try dsimp only
  repeat' split
  all_goals simp

@[simp] theorem scanCommit_leaves (frame : Frame) (poke : Option Poke) (s : State) :
    (scanCommit frame poke s).variant = s.variant ∧ (scanCommit frame poke s).resetLow = s.resetLow ∧
      (scanCommit frame poke s).now = s.now ∧ (scanCommit frame poke s).receivers = s.receivers ∧
      (scanCommit frame poke s).sensors = s.sensors ∧ (scanCommit frame poke s).slopeMap = s.slopeMap ∧
      (scanCommit frame poke s).store = s.store ∧ (scanCommit frame poke s).slots = s.slots ∧
      (scanCommit frame poke s).lastClosed = s.lastClosed ∧ (scanCommit frame poke s).engine = s.engine ∧
      (scanCommit frame poke s).banks = s.banks ∧ (scanCommit frame poke s).dram = s.dram ∧
      (scanCommit frame poke s).loader = s.loader ∧ (scanCommit frame poke s).table = s.table ∧
      (scanCommit frame poke s).gains = s.gains ∧ (scanCommit frame poke s).hold = s.hold ∧
      (scanCommit frame poke s).stage = s.stage ∧ (scanCommit frame poke s).drive = s.drive ∧
      (scanCommit frame poke s).loop = s.loop ∧ (scanCommit frame poke s).pending = s.pending := by
  unfold scanCommit
  try dsimp only
  repeat' split
  all_goals simp

@[simp] theorem changeLoop_leaves (entered : LoopState) (cause : LoopCause) (frame : Option Frame) (s : State) :
    (changeLoop entered cause frame s).variant = s.variant ∧ (changeLoop entered cause frame s).resetLow = s.resetLow ∧
      (changeLoop entered cause frame s).now = s.now ∧ (changeLoop entered cause frame s).receivers = s.receivers ∧
      (changeLoop entered cause frame s).sensors = s.sensors ∧ (changeLoop entered cause frame s).slopeMap = s.slopeMap ∧
      (changeLoop entered cause frame s).store = s.store ∧ (changeLoop entered cause frame s).slots = s.slots ∧
      (changeLoop entered cause frame s).lastClosed = s.lastClosed ∧ (changeLoop entered cause frame s).engine = s.engine ∧
      (changeLoop entered cause frame s).banks = s.banks ∧ (changeLoop entered cause frame s).dram = s.dram ∧
      (changeLoop entered cause frame s).loader = s.loader ∧ (changeLoop entered cause frame s).table = s.table ∧
      (changeLoop entered cause frame s).gains = s.gains ∧ (changeLoop entered cause frame s).hold = s.hold ∧
      (changeLoop entered cause frame s).stage = s.stage ∧ (changeLoop entered cause frame s).drive = s.drive ∧
      (changeLoop entered cause frame s).scan = s.scan ∧ (changeLoop entered cause frame s).pending = s.pending := by
  simp [changeLoop]

@[simp] theorem clearRuns_leaves (s : State) :
    (clearRuns s).variant = s.variant ∧ (clearRuns s).resetLow = s.resetLow ∧
      (clearRuns s).now = s.now ∧ (clearRuns s).receivers = s.receivers ∧
      (clearRuns s).sensors = s.sensors ∧ (clearRuns s).slopeMap = s.slopeMap ∧
      (clearRuns s).store = s.store ∧ (clearRuns s).slots = s.slots ∧
      (clearRuns s).lastClosed = s.lastClosed ∧ (clearRuns s).engine = s.engine ∧
      (clearRuns s).banks = s.banks ∧ (clearRuns s).dram = s.dram ∧
      (clearRuns s).loader = s.loader ∧ (clearRuns s).table = s.table ∧
      (clearRuns s).gains = s.gains ∧ (clearRuns s).hold = s.hold ∧
      (clearRuns s).stage = s.stage ∧ (clearRuns s).drive = s.drive ∧
      (clearRuns s).scan = s.scan ∧ (clearRuns s).telem = s.telem ∧
      (clearRuns s).port = s.port ∧ (clearRuns s).pending = s.pending := by
  simp [clearRuns]

@[simp] theorem enterTracking_leaves (target : Target) (cause : LoopCause) (frame : Option Frame) (s : State) :
    (enterTracking target cause frame s).variant = s.variant ∧ (enterTracking target cause frame s).resetLow = s.resetLow ∧
      (enterTracking target cause frame s).now = s.now ∧ (enterTracking target cause frame s).receivers = s.receivers ∧
      (enterTracking target cause frame s).sensors = s.sensors ∧ (enterTracking target cause frame s).slopeMap = s.slopeMap ∧
      (enterTracking target cause frame s).store = s.store ∧ (enterTracking target cause frame s).slots = s.slots ∧
      (enterTracking target cause frame s).lastClosed = s.lastClosed ∧ (enterTracking target cause frame s).engine = s.engine ∧
      (enterTracking target cause frame s).banks = s.banks ∧ (enterTracking target cause frame s).dram = s.dram ∧
      (enterTracking target cause frame s).loader = s.loader ∧ (enterTracking target cause frame s).table = s.table ∧
      (enterTracking target cause frame s).gains = s.gains ∧ (enterTracking target cause frame s).hold = s.hold ∧
      (enterTracking target cause frame s).stage = s.stage ∧ (enterTracking target cause frame s).drive = s.drive ∧
      (enterTracking target cause frame s).scan = s.scan ∧ (enterTracking target cause frame s).pending = s.pending := by
  unfold enterTracking
  try dsimp only
  repeat' split
  all_goals simp

@[simp] theorem enterHold_leaves (cause : LoopCause) (frame : Option Frame) (s : State) :
    (enterHold cause frame s).variant = s.variant ∧ (enterHold cause frame s).resetLow = s.resetLow ∧
      (enterHold cause frame s).now = s.now ∧ (enterHold cause frame s).receivers = s.receivers ∧
      (enterHold cause frame s).sensors = s.sensors ∧ (enterHold cause frame s).slopeMap = s.slopeMap ∧
      (enterHold cause frame s).store = s.store ∧ (enterHold cause frame s).slots = s.slots ∧
      (enterHold cause frame s).lastClosed = s.lastClosed ∧ (enterHold cause frame s).engine = s.engine ∧
      (enterHold cause frame s).banks = s.banks ∧ (enterHold cause frame s).dram = s.dram ∧
      (enterHold cause frame s).loader = s.loader ∧ (enterHold cause frame s).table = s.table ∧
      (enterHold cause frame s).gains = s.gains ∧ (enterHold cause frame s).hold = s.hold ∧
      (enterHold cause frame s).stage = s.stage ∧ (enterHold cause frame s).drive = s.drive ∧
      (enterHold cause frame s).pending = s.pending := by
  simp [enterHold]

@[simp] theorem compareRun_leaves (run : Nat) (threshold : Nat) (cause : LoopCause) (frame : Option Frame) (s : State) :
    (compareRun run threshold cause frame s).variant = s.variant ∧ (compareRun run threshold cause frame s).resetLow = s.resetLow ∧
      (compareRun run threshold cause frame s).now = s.now ∧ (compareRun run threshold cause frame s).receivers = s.receivers ∧
      (compareRun run threshold cause frame s).sensors = s.sensors ∧ (compareRun run threshold cause frame s).slopeMap = s.slopeMap ∧
      (compareRun run threshold cause frame s).store = s.store ∧ (compareRun run threshold cause frame s).slots = s.slots ∧
      (compareRun run threshold cause frame s).lastClosed = s.lastClosed ∧ (compareRun run threshold cause frame s).engine = s.engine ∧
      (compareRun run threshold cause frame s).banks = s.banks ∧ (compareRun run threshold cause frame s).dram = s.dram ∧
      (compareRun run threshold cause frame s).loader = s.loader ∧ (compareRun run threshold cause frame s).table = s.table ∧
      (compareRun run threshold cause frame s).gains = s.gains ∧ (compareRun run threshold cause frame s).hold = s.hold ∧
      (compareRun run threshold cause frame s).stage = s.stage ∧ (compareRun run threshold cause frame s).drive = s.drive ∧
      (compareRun run threshold cause frame s).pending = s.pending := by
  unfold compareRun
  try dsimp only
  repeat' split
  all_goals simp

@[simp] theorem reportMissed_leaves (frame : Frame) (s : State) :
    (reportMissed frame s).variant = s.variant ∧ (reportMissed frame s).resetLow = s.resetLow ∧
      (reportMissed frame s).now = s.now ∧ (reportMissed frame s).receivers = s.receivers ∧
      (reportMissed frame s).sensors = s.sensors ∧ (reportMissed frame s).slopeMap = s.slopeMap ∧
      (reportMissed frame s).store = s.store ∧ (reportMissed frame s).slots = s.slots ∧
      (reportMissed frame s).lastClosed = s.lastClosed ∧ (reportMissed frame s).engine = s.engine ∧
      (reportMissed frame s).banks = s.banks ∧ (reportMissed frame s).dram = s.dram ∧
      (reportMissed frame s).loader = s.loader ∧ (reportMissed frame s).table = s.table ∧
      (reportMissed frame s).gains = s.gains ∧ (reportMissed frame s).hold = s.hold ∧
      (reportMissed frame s).stage = s.stage ∧ (reportMissed frame s).drive = s.drive ∧
      (reportMissed frame s).pending = s.pending := by
  unfold reportMissed
  try dsimp only
  repeat' split
  all_goals simp

@[simp] theorem reportUsed_leaves (s : State) :
    (reportUsed s).variant = s.variant ∧ (reportUsed s).resetLow = s.resetLow ∧
      (reportUsed s).now = s.now ∧ (reportUsed s).receivers = s.receivers ∧
      (reportUsed s).sensors = s.sensors ∧ (reportUsed s).slopeMap = s.slopeMap ∧
      (reportUsed s).store = s.store ∧ (reportUsed s).slots = s.slots ∧
      (reportUsed s).lastClosed = s.lastClosed ∧ (reportUsed s).engine = s.engine ∧
      (reportUsed s).banks = s.banks ∧ (reportUsed s).dram = s.dram ∧
      (reportUsed s).loader = s.loader ∧ (reportUsed s).table = s.table ∧
      (reportUsed s).gains = s.gains ∧ (reportUsed s).hold = s.hold ∧
      (reportUsed s).stage = s.stage ∧ (reportUsed s).drive = s.drive ∧
      (reportUsed s).scan = s.scan ∧ (reportUsed s).telem = s.telem ∧
      (reportUsed s).port = s.port ∧ (reportUsed s).pending = s.pending := by
  unfold reportUsed
  try dsimp only
  repeat' split
  all_goals simp

@[simp] theorem reportStroke_leaves (frame : Frame) (s : State) :
    (reportStroke frame s).variant = s.variant ∧ (reportStroke frame s).resetLow = s.resetLow ∧
      (reportStroke frame s).now = s.now ∧ (reportStroke frame s).receivers = s.receivers ∧
      (reportStroke frame s).sensors = s.sensors ∧ (reportStroke frame s).slopeMap = s.slopeMap ∧
      (reportStroke frame s).store = s.store ∧ (reportStroke frame s).slots = s.slots ∧
      (reportStroke frame s).lastClosed = s.lastClosed ∧ (reportStroke frame s).engine = s.engine ∧
      (reportStroke frame s).banks = s.banks ∧ (reportStroke frame s).dram = s.dram ∧
      (reportStroke frame s).loader = s.loader ∧ (reportStroke frame s).table = s.table ∧
      (reportStroke frame s).gains = s.gains ∧ (reportStroke frame s).hold = s.hold ∧
      (reportStroke frame s).stage = s.stage ∧ (reportStroke frame s).drive = s.drive ∧
      (reportStroke frame s).pending = s.pending := by
  unfold reportStroke
  try dsimp only
  repeat' split
  all_goals simp

@[simp] theorem reportPassed_leaves (s : State) :
    (reportPassed s).variant = s.variant ∧ (reportPassed s).resetLow = s.resetLow ∧
      (reportPassed s).now = s.now ∧ (reportPassed s).receivers = s.receivers ∧
      (reportPassed s).sensors = s.sensors ∧ (reportPassed s).slopeMap = s.slopeMap ∧
      (reportPassed s).store = s.store ∧ (reportPassed s).slots = s.slots ∧
      (reportPassed s).lastClosed = s.lastClosed ∧ (reportPassed s).engine = s.engine ∧
      (reportPassed s).banks = s.banks ∧ (reportPassed s).dram = s.dram ∧
      (reportPassed s).loader = s.loader ∧ (reportPassed s).table = s.table ∧
      (reportPassed s).gains = s.gains ∧ (reportPassed s).hold = s.hold ∧
      (reportPassed s).stage = s.stage ∧ (reportPassed s).drive = s.drive ∧
      (reportPassed s).scan = s.scan ∧ (reportPassed s).telem = s.telem ∧
      (reportPassed s).port = s.port ∧ (reportPassed s).pending = s.pending := by
  unfold reportPassed
  try dsimp only
  repeat' split
  all_goals simp

@[simp] theorem reportDrive_leaves (frame : Option Frame) (s : State) :
    (reportDrive frame s).variant = s.variant ∧ (reportDrive frame s).resetLow = s.resetLow ∧
      (reportDrive frame s).now = s.now ∧ (reportDrive frame s).receivers = s.receivers ∧
      (reportDrive frame s).sensors = s.sensors ∧ (reportDrive frame s).slopeMap = s.slopeMap ∧
      (reportDrive frame s).store = s.store ∧ (reportDrive frame s).slots = s.slots ∧
      (reportDrive frame s).lastClosed = s.lastClosed ∧ (reportDrive frame s).engine = s.engine ∧
      (reportDrive frame s).banks = s.banks ∧ (reportDrive frame s).dram = s.dram ∧
      (reportDrive frame s).loader = s.loader ∧ (reportDrive frame s).table = s.table ∧
      (reportDrive frame s).gains = s.gains ∧ (reportDrive frame s).hold = s.hold ∧
      (reportDrive frame s).stage = s.stage ∧ (reportDrive frame s).drive = s.drive ∧
      (reportDrive frame s).pending = s.pending := by
  unfold reportDrive
  try dsimp only
  repeat' split
  all_goals simp

@[simp] theorem reportCommitted_leaves (s : State) :
    (reportCommitted s).variant = s.variant ∧ (reportCommitted s).resetLow = s.resetLow ∧
      (reportCommitted s).now = s.now ∧ (reportCommitted s).receivers = s.receivers ∧
      (reportCommitted s).sensors = s.sensors ∧ (reportCommitted s).slopeMap = s.slopeMap ∧
      (reportCommitted s).store = s.store ∧ (reportCommitted s).slots = s.slots ∧
      (reportCommitted s).lastClosed = s.lastClosed ∧ (reportCommitted s).engine = s.engine ∧
      (reportCommitted s).banks = s.banks ∧ (reportCommitted s).dram = s.dram ∧
      (reportCommitted s).loader = s.loader ∧ (reportCommitted s).table = s.table ∧
      (reportCommitted s).gains = s.gains ∧ (reportCommitted s).hold = s.hold ∧
      (reportCommitted s).stage = s.stage ∧ (reportCommitted s).drive = s.drive ∧
      (reportCommitted s).scan = s.scan ∧ (reportCommitted s).telem = s.telem ∧
      (reportCommitted s).port = s.port ∧ (reportCommitted s).pending = s.pending := by
  unfold reportCommitted
  try dsimp only
  repeat' split
  all_goals simp

@[simp] theorem testScheduled_leaves (g : Frame) (s : State) :
    (testScheduled g s).variant = s.variant ∧ (testScheduled g s).resetLow = s.resetLow ∧
      (testScheduled g s).now = s.now ∧ (testScheduled g s).receivers = s.receivers ∧
      (testScheduled g s).sensors = s.sensors ∧ (testScheduled g s).slopeMap = s.slopeMap ∧
      (testScheduled g s).store = s.store ∧ (testScheduled g s).slots = s.slots ∧
      (testScheduled g s).lastClosed = s.lastClosed ∧ (testScheduled g s).engine = s.engine ∧
      (testScheduled g s).banks = s.banks ∧ (testScheduled g s).dram = s.dram ∧
      (testScheduled g s).loader = s.loader ∧ (testScheduled g s).table = s.table ∧
      (testScheduled g s).gains = s.gains ∧ (testScheduled g s).hold = s.hold ∧
      (testScheduled g s).stage = s.stage ∧ (testScheduled g s).drive = s.drive ∧
      (testScheduled g s).scan = s.scan ∧ (testScheduled g s).pending = s.pending := by
  unfold testScheduled
  try dsimp only
  repeat' split
  all_goals simp

@[simp] theorem offerSwap_leaves (b : Nat) (frame : Option Frame) (s : State) :
    (offerSwap b frame s).variant = s.variant ∧ (offerSwap b frame s).resetLow = s.resetLow ∧
      (offerSwap b frame s).now = s.now ∧ (offerSwap b frame s).receivers = s.receivers ∧
      (offerSwap b frame s).sensors = s.sensors ∧ (offerSwap b frame s).slopeMap = s.slopeMap ∧
      (offerSwap b frame s).store = s.store ∧ (offerSwap b frame s).slots = s.slots ∧
      (offerSwap b frame s).lastClosed = s.lastClosed ∧ (offerSwap b frame s).engine = s.engine ∧
      (offerSwap b frame s).banks = s.banks ∧ (offerSwap b frame s).dram = s.dram ∧
      (offerSwap b frame s).loader = s.loader ∧ (offerSwap b frame s).table = s.table ∧
      (offerSwap b frame s).gains = s.gains ∧ (offerSwap b frame s).hold = s.hold ∧
      (offerSwap b frame s).stage = s.stage ∧ (offerSwap b frame s).drive = s.drive ∧
      (offerSwap b frame s).loop = s.loop ∧ (offerSwap b frame s).scan = s.scan ∧
      (offerSwap b frame s).pending = s.pending := by
  simp [offerSwap]

@[simp] theorem activate_leaves (b : Nat) (s : State) :
    (activate b s).variant = s.variant ∧ (activate b s).resetLow = s.resetLow ∧
      (activate b s).now = s.now ∧ (activate b s).receivers = s.receivers ∧
      (activate b s).sensors = s.sensors ∧ (activate b s).slopeMap = s.slopeMap ∧
      (activate b s).store = s.store ∧ (activate b s).slots = s.slots ∧
      (activate b s).lastClosed = s.lastClosed ∧ (activate b s).engine = s.engine ∧
      (activate b s).dram = s.dram ∧ (activate b s).loader = s.loader ∧
      (activate b s).table = s.table ∧ (activate b s).gains = s.gains ∧
      (activate b s).hold = s.hold ∧ (activate b s).stage = s.stage ∧
      (activate b s).drive = s.drive ∧ (activate b s).loop = s.loop ∧
      (activate b s).scan = s.scan ∧ (activate b s).telem = s.telem ∧
      (activate b s).port = s.port ∧ (activate b s).pending = s.pending := by
  simp [activate]

@[simp] theorem applySwap_leaves (g : Frame) (s : State) :
    (applySwap g s).variant = s.variant ∧ (applySwap g s).resetLow = s.resetLow ∧
      (applySwap g s).now = s.now ∧ (applySwap g s).receivers = s.receivers ∧
      (applySwap g s).sensors = s.sensors ∧ (applySwap g s).slopeMap = s.slopeMap ∧
      (applySwap g s).store = s.store ∧ (applySwap g s).slots = s.slots ∧
      (applySwap g s).lastClosed = s.lastClosed ∧ (applySwap g s).engine = s.engine ∧
      (applySwap g s).dram = s.dram ∧ (applySwap g s).loader = s.loader ∧
      (applySwap g s).table = s.table ∧ (applySwap g s).gains = s.gains ∧
      (applySwap g s).hold = s.hold ∧ (applySwap g s).stage = s.stage ∧
      (applySwap g s).drive = s.drive ∧ (applySwap g s).loop = s.loop ∧
      (applySwap g s).scan = s.scan ∧ (applySwap g s).pending = s.pending := by
  unfold applySwap
  try dsimp only
  repeat' split
  all_goals simp

@[simp] theorem releaseBank_leaves (b : Nat) (s : State) :
    (releaseBank b s).variant = s.variant ∧ (releaseBank b s).resetLow = s.resetLow ∧
      (releaseBank b s).now = s.now ∧ (releaseBank b s).receivers = s.receivers ∧
      (releaseBank b s).sensors = s.sensors ∧ (releaseBank b s).slopeMap = s.slopeMap ∧
      (releaseBank b s).store = s.store ∧ (releaseBank b s).slots = s.slots ∧
      (releaseBank b s).lastClosed = s.lastClosed ∧ (releaseBank b s).engine = s.engine ∧
      (releaseBank b s).dram = s.dram ∧ (releaseBank b s).loader = s.loader ∧
      (releaseBank b s).table = s.table ∧ (releaseBank b s).gains = s.gains ∧
      (releaseBank b s).hold = s.hold ∧ (releaseBank b s).stage = s.stage ∧
      (releaseBank b s).drive = s.drive ∧ (releaseBank b s).loop = s.loop ∧
      (releaseBank b s).scan = s.scan ∧ (releaseBank b s).telem = s.telem ∧
      (releaseBank b s).port = s.port ∧ (releaseBank b s).pending = s.pending := by
  unfold releaseBank
  try dsimp only
  repeat' split
  all_goals simp

@[simp] theorem cancelSwap_leaves (s : State) :
    (cancelSwap s).variant = s.variant ∧ (cancelSwap s).resetLow = s.resetLow ∧
      (cancelSwap s).now = s.now ∧ (cancelSwap s).receivers = s.receivers ∧
      (cancelSwap s).sensors = s.sensors ∧ (cancelSwap s).slopeMap = s.slopeMap ∧
      (cancelSwap s).store = s.store ∧ (cancelSwap s).slots = s.slots ∧
      (cancelSwap s).lastClosed = s.lastClosed ∧ (cancelSwap s).engine = s.engine ∧
      (cancelSwap s).dram = s.dram ∧ (cancelSwap s).loader = s.loader ∧
      (cancelSwap s).table = s.table ∧ (cancelSwap s).gains = s.gains ∧
      (cancelSwap s).hold = s.hold ∧ (cancelSwap s).stage = s.stage ∧
      (cancelSwap s).drive = s.drive ∧ (cancelSwap s).loop = s.loop ∧
      (cancelSwap s).scan = s.scan ∧ (cancelSwap s).telem = s.telem ∧
      (cancelSwap s).pending = s.pending := by
  unfold cancelSwap
  try dsimp only
  repeat' split
  all_goals simp

@[simp] theorem cutWork_leaves (k : Nat) (s : State) :
    (cutWork k s).variant = s.variant ∧ (cutWork k s).resetLow = s.resetLow ∧
      (cutWork k s).now = s.now ∧ (cutWork k s).receivers = s.receivers ∧
      (cutWork k s).sensors = s.sensors ∧ (cutWork k s).slopeMap = s.slopeMap ∧
      (cutWork k s).store = s.store ∧ (cutWork k s).slots = s.slots ∧
      (cutWork k s).lastClosed = s.lastClosed ∧ (cutWork k s).banks = s.banks ∧
      (cutWork k s).dram = s.dram ∧ (cutWork k s).loader = s.loader ∧
      (cutWork k s).table = s.table ∧ (cutWork k s).gains = s.gains ∧
      (cutWork k s).hold = s.hold ∧ (cutWork k s).stage = s.stage ∧
      (cutWork k s).drive = s.drive ∧ (cutWork k s).loop = s.loop ∧
      (cutWork k s).scan = s.scan ∧ (cutWork k s).telem = s.telem ∧
      (cutWork k s).port = s.port ∧ (cutWork k s).pending = s.pending := by
  unfold cutWork
  try dsimp only
  repeat' split
  all_goals simp

@[simp] theorem releaseHeads_leaves (s : State) :
    (releaseHeads s).variant = s.variant ∧ (releaseHeads s).resetLow = s.resetLow ∧
      (releaseHeads s).now = s.now ∧ (releaseHeads s).sensors = s.sensors ∧
      (releaseHeads s).slopeMap = s.slopeMap ∧ (releaseHeads s).store = s.store ∧
      (releaseHeads s).slots = s.slots ∧ (releaseHeads s).lastClosed = s.lastClosed ∧
      (releaseHeads s).engine = s.engine ∧ (releaseHeads s).banks = s.banks ∧
      (releaseHeads s).dram = s.dram ∧ (releaseHeads s).loader = s.loader ∧
      (releaseHeads s).table = s.table ∧ (releaseHeads s).gains = s.gains ∧
      (releaseHeads s).hold = s.hold ∧ (releaseHeads s).stage = s.stage ∧
      (releaseHeads s).drive = s.drive ∧ (releaseHeads s).loop = s.loop ∧
      (releaseHeads s).scan = s.scan ∧ (releaseHeads s).telem = s.telem ∧
      (releaseHeads s).port = s.port ∧ (releaseHeads s).pending = s.pending := by
  simp [releaseHeads]

@[simp] theorem freeSlot_leaves (k : Nat) (s : State) :
    (freeSlot k s).variant = s.variant ∧ (freeSlot k s).resetLow = s.resetLow ∧
      (freeSlot k s).now = s.now ∧ (freeSlot k s).sensors = s.sensors ∧
      (freeSlot k s).slopeMap = s.slopeMap ∧ (freeSlot k s).store = s.store ∧
      (freeSlot k s).lastClosed = s.lastClosed ∧ (freeSlot k s).dram = s.dram ∧
      (freeSlot k s).loader = s.loader ∧ (freeSlot k s).table = s.table ∧
      (freeSlot k s).gains = s.gains ∧ (freeSlot k s).hold = s.hold ∧
      (freeSlot k s).stage = s.stage ∧ (freeSlot k s).drive = s.drive ∧
      (freeSlot k s).loop = s.loop ∧ (freeSlot k s).scan = s.scan ∧
      (freeSlot k s).port = s.port ∧ (freeSlot k s).pending = s.pending := by
  unfold freeSlot
  try dsimp only
  repeat' split
  all_goals simp

@[simp] theorem abandonSlot_leaves (k : Nat) (s : State) :
    (abandonSlot k s).variant = s.variant ∧ (abandonSlot k s).resetLow = s.resetLow ∧
      (abandonSlot k s).now = s.now ∧ (abandonSlot k s).sensors = s.sensors ∧
      (abandonSlot k s).slopeMap = s.slopeMap ∧ (abandonSlot k s).store = s.store ∧
      (abandonSlot k s).lastClosed = s.lastClosed ∧ (abandonSlot k s).dram = s.dram ∧
      (abandonSlot k s).loader = s.loader ∧ (abandonSlot k s).table = s.table ∧
      (abandonSlot k s).gains = s.gains ∧ (abandonSlot k s).hold = s.hold ∧
      (abandonSlot k s).stage = s.stage ∧ (abandonSlot k s).drive = s.drive ∧
      (abandonSlot k s).loop = s.loop ∧ (abandonSlot k s).scan = s.scan ∧
      (abandonSlot k s).pending = s.pending := by
  simp [abandonSlot]

@[simp] theorem decideMissed_leaves (k : Nat) (s : State) :
    (decideMissed k s).variant = s.variant ∧ (decideMissed k s).resetLow = s.resetLow ∧
      (decideMissed k s).now = s.now ∧ (decideMissed k s).sensors = s.sensors ∧
      (decideMissed k s).slopeMap = s.slopeMap ∧ (decideMissed k s).store = s.store ∧
      (decideMissed k s).lastClosed = s.lastClosed ∧ (decideMissed k s).dram = s.dram ∧
      (decideMissed k s).loader = s.loader ∧ (decideMissed k s).table = s.table ∧
      (decideMissed k s).gains = s.gains ∧ (decideMissed k s).hold = s.hold ∧
      (decideMissed k s).stage = s.stage ∧ (decideMissed k s).drive = s.drive ∧
      (decideMissed k s).pending = s.pending := by
  unfold decideMissed
  try dsimp only
  repeat' split
  all_goals simp

@[simp] theorem closeSlot_leaves (k : Nat) (cause : CloseCause) (s : State) :
    (closeSlot k cause s).variant = s.variant ∧ (closeSlot k cause s).resetLow = s.resetLow ∧
      (closeSlot k cause s).now = s.now ∧ (closeSlot k cause s).sensors = s.sensors ∧
      (closeSlot k cause s).slopeMap = s.slopeMap ∧ (closeSlot k cause s).store = s.store ∧
      (closeSlot k cause s).dram = s.dram ∧ (closeSlot k cause s).loader = s.loader ∧
      (closeSlot k cause s).table = s.table ∧ (closeSlot k cause s).gains = s.gains ∧
      (closeSlot k cause s).hold = s.hold ∧ (closeSlot k cause s).stage = s.stage ∧
      (closeSlot k cause s).drive = s.drive ∧ (closeSlot k cause s).pending = s.pending := by
  unfold closeSlot
  try dsimp only
  repeat' split
  all_goals simp

@[simp] theorem openSlot_leaves (k : Nat) (f : Frame) (s : State) :
    (openSlot k f s).variant = s.variant ∧ (openSlot k f s).resetLow = s.resetLow ∧
      (openSlot k f s).now = s.now ∧ (openSlot k f s).receivers = s.receivers ∧
      (openSlot k f s).sensors = s.sensors ∧ (openSlot k f s).slopeMap = s.slopeMap ∧
      (openSlot k f s).store = s.store ∧ (openSlot k f s).lastClosed = s.lastClosed ∧
      (openSlot k f s).engine = s.engine ∧ (openSlot k f s).dram = s.dram ∧
      (openSlot k f s).loader = s.loader ∧ (openSlot k f s).table = s.table ∧
      (openSlot k f s).gains = s.gains ∧ (openSlot k f s).hold = s.hold ∧
      (openSlot k f s).stage = s.stage ∧ (openSlot k f s).drive = s.drive ∧
      (openSlot k f s).loop = s.loop ∧ (openSlot k f s).scan = s.scan ∧
      (openSlot k f s).pending = s.pending := by
  unfold openSlot
  try dsimp only
  repeat' split
  all_goals simp

@[simp] theorem popHead_leaves (n : Nat) (s : State) :
    (popHead n s).variant = s.variant ∧ (popHead n s).resetLow = s.resetLow ∧
      (popHead n s).now = s.now ∧ (popHead n s).sensors = s.sensors ∧
      (popHead n s).slopeMap = s.slopeMap ∧ (popHead n s).store = s.store ∧
      (popHead n s).slots = s.slots ∧ (popHead n s).lastClosed = s.lastClosed ∧
      (popHead n s).engine = s.engine ∧ (popHead n s).banks = s.banks ∧
      (popHead n s).dram = s.dram ∧ (popHead n s).loader = s.loader ∧
      (popHead n s).table = s.table ∧ (popHead n s).gains = s.gains ∧
      (popHead n s).hold = s.hold ∧ (popHead n s).stage = s.stage ∧
      (popHead n s).drive = s.drive ∧ (popHead n s).loop = s.loop ∧
      (popHead n s).scan = s.scan ∧ (popHead n s).telem = s.telem ∧
      (popHead n s).port = s.port ∧ (popHead n s).pending = s.pending := by
  simp [popHead]

@[simp] theorem beginSegment_leaves (k : Nat) (n : Nat) (seg : Segment) (s : State) :
    (beginSegment k n seg s).variant = s.variant ∧ (beginSegment k n seg s).resetLow = s.resetLow ∧
      (beginSegment k n seg s).now = s.now ∧ (beginSegment k n seg s).receivers = s.receivers ∧
      (beginSegment k n seg s).sensors = s.sensors ∧ (beginSegment k n seg s).slopeMap = s.slopeMap ∧
      (beginSegment k n seg s).store = s.store ∧ (beginSegment k n seg s).lastClosed = s.lastClosed ∧
      (beginSegment k n seg s).banks = s.banks ∧ (beginSegment k n seg s).dram = s.dram ∧
      (beginSegment k n seg s).loader = s.loader ∧ (beginSegment k n seg s).table = s.table ∧
      (beginSegment k n seg s).gains = s.gains ∧ (beginSegment k n seg s).hold = s.hold ∧
      (beginSegment k n seg s).stage = s.stage ∧ (beginSegment k n seg s).drive = s.drive ∧
      (beginSegment k n seg s).loop = s.loop ∧ (beginSegment k n seg s).scan = s.scan ∧
      (beginSegment k n seg s).telem = s.telem ∧ (beginSegment k n seg s).port = s.port ∧
      (beginSegment k n seg s).pending = s.pending := by
  simp [beginSegment]

@[simp] theorem acceptSegment_leaves (k : Nat) (n : Nat) (seg : Segment) (s : State) :
    (acceptSegment k n seg s).variant = s.variant ∧ (acceptSegment k n seg s).resetLow = s.resetLow ∧
      (acceptSegment k n seg s).now = s.now ∧ (acceptSegment k n seg s).sensors = s.sensors ∧
      (acceptSegment k n seg s).slopeMap = s.slopeMap ∧ (acceptSegment k n seg s).store = s.store ∧
      (acceptSegment k n seg s).dram = s.dram ∧ (acceptSegment k n seg s).loader = s.loader ∧
      (acceptSegment k n seg s).table = s.table ∧ (acceptSegment k n seg s).gains = s.gains ∧
      (acceptSegment k n seg s).hold = s.hold ∧ (acceptSegment k n seg s).stage = s.stage ∧
      (acceptSegment k n seg s).drive = s.drive ∧ (acceptSegment k n seg s).pending = s.pending := by
  unfold acceptSegment
  try dsimp only
  repeat' split
  all_goals simp

@[simp] theorem placeHead_leaves (k : Nat) (n : Nat) (seg : Segment) (s : State) :
    (placeHead k n seg s).variant = s.variant ∧ (placeHead k n seg s).resetLow = s.resetLow ∧
      (placeHead k n seg s).now = s.now ∧ (placeHead k n seg s).sensors = s.sensors ∧
      (placeHead k n seg s).slopeMap = s.slopeMap ∧ (placeHead k n seg s).store = s.store ∧
      (placeHead k n seg s).dram = s.dram ∧ (placeHead k n seg s).loader = s.loader ∧
      (placeHead k n seg s).table = s.table ∧ (placeHead k n seg s).gains = s.gains ∧
      (placeHead k n seg s).hold = s.hold ∧ (placeHead k n seg s).stage = s.stage ∧
      (placeHead k n seg s).drive = s.drive ∧ (placeHead k n seg s).pending = s.pending := by
  unfold placeHead
  try dsimp only
  repeat' split
  all_goals simp

@[simp] theorem waitHead_leaves (n : Nat) (s : State) :
    (waitHead n s).variant = s.variant ∧ (waitHead n s).resetLow = s.resetLow ∧
      (waitHead n s).now = s.now ∧ (waitHead n s).sensors = s.sensors ∧
      (waitHead n s).slopeMap = s.slopeMap ∧ (waitHead n s).store = s.store ∧
      (waitHead n s).dram = s.dram ∧ (waitHead n s).loader = s.loader ∧
      (waitHead n s).table = s.table ∧ (waitHead n s).gains = s.gains ∧
      (waitHead n s).hold = s.hold ∧ (waitHead n s).stage = s.stage ∧
      (waitHead n s).drive = s.drive ∧ (waitHead n s).pending = s.pending := by
  unfold waitHead
  try dsimp only
  repeat' split
  all_goals simp

@[simp] theorem decideHead_leaves (n : Nat) (seg : Segment) (s : State) :
    (decideHead n seg s).variant = s.variant ∧ (decideHead n seg s).resetLow = s.resetLow ∧
      (decideHead n seg s).now = s.now ∧ (decideHead n seg s).sensors = s.sensors ∧
      (decideHead n seg s).slopeMap = s.slopeMap ∧ (decideHead n seg s).store = s.store ∧
      (decideHead n seg s).dram = s.dram ∧ (decideHead n seg s).loader = s.loader ∧
      (decideHead n seg s).table = s.table ∧ (decideHead n seg s).gains = s.gains ∧
      (decideHead n seg s).hold = s.hold ∧ (decideHead n seg s).stage = s.stage ∧
      (decideHead n seg s).drive = s.drive ∧ (decideHead n seg s).pending = s.pending := by
  unfold decideHead
  try dsimp only
  repeat' split
  all_goals simp

@[simp] theorem beginFill_leaves (k : Nat) (s : State) :
    (beginFill k s).variant = s.variant ∧ (beginFill k s).resetLow = s.resetLow ∧
      (beginFill k s).now = s.now ∧ (beginFill k s).receivers = s.receivers ∧
      (beginFill k s).sensors = s.sensors ∧ (beginFill k s).slopeMap = s.slopeMap ∧
      (beginFill k s).store = s.store ∧ (beginFill k s).slots = s.slots ∧
      (beginFill k s).lastClosed = s.lastClosed ∧ (beginFill k s).banks = s.banks ∧
      (beginFill k s).dram = s.dram ∧ (beginFill k s).loader = s.loader ∧
      (beginFill k s).table = s.table ∧ (beginFill k s).gains = s.gains ∧
      (beginFill k s).hold = s.hold ∧ (beginFill k s).stage = s.stage ∧
      (beginFill k s).drive = s.drive ∧ (beginFill k s).loop = s.loop ∧
      (beginFill k s).scan = s.scan ∧ (beginFill k s).telem = s.telem ∧
      (beginFill k s).port = s.port ∧ (beginFill k s).pending = s.pending := by
  simp [beginFill]

@[simp] theorem offerHead_leaves (n : Nat) (s : State) :
    (offerHead n s).variant = s.variant ∧ (offerHead n s).resetLow = s.resetLow ∧
      (offerHead n s).now = s.now ∧ (offerHead n s).sensors = s.sensors ∧
      (offerHead n s).slopeMap = s.slopeMap ∧ (offerHead n s).store = s.store ∧
      (offerHead n s).dram = s.dram ∧ (offerHead n s).loader = s.loader ∧
      (offerHead n s).table = s.table ∧ (offerHead n s).gains = s.gains ∧
      (offerHead n s).hold = s.hold ∧ (offerHead n s).stage = s.stage ∧
      (offerHead n s).drive = s.drive ∧ (offerHead n s).pending = s.pending := by
  unfold offerHead
  try dsimp only
  repeat' split
  all_goals simp

@[simp] theorem arbitrate_leaves (fuel : Nat) (s : State) :
    (arbitrate fuel s).variant = s.variant ∧ (arbitrate fuel s).resetLow = s.resetLow ∧
      (arbitrate fuel s).now = s.now ∧ (arbitrate fuel s).sensors = s.sensors ∧
      (arbitrate fuel s).slopeMap = s.slopeMap ∧ (arbitrate fuel s).store = s.store ∧
      (arbitrate fuel s).dram = s.dram ∧ (arbitrate fuel s).loader = s.loader ∧
      (arbitrate fuel s).table = s.table ∧ (arbitrate fuel s).gains = s.gains ∧
      (arbitrate fuel s).hold = s.hold ∧ (arbitrate fuel s).stage = s.stage ∧
      (arbitrate fuel s).drive = s.drive ∧ (arbitrate fuel s).pending = s.pending := by
  induction fuel generalizing s with
  | zero => simp [arbitrate]
  | succ n ih =>
    unfold arbitrate
    repeat' split
    all_goals simp [ih]

@[simp] theorem arbiter_leaves (s : State) :
    (arbiter s).variant = s.variant ∧ (arbiter s).resetLow = s.resetLow ∧
      (arbiter s).now = s.now ∧ (arbiter s).sensors = s.sensors ∧
      (arbiter s).slopeMap = s.slopeMap ∧ (arbiter s).store = s.store ∧
      (arbiter s).dram = s.dram ∧ (arbiter s).loader = s.loader ∧
      (arbiter s).table = s.table ∧ (arbiter s).gains = s.gains ∧
      (arbiter s).hold = s.hold ∧ (arbiter s).stage = s.stage ∧
      (arbiter s).drive = s.drive ∧ (arbiter s).pending = s.pending := by
  simp [arbiter]

@[simp] theorem uncorrectableRead_leaves (k : Nat) (s : State) :
    (uncorrectableRead k s).variant = s.variant ∧ (uncorrectableRead k s).resetLow = s.resetLow ∧
      (uncorrectableRead k s).now = s.now ∧ (uncorrectableRead k s).receivers = s.receivers ∧
      (uncorrectableRead k s).sensors = s.sensors ∧ (uncorrectableRead k s).slopeMap = s.slopeMap ∧
      (uncorrectableRead k s).store = s.store ∧ (uncorrectableRead k s).lastClosed = s.lastClosed ∧
      (uncorrectableRead k s).engine = s.engine ∧ (uncorrectableRead k s).dram = s.dram ∧
      (uncorrectableRead k s).loader = s.loader ∧ (uncorrectableRead k s).table = s.table ∧
      (uncorrectableRead k s).gains = s.gains ∧ (uncorrectableRead k s).hold = s.hold ∧
      (uncorrectableRead k s).stage = s.stage ∧ (uncorrectableRead k s).drive = s.drive ∧
      (uncorrectableRead k s).loop = s.loop ∧ (uncorrectableRead k s).scan = s.scan ∧
      (uncorrectableRead k s).telem = s.telem ∧ (uncorrectableRead k s).pending = s.pending := by
  simp [uncorrectableRead]

@[simp] theorem addColumn_leaves (k : Nat) (j : Nat) (v : Int) (uncorrectable : Bool) (s : State) :
    (addColumn k j v uncorrectable s).variant = s.variant ∧ (addColumn k j v uncorrectable s).resetLow = s.resetLow ∧
      (addColumn k j v uncorrectable s).now = s.now ∧ (addColumn k j v uncorrectable s).receivers = s.receivers ∧
      (addColumn k j v uncorrectable s).sensors = s.sensors ∧ (addColumn k j v uncorrectable s).slopeMap = s.slopeMap ∧
      (addColumn k j v uncorrectable s).store = s.store ∧ (addColumn k j v uncorrectable s).lastClosed = s.lastClosed ∧
      (addColumn k j v uncorrectable s).engine = s.engine ∧ (addColumn k j v uncorrectable s).dram = s.dram ∧
      (addColumn k j v uncorrectable s).loader = s.loader ∧ (addColumn k j v uncorrectable s).table = s.table ∧
      (addColumn k j v uncorrectable s).gains = s.gains ∧ (addColumn k j v uncorrectable s).hold = s.hold ∧
      (addColumn k j v uncorrectable s).stage = s.stage ∧ (addColumn k j v uncorrectable s).drive = s.drive ∧
      (addColumn k j v uncorrectable s).loop = s.loop ∧ (addColumn k j v uncorrectable s).scan = s.scan ∧
      (addColumn k j v uncorrectable s).telem = s.telem ∧ (addColumn k j v uncorrectable s).pending = s.pending := by
  unfold addColumn
  try dsimp only
  repeat' split
  all_goals simp

@[simp] theorem writeImage_leaves (k : Nat) (j : Nat) (v : Int) (s : State) :
    (writeImage k j v s).variant = s.variant ∧ (writeImage k j v s).resetLow = s.resetLow ∧
      (writeImage k j v s).now = s.now ∧ (writeImage k j v s).receivers = s.receivers ∧
      (writeImage k j v s).sensors = s.sensors ∧ (writeImage k j v s).slopeMap = s.slopeMap ∧
      (writeImage k j v s).store = s.store ∧ (writeImage k j v s).slots = s.slots ∧
      (writeImage k j v s).lastClosed = s.lastClosed ∧ (writeImage k j v s).engine = s.engine ∧
      (writeImage k j v s).banks = s.banks ∧ (writeImage k j v s).dram = s.dram ∧
      (writeImage k j v s).loader = s.loader ∧ (writeImage k j v s).table = s.table ∧
      (writeImage k j v s).gains = s.gains ∧ (writeImage k j v s).hold = s.hold ∧
      (writeImage k j v s).stage = s.stage ∧ (writeImage k j v s).drive = s.drive ∧
      (writeImage k j v s).loop = s.loop ∧ (writeImage k j v s).scan = s.scan ∧
      (writeImage k j v s).port = s.port ∧ (writeImage k j v s).pending = s.pending := by
  unfold writeImage
  try dsimp only
  repeat' split
  all_goals simp

@[simp] theorem workColumn_leaves (k : Nat) (c : Int) (uncorrectable : List Nat) (s : State) (j : Nat) :
    (workColumn k c uncorrectable s j).variant = s.variant ∧ (workColumn k c uncorrectable s j).resetLow = s.resetLow ∧
      (workColumn k c uncorrectable s j).now = s.now ∧ (workColumn k c uncorrectable s j).receivers = s.receivers ∧
      (workColumn k c uncorrectable s j).sensors = s.sensors ∧ (workColumn k c uncorrectable s j).slopeMap = s.slopeMap ∧
      (workColumn k c uncorrectable s j).lastClosed = s.lastClosed ∧ (workColumn k c uncorrectable s j).engine = s.engine ∧
      (workColumn k c uncorrectable s j).dram = s.dram ∧ (workColumn k c uncorrectable s j).loader = s.loader ∧
      (workColumn k c uncorrectable s j).table = s.table ∧ (workColumn k c uncorrectable s j).gains = s.gains ∧
      (workColumn k c uncorrectable s j).hold = s.hold ∧ (workColumn k c uncorrectable s j).stage = s.stage ∧
      (workColumn k c uncorrectable s j).drive = s.drive ∧ (workColumn k c uncorrectable s j).loop = s.loop ∧
      (workColumn k c uncorrectable s j).scan = s.scan ∧ (workColumn k c uncorrectable s j).pending = s.pending := by
  simp [workColumn]

@[simp] theorem foldl_writeImage_leaves (k : Nat) (js : List Nat) (s : State) :
    (js.foldl (fun t j => writeImage k j 0 t) s).variant = s.variant ∧ (js.foldl (fun t j => writeImage k j 0 t) s).resetLow = s.resetLow ∧
      (js.foldl (fun t j => writeImage k j 0 t) s).now = s.now ∧ (js.foldl (fun t j => writeImage k j 0 t) s).receivers = s.receivers ∧
      (js.foldl (fun t j => writeImage k j 0 t) s).sensors = s.sensors ∧ (js.foldl (fun t j => writeImage k j 0 t) s).slopeMap = s.slopeMap ∧
      (js.foldl (fun t j => writeImage k j 0 t) s).store = s.store ∧ (js.foldl (fun t j => writeImage k j 0 t) s).slots = s.slots ∧
      (js.foldl (fun t j => writeImage k j 0 t) s).lastClosed = s.lastClosed ∧ (js.foldl (fun t j => writeImage k j 0 t) s).engine = s.engine ∧
      (js.foldl (fun t j => writeImage k j 0 t) s).banks = s.banks ∧ (js.foldl (fun t j => writeImage k j 0 t) s).dram = s.dram ∧
      (js.foldl (fun t j => writeImage k j 0 t) s).loader = s.loader ∧ (js.foldl (fun t j => writeImage k j 0 t) s).table = s.table ∧
      (js.foldl (fun t j => writeImage k j 0 t) s).gains = s.gains ∧ (js.foldl (fun t j => writeImage k j 0 t) s).hold = s.hold ∧
      (js.foldl (fun t j => writeImage k j 0 t) s).stage = s.stage ∧ (js.foldl (fun t j => writeImage k j 0 t) s).drive = s.drive ∧
      (js.foldl (fun t j => writeImage k j 0 t) s).loop = s.loop ∧ (js.foldl (fun t j => writeImage k j 0 t) s).scan = s.scan ∧
      (js.foldl (fun t j => writeImage k j 0 t) s).port = s.port ∧ (js.foldl (fun t j => writeImage k j 0 t) s).pending = s.pending := by
  induction js generalizing s with
  | nil => simp
  | cons x xs ih => simp [ih]

@[simp] theorem foldl_workColumn_leaves (k : Nat) (c : Int) (u : List Nat) (js : List Nat) (s : State) :
    (js.foldl (workColumn k c u) s).variant = s.variant ∧ (js.foldl (workColumn k c u) s).resetLow = s.resetLow ∧
      (js.foldl (workColumn k c u) s).now = s.now ∧ (js.foldl (workColumn k c u) s).receivers = s.receivers ∧
      (js.foldl (workColumn k c u) s).sensors = s.sensors ∧ (js.foldl (workColumn k c u) s).slopeMap = s.slopeMap ∧
      (js.foldl (workColumn k c u) s).lastClosed = s.lastClosed ∧ (js.foldl (workColumn k c u) s).engine = s.engine ∧
      (js.foldl (workColumn k c u) s).dram = s.dram ∧ (js.foldl (workColumn k c u) s).loader = s.loader ∧
      (js.foldl (workColumn k c u) s).table = s.table ∧ (js.foldl (workColumn k c u) s).gains = s.gains ∧
      (js.foldl (workColumn k c u) s).hold = s.hold ∧ (js.foldl (workColumn k c u) s).stage = s.stage ∧
      (js.foldl (workColumn k c u) s).drive = s.drive ∧ (js.foldl (workColumn k c u) s).loop = s.loop ∧
      (js.foldl (workColumn k c u) s).scan = s.scan ∧ (js.foldl (workColumn k c u) s).pending = s.pending := by
  induction js generalizing s with
  | nil => simp
  | cons x xs ih => simp [ih]

@[simp] theorem workSlope_leaves (k : Nat) (slope : Int) (ref : Int) (scale : Nat) (columns : List Nat) (uncorrectable : List Nat) (s : State) :
    (workSlope k slope ref scale columns uncorrectable s).variant = s.variant ∧ (workSlope k slope ref scale columns uncorrectable s).resetLow = s.resetLow ∧
      (workSlope k slope ref scale columns uncorrectable s).now = s.now ∧ (workSlope k slope ref scale columns uncorrectable s).receivers = s.receivers ∧
      (workSlope k slope ref scale columns uncorrectable s).sensors = s.sensors ∧ (workSlope k slope ref scale columns uncorrectable s).slopeMap = s.slopeMap ∧
      (workSlope k slope ref scale columns uncorrectable s).lastClosed = s.lastClosed ∧ (workSlope k slope ref scale columns uncorrectable s).engine = s.engine ∧
      (workSlope k slope ref scale columns uncorrectable s).dram = s.dram ∧ (workSlope k slope ref scale columns uncorrectable s).loader = s.loader ∧
      (workSlope k slope ref scale columns uncorrectable s).table = s.table ∧ (workSlope k slope ref scale columns uncorrectable s).gains = s.gains ∧
      (workSlope k slope ref scale columns uncorrectable s).hold = s.hold ∧ (workSlope k slope ref scale columns uncorrectable s).stage = s.stage ∧
      (workSlope k slope ref scale columns uncorrectable s).drive = s.drive ∧ (workSlope k slope ref scale columns uncorrectable s).loop = s.loop ∧
      (workSlope k slope ref scale columns uncorrectable s).scan = s.scan ∧ (workSlope k slope ref scale columns uncorrectable s).pending = s.pending := by
  unfold workSlope
  try dsimp only
  repeat' split
  all_goals simp

@[simp] theorem segmentStep_leaves (w : SegmentWork) (rest : List Int) (s : State) :
    (segmentStep w rest s).variant = s.variant ∧ (segmentStep w rest s).resetLow = s.resetLow ∧
      (segmentStep w rest s).now = s.now ∧ (segmentStep w rest s).receivers = s.receivers ∧
      (segmentStep w rest s).sensors = s.sensors ∧ (segmentStep w rest s).slopeMap = s.slopeMap ∧
      (segmentStep w rest s).store = s.store ∧ (segmentStep w rest s).slots = s.slots ∧
      (segmentStep w rest s).lastClosed = s.lastClosed ∧ (segmentStep w rest s).banks = s.banks ∧
      (segmentStep w rest s).dram = s.dram ∧ (segmentStep w rest s).loader = s.loader ∧
      (segmentStep w rest s).table = s.table ∧ (segmentStep w rest s).gains = s.gains ∧
      (segmentStep w rest s).hold = s.hold ∧ (segmentStep w rest s).stage = s.stage ∧
      (segmentStep w rest s).drive = s.drive ∧ (segmentStep w rest s).loop = s.loop ∧
      (segmentStep w rest s).scan = s.scan ∧ (segmentStep w rest s).telem = s.telem ∧
      (segmentStep w rest s).port = s.port ∧ (segmentStep w rest s).pending = s.pending := by
  unfold segmentStep
  try dsimp only
  repeat' split
  all_goals simp

@[simp] theorem fillColumn_leaves (w : FillWork) (j : Nat) (uncorrectable : Bool) (s : State) :
    (fillColumn w j uncorrectable s).variant = s.variant ∧ (fillColumn w j uncorrectable s).resetLow = s.resetLow ∧
      (fillColumn w j uncorrectable s).now = s.now ∧ (fillColumn w j uncorrectable s).receivers = s.receivers ∧
      (fillColumn w j uncorrectable s).sensors = s.sensors ∧ (fillColumn w j uncorrectable s).slopeMap = s.slopeMap ∧
      (fillColumn w j uncorrectable s).store = s.store ∧ (fillColumn w j uncorrectable s).lastClosed = s.lastClosed ∧
      (fillColumn w j uncorrectable s).engine = s.engine ∧ (fillColumn w j uncorrectable s).dram = s.dram ∧
      (fillColumn w j uncorrectable s).loader = s.loader ∧ (fillColumn w j uncorrectable s).table = s.table ∧
      (fillColumn w j uncorrectable s).gains = s.gains ∧ (fillColumn w j uncorrectable s).hold = s.hold ∧
      (fillColumn w j uncorrectable s).stage = s.stage ∧ (fillColumn w j uncorrectable s).drive = s.drive ∧
      (fillColumn w j uncorrectable s).loop = s.loop ∧ (fillColumn w j uncorrectable s).scan = s.scan ∧
      (fillColumn w j uncorrectable s).pending = s.pending := by
  simp [fillColumn]

@[simp] theorem finishPass_leaves (k : Nat) (s : State) :
    (finishPass k s).variant = s.variant ∧ (finishPass k s).resetLow = s.resetLow ∧
      (finishPass k s).now = s.now ∧ (finishPass k s).receivers = s.receivers ∧
      (finishPass k s).sensors = s.sensors ∧ (finishPass k s).slopeMap = s.slopeMap ∧
      (finishPass k s).store = s.store ∧ (finishPass k s).lastClosed = s.lastClosed ∧
      (finishPass k s).banks = s.banks ∧ (finishPass k s).dram = s.dram ∧
      (finishPass k s).loader = s.loader ∧ (finishPass k s).table = s.table ∧
      (finishPass k s).gains = s.gains ∧ (finishPass k s).hold = s.hold ∧
      (finishPass k s).stage = s.stage ∧ (finishPass k s).drive = s.drive ∧
      (finishPass k s).loop = s.loop ∧ (finishPass k s).scan = s.scan ∧
      (finishPass k s).telem = s.telem ∧ (finishPass k s).port = s.port ∧
      (finishPass k s).pending = s.pending := by
  simp [finishPass]

@[simp] theorem endStage_leaves (slot : Nat) (s : State) :
    (endStage slot s).variant = s.variant ∧ (endStage slot s).resetLow = s.resetLow ∧
      (endStage slot s).now = s.now ∧ (endStage slot s).sensors = s.sensors ∧
      (endStage slot s).slopeMap = s.slopeMap ∧ (endStage slot s).store = s.store ∧
      (endStage slot s).lastClosed = s.lastClosed ∧ (endStage slot s).dram = s.dram ∧
      (endStage slot s).loader = s.loader ∧ (endStage slot s).gains = s.gains ∧
      (endStage slot s).loop = s.loop ∧ (endStage slot s).scan = s.scan ∧
      (endStage slot s).port = s.port ∧ (endStage slot s).pending = s.pending := by
  simp [endStage]

@[simp] theorem beginBuilding_leaves (k : Nat) (s : State) :
    (beginBuilding k s).variant = s.variant ∧ (beginBuilding k s).resetLow = s.resetLow ∧
      (beginBuilding k s).now = s.now ∧ (beginBuilding k s).receivers = s.receivers ∧
      (beginBuilding k s).sensors = s.sensors ∧ (beginBuilding k s).slopeMap = s.slopeMap ∧
      (beginBuilding k s).store = s.store ∧ (beginBuilding k s).slots = s.slots ∧
      (beginBuilding k s).lastClosed = s.lastClosed ∧ (beginBuilding k s).engine = s.engine ∧
      (beginBuilding k s).banks = s.banks ∧ (beginBuilding k s).dram = s.dram ∧
      (beginBuilding k s).loader = s.loader ∧ (beginBuilding k s).table = s.table ∧
      (beginBuilding k s).gains = s.gains ∧ (beginBuilding k s).hold = s.hold ∧
      (beginBuilding k s).drive = s.drive ∧ (beginBuilding k s).loop = s.loop ∧
      (beginBuilding k s).scan = s.scan ∧ (beginBuilding k s).telem = s.telem ∧
      (beginBuilding k s).port = s.port ∧ (beginBuilding k s).pending = s.pending := by
  simp [beginBuilding]

@[simp] theorem holdPath_leaves (k : Nat) (s : State) :
    (holdPath k s).variant = s.variant ∧ (holdPath k s).resetLow = s.resetLow ∧
      (holdPath k s).now = s.now ∧ (holdPath k s).sensors = s.sensors ∧
      (holdPath k s).slopeMap = s.slopeMap ∧ (holdPath k s).store = s.store ∧
      (holdPath k s).lastClosed = s.lastClosed ∧ (holdPath k s).dram = s.dram ∧
      (holdPath k s).loader = s.loader ∧ (holdPath k s).gains = s.gains ∧
      (holdPath k s).loop = s.loop ∧ (holdPath k s).scan = s.scan ∧
      (holdPath k s).pending = s.pending := by
  simp [holdPath]

@[simp] theorem enterCommand_leaves (k : Nat) (s : State) :
    (enterCommand k s).variant = s.variant ∧ (enterCommand k s).resetLow = s.resetLow ∧
      (enterCommand k s).now = s.now ∧ (enterCommand k s).sensors = s.sensors ∧
      (enterCommand k s).slopeMap = s.slopeMap ∧ (enterCommand k s).store = s.store ∧
      (enterCommand k s).lastClosed = s.lastClosed ∧ (enterCommand k s).dram = s.dram ∧
      (enterCommand k s).loader = s.loader ∧ (enterCommand k s).gains = s.gains ∧
      (enterCommand k s).scan = s.scan ∧ (enterCommand k s).pending = s.pending := by
  unfold enterCommand
  try dsimp only
  repeat' split
  all_goals simp

@[simp] theorem enterCommands_leaves (fuel : Nat) (s : State) :
    (enterCommands fuel s).variant = s.variant ∧ (enterCommands fuel s).resetLow = s.resetLow ∧
      (enterCommands fuel s).now = s.now ∧ (enterCommands fuel s).sensors = s.sensors ∧
      (enterCommands fuel s).slopeMap = s.slopeMap ∧ (enterCommands fuel s).store = s.store ∧
      (enterCommands fuel s).lastClosed = s.lastClosed ∧ (enterCommands fuel s).dram = s.dram ∧
      (enterCommands fuel s).loader = s.loader ∧ (enterCommands fuel s).gains = s.gains ∧
      (enterCommands fuel s).scan = s.scan ∧ (enterCommands fuel s).pending = s.pending := by
  induction fuel generalizing s with
  | zero => simp [enterCommands]
  | succ n ih =>
    unfold enterCommands
    repeat' split
    all_goals simp [ih]

@[simp] theorem settle_leaves (s : State) :
    (settle s).variant = s.variant ∧ (settle s).resetLow = s.resetLow ∧
      (settle s).now = s.now ∧ (settle s).sensors = s.sensors ∧
      (settle s).slopeMap = s.slopeMap ∧ (settle s).store = s.store ∧
      (settle s).dram = s.dram ∧ (settle s).loader = s.loader ∧
      (settle s).gains = s.gains ∧ (settle s).pending = s.pending := by
  simp [settle]

@[simp] theorem strokeDrop_leaves (w : StageFrame) (shape : Shape) (s : State) :
    (strokeDrop w shape s).variant = s.variant ∧ (strokeDrop w shape s).resetLow = s.resetLow ∧
      (strokeDrop w shape s).now = s.now ∧ (strokeDrop w shape s).sensors = s.sensors ∧
      (strokeDrop w shape s).slopeMap = s.slopeMap ∧ (strokeDrop w shape s).store = s.store ∧
      (strokeDrop w shape s).lastClosed = s.lastClosed ∧ (strokeDrop w shape s).dram = s.dram ∧
      (strokeDrop w shape s).loader = s.loader ∧ (strokeDrop w shape s).gains = s.gains ∧
      (strokeDrop w shape s).pending = s.pending := by
  simp [strokeDrop]

@[simp] theorem handOver_leaves (w : StageFrame) (shape : Shape) (s : State) :
    (handOver w shape s).variant = s.variant ∧ (handOver w shape s).resetLow = s.resetLow ∧
      (handOver w shape s).now = s.now ∧ (handOver w shape s).receivers = s.receivers ∧
      (handOver w shape s).sensors = s.sensors ∧ (handOver w shape s).slopeMap = s.slopeMap ∧
      (handOver w shape s).store = s.store ∧ (handOver w shape s).slots = s.slots ∧
      (handOver w shape s).lastClosed = s.lastClosed ∧ (handOver w shape s).engine = s.engine ∧
      (handOver w shape s).banks = s.banks ∧ (handOver w shape s).dram = s.dram ∧
      (handOver w shape s).loader = s.loader ∧ (handOver w shape s).table = s.table ∧
      (handOver w shape s).gains = s.gains ∧ (handOver w shape s).hold = s.hold ∧
      (handOver w shape s).scan = s.scan ∧ (handOver w shape s).telem = s.telem ∧
      (handOver w shape s).port = s.port ∧ (handOver w shape s).pending = s.pending := by
  simp [handOver]

@[simp] theorem commitFrame_leaves (uncorrectable : List Nat) (s : State) :
    (commitFrame uncorrectable s).variant = s.variant ∧ (commitFrame uncorrectable s).resetLow = s.resetLow ∧
      (commitFrame uncorrectable s).now = s.now ∧ (commitFrame uncorrectable s).sensors = s.sensors ∧
      (commitFrame uncorrectable s).slopeMap = s.slopeMap ∧ (commitFrame uncorrectable s).store = s.store ∧
      (commitFrame uncorrectable s).lastClosed = s.lastClosed ∧ (commitFrame uncorrectable s).dram = s.dram ∧
      (commitFrame uncorrectable s).loader = s.loader ∧ (commitFrame uncorrectable s).gains = s.gains ∧
      (commitFrame uncorrectable s).pending = s.pending := by
  unfold commitFrame
  try dsimp only
  repeat' split
  all_goals simp

@[simp] theorem driveDrop_leaves (reason : DropReason) (s : State) :
    (driveDrop reason s).variant = s.variant ∧ (driveDrop reason s).resetLow = s.resetLow ∧
      (driveDrop reason s).now = s.now ∧ (driveDrop reason s).sensors = s.sensors ∧
      (driveDrop reason s).slopeMap = s.slopeMap ∧ (driveDrop reason s).store = s.store ∧
      (driveDrop reason s).lastClosed = s.lastClosed ∧ (driveDrop reason s).dram = s.dram ∧
      (driveDrop reason s).loader = s.loader ∧ (driveDrop reason s).gains = s.gains ∧
      (driveDrop reason s).pending = s.pending := by
  unfold driveDrop
  try dsimp only
  repeat' split
  all_goals simp

@[simp] theorem abandonStage_leaves (s : State) :
    (abandonStage s).variant = s.variant ∧ (abandonStage s).resetLow = s.resetLow ∧
      (abandonStage s).now = s.now ∧ (abandonStage s).receivers = s.receivers ∧
      (abandonStage s).sensors = s.sensors ∧ (abandonStage s).slopeMap = s.slopeMap ∧
      (abandonStage s).store = s.store ∧ (abandonStage s).slots = s.slots ∧
      (abandonStage s).lastClosed = s.lastClosed ∧ (abandonStage s).engine = s.engine ∧
      (abandonStage s).banks = s.banks ∧ (abandonStage s).dram = s.dram ∧
      (abandonStage s).loader = s.loader ∧ (abandonStage s).gains = s.gains ∧
      (abandonStage s).loop = s.loop ∧ (abandonStage s).scan = s.scan ∧
      (abandonStage s).telem = s.telem ∧ (abandonStage s).port = s.port ∧
      (abandonStage s).pending = s.pending := by
  unfold abandonStage
  try dsimp only
  repeat' split
  all_goals simp

@[simp] theorem sendLoad_leaves (tx : Transaction) (p : TxLink) (s : State) :
    (sendLoad tx p s).variant = s.variant ∧ (sendLoad tx p s).resetLow = s.resetLow ∧
      (sendLoad tx p s).now = s.now ∧ (sendLoad tx p s).receivers = s.receivers ∧
      (sendLoad tx p s).sensors = s.sensors ∧ (sendLoad tx p s).slopeMap = s.slopeMap ∧
      (sendLoad tx p s).store = s.store ∧ (sendLoad tx p s).slots = s.slots ∧
      (sendLoad tx p s).lastClosed = s.lastClosed ∧ (sendLoad tx p s).engine = s.engine ∧
      (sendLoad tx p s).banks = s.banks ∧ (sendLoad tx p s).dram = s.dram ∧
      (sendLoad tx p s).loader = s.loader ∧ (sendLoad tx p s).table = s.table ∧
      (sendLoad tx p s).gains = s.gains ∧ (sendLoad tx p s).hold = s.hold ∧
      (sendLoad tx p s).stage = s.stage ∧ (sendLoad tx p s).loop = s.loop ∧
      (sendLoad tx p s).scan = s.scan ∧ (sendLoad tx p s).telem = s.telem ∧
      (sendLoad tx p s).port = s.port ∧ (sendLoad tx p s).pending = s.pending := by
  simp [sendLoad]

@[simp] theorem sendResync_leaves (p : TxLink) (s : State) :
    (sendResync p s).variant = s.variant ∧ (sendResync p s).resetLow = s.resetLow ∧
      (sendResync p s).now = s.now ∧ (sendResync p s).receivers = s.receivers ∧
      (sendResync p s).sensors = s.sensors ∧ (sendResync p s).slopeMap = s.slopeMap ∧
      (sendResync p s).store = s.store ∧ (sendResync p s).slots = s.slots ∧
      (sendResync p s).lastClosed = s.lastClosed ∧ (sendResync p s).engine = s.engine ∧
      (sendResync p s).banks = s.banks ∧ (sendResync p s).dram = s.dram ∧
      (sendResync p s).loader = s.loader ∧ (sendResync p s).table = s.table ∧
      (sendResync p s).gains = s.gains ∧ (sendResync p s).hold = s.hold ∧
      (sendResync p s).stage = s.stage ∧ (sendResync p s).loop = s.loop ∧
      (sendResync p s).scan = s.scan ∧ (sendResync p s).telem = s.telem ∧
      (sendResync p s).port = s.port ∧ (sendResync p s).pending = s.pending := by
  simp [sendResync]

@[simp] theorem startLink_leaves (tx : Transaction) (idle : Nat → Bool) (s : State) (p : TxLink) :
    (startLink tx idle s p).variant = s.variant ∧ (startLink tx idle s p).resetLow = s.resetLow ∧
      (startLink tx idle s p).now = s.now ∧ (startLink tx idle s p).receivers = s.receivers ∧
      (startLink tx idle s p).sensors = s.sensors ∧ (startLink tx idle s p).slopeMap = s.slopeMap ∧
      (startLink tx idle s p).store = s.store ∧ (startLink tx idle s p).slots = s.slots ∧
      (startLink tx idle s p).lastClosed = s.lastClosed ∧ (startLink tx idle s p).engine = s.engine ∧
      (startLink tx idle s p).banks = s.banks ∧ (startLink tx idle s p).dram = s.dram ∧
      (startLink tx idle s p).loader = s.loader ∧ (startLink tx idle s p).table = s.table ∧
      (startLink tx idle s p).gains = s.gains ∧ (startLink tx idle s p).hold = s.hold ∧
      (startLink tx idle s p).stage = s.stage ∧ (startLink tx idle s p).loop = s.loop ∧
      (startLink tx idle s p).scan = s.scan ∧ (startLink tx idle s p).telem = s.telem ∧
      (startLink tx idle s p).port = s.port ∧ (startLink tx idle s p).pending = s.pending := by
  unfold startLink
  try dsimp only
  repeat' split
  all_goals simp

@[simp] theorem endBiasSend_leaves (tx : Transaction) (s : State) :
    (endBiasSend tx s).variant = s.variant ∧ (endBiasSend tx s).resetLow = s.resetLow ∧
      (endBiasSend tx s).now = s.now ∧ (endBiasSend tx s).receivers = s.receivers ∧
      (endBiasSend tx s).sensors = s.sensors ∧ (endBiasSend tx s).slopeMap = s.slopeMap ∧
      (endBiasSend tx s).store = s.store ∧ (endBiasSend tx s).slots = s.slots ∧
      (endBiasSend tx s).lastClosed = s.lastClosed ∧ (endBiasSend tx s).engine = s.engine ∧
      (endBiasSend tx s).banks = s.banks ∧ (endBiasSend tx s).dram = s.dram ∧
      (endBiasSend tx s).loader = s.loader ∧ (endBiasSend tx s).gains = s.gains ∧
      (endBiasSend tx s).stage = s.stage ∧ (endBiasSend tx s).scan = s.scan ∧
      (endBiasSend tx s).telem = s.telem ∧ (endBiasSend tx s).port = s.port ∧
      (endBiasSend tx s).pending = s.pending := by
  simp [endBiasSend]

@[simp] theorem clearOutstanding_leaves (s : State) (p : TxLink) :
    (clearOutstanding s p).variant = s.variant ∧ (clearOutstanding s p).resetLow = s.resetLow ∧
      (clearOutstanding s p).now = s.now ∧ (clearOutstanding s p).receivers = s.receivers ∧
      (clearOutstanding s p).sensors = s.sensors ∧ (clearOutstanding s p).slopeMap = s.slopeMap ∧
      (clearOutstanding s p).store = s.store ∧ (clearOutstanding s p).slots = s.slots ∧
      (clearOutstanding s p).lastClosed = s.lastClosed ∧ (clearOutstanding s p).engine = s.engine ∧
      (clearOutstanding s p).banks = s.banks ∧ (clearOutstanding s p).dram = s.dram ∧
      (clearOutstanding s p).loader = s.loader ∧ (clearOutstanding s p).table = s.table ∧
      (clearOutstanding s p).gains = s.gains ∧ (clearOutstanding s p).hold = s.hold ∧
      (clearOutstanding s p).stage = s.stage ∧ (clearOutstanding s p).loop = s.loop ∧
      (clearOutstanding s p).scan = s.scan ∧ (clearOutstanding s p).telem = s.telem ∧
      (clearOutstanding s p).port = s.port ∧ (clearOutstanding s p).pending = s.pending := by
  simp [clearOutstanding]

@[simp] theorem foldl_clearOutstanding_leaves (ps : List TxLink) (s : State) :
    (ps.foldl clearOutstanding s).variant = s.variant ∧ (ps.foldl clearOutstanding s).resetLow = s.resetLow ∧
      (ps.foldl clearOutstanding s).now = s.now ∧ (ps.foldl clearOutstanding s).receivers = s.receivers ∧
      (ps.foldl clearOutstanding s).sensors = s.sensors ∧ (ps.foldl clearOutstanding s).slopeMap = s.slopeMap ∧
      (ps.foldl clearOutstanding s).store = s.store ∧ (ps.foldl clearOutstanding s).slots = s.slots ∧
      (ps.foldl clearOutstanding s).lastClosed = s.lastClosed ∧ (ps.foldl clearOutstanding s).engine = s.engine ∧
      (ps.foldl clearOutstanding s).banks = s.banks ∧ (ps.foldl clearOutstanding s).dram = s.dram ∧
      (ps.foldl clearOutstanding s).loader = s.loader ∧ (ps.foldl clearOutstanding s).table = s.table ∧
      (ps.foldl clearOutstanding s).gains = s.gains ∧ (ps.foldl clearOutstanding s).hold = s.hold ∧
      (ps.foldl clearOutstanding s).stage = s.stage ∧ (ps.foldl clearOutstanding s).loop = s.loop ∧
      (ps.foldl clearOutstanding s).scan = s.scan ∧ (ps.foldl clearOutstanding s).telem = s.telem ∧
      (ps.foldl clearOutstanding s).port = s.port ∧ (ps.foldl clearOutstanding s).pending = s.pending := by
  induction ps generalizing s with
  | nil => simp
  | cons x xs ih => simp [ih]

@[simp] theorem endTransaction_leaves (tx : Transaction) (s : State) :
    (endTransaction tx s).variant = s.variant ∧ (endTransaction tx s).resetLow = s.resetLow ∧
      (endTransaction tx s).now = s.now ∧ (endTransaction tx s).receivers = s.receivers ∧
      (endTransaction tx s).sensors = s.sensors ∧ (endTransaction tx s).slopeMap = s.slopeMap ∧
      (endTransaction tx s).store = s.store ∧ (endTransaction tx s).slots = s.slots ∧
      (endTransaction tx s).lastClosed = s.lastClosed ∧ (endTransaction tx s).engine = s.engine ∧
      (endTransaction tx s).banks = s.banks ∧ (endTransaction tx s).dram = s.dram ∧
      (endTransaction tx s).loader = s.loader ∧ (endTransaction tx s).gains = s.gains ∧
      (endTransaction tx s).stage = s.stage ∧ (endTransaction tx s).scan = s.scan ∧
      (endTransaction tx s).telem = s.telem ∧ (endTransaction tx s).port = s.port ∧
      (endTransaction tx s).pending = s.pending := by
  unfold endTransaction
  try dsimp only
  repeat' split
  all_goals simp

@[simp] theorem checkEnd_leaves (s : State) :
    (checkEnd s).variant = s.variant ∧ (checkEnd s).resetLow = s.resetLow ∧
      (checkEnd s).now = s.now ∧ (checkEnd s).receivers = s.receivers ∧
      (checkEnd s).sensors = s.sensors ∧ (checkEnd s).slopeMap = s.slopeMap ∧
      (checkEnd s).store = s.store ∧ (checkEnd s).slots = s.slots ∧
      (checkEnd s).lastClosed = s.lastClosed ∧ (checkEnd s).engine = s.engine ∧
      (checkEnd s).banks = s.banks ∧ (checkEnd s).dram = s.dram ∧
      (checkEnd s).loader = s.loader ∧ (checkEnd s).gains = s.gains ∧
      (checkEnd s).stage = s.stage ∧ (checkEnd s).scan = s.scan ∧
      (checkEnd s).telem = s.telem ∧ (checkEnd s).port = s.port ∧
      (checkEnd s).pending = s.pending := by
  unfold checkEnd
  try dsimp only
  repeat' split
  all_goals simp

@[simp] theorem foldl_startLink_leaves (tx : Transaction) (idle : Nat → Bool) (ps : List TxLink) (s : State) :
    (ps.foldl (startLink tx idle) s).variant = s.variant ∧ (ps.foldl (startLink tx idle) s).resetLow = s.resetLow ∧
      (ps.foldl (startLink tx idle) s).now = s.now ∧ (ps.foldl (startLink tx idle) s).receivers = s.receivers ∧
      (ps.foldl (startLink tx idle) s).sensors = s.sensors ∧ (ps.foldl (startLink tx idle) s).slopeMap = s.slopeMap ∧
      (ps.foldl (startLink tx idle) s).store = s.store ∧ (ps.foldl (startLink tx idle) s).slots = s.slots ∧
      (ps.foldl (startLink tx idle) s).lastClosed = s.lastClosed ∧ (ps.foldl (startLink tx idle) s).engine = s.engine ∧
      (ps.foldl (startLink tx idle) s).banks = s.banks ∧ (ps.foldl (startLink tx idle) s).dram = s.dram ∧
      (ps.foldl (startLink tx idle) s).loader = s.loader ∧ (ps.foldl (startLink tx idle) s).table = s.table ∧
      (ps.foldl (startLink tx idle) s).gains = s.gains ∧ (ps.foldl (startLink tx idle) s).hold = s.hold ∧
      (ps.foldl (startLink tx idle) s).stage = s.stage ∧ (ps.foldl (startLink tx idle) s).loop = s.loop ∧
      (ps.foldl (startLink tx idle) s).scan = s.scan ∧ (ps.foldl (startLink tx idle) s).telem = s.telem ∧
      (ps.foldl (startLink tx idle) s).port = s.port ∧ (ps.foldl (startLink tx idle) s).pending = s.pending := by
  induction ps generalizing s with
  | nil => simp
  | cons x xs ih => simp [ih]

@[simp] theorem beginTransaction_leaves (request : TxRequest) (idle : Nat → Bool) (s : State) :
    (beginTransaction request idle s).variant = s.variant ∧ (beginTransaction request idle s).resetLow = s.resetLow ∧
      (beginTransaction request idle s).now = s.now ∧ (beginTransaction request idle s).receivers = s.receivers ∧
      (beginTransaction request idle s).sensors = s.sensors ∧ (beginTransaction request idle s).slopeMap = s.slopeMap ∧
      (beginTransaction request idle s).store = s.store ∧ (beginTransaction request idle s).slots = s.slots ∧
      (beginTransaction request idle s).lastClosed = s.lastClosed ∧ (beginTransaction request idle s).engine = s.engine ∧
      (beginTransaction request idle s).banks = s.banks ∧ (beginTransaction request idle s).dram = s.dram ∧
      (beginTransaction request idle s).loader = s.loader ∧ (beginTransaction request idle s).gains = s.gains ∧
      (beginTransaction request idle s).stage = s.stage ∧ (beginTransaction request idle s).scan = s.scan ∧
      (beginTransaction request idle s).telem = s.telem ∧ (beginTransaction request idle s).port = s.port ∧
      (beginTransaction request idle s).pending = s.pending := by
  simp [beginTransaction]

@[simp] theorem releaseLink_leaves (s : State) (p : TxLink) :
    (releaseLink s p).variant = s.variant ∧ (releaseLink s p).resetLow = s.resetLow ∧
      (releaseLink s p).now = s.now ∧ (releaseLink s p).receivers = s.receivers ∧
      (releaseLink s p).sensors = s.sensors ∧ (releaseLink s p).slopeMap = s.slopeMap ∧
      (releaseLink s p).store = s.store ∧ (releaseLink s p).slots = s.slots ∧
      (releaseLink s p).lastClosed = s.lastClosed ∧ (releaseLink s p).engine = s.engine ∧
      (releaseLink s p).banks = s.banks ∧ (releaseLink s p).dram = s.dram ∧
      (releaseLink s p).loader = s.loader ∧ (releaseLink s p).table = s.table ∧
      (releaseLink s p).gains = s.gains ∧ (releaseLink s p).hold = s.hold ∧
      (releaseLink s p).stage = s.stage ∧ (releaseLink s p).loop = s.loop ∧
      (releaseLink s p).scan = s.scan ∧ (releaseLink s p).telem = s.telem ∧
      (releaseLink s p).port = s.port ∧ (releaseLink s p).pending = s.pending := by
  unfold releaseLink
  try dsimp only
  repeat' split
  all_goals simp

@[simp] theorem foldl_releaseLink_leaves (ps : List TxLink) (s : State) :
    (ps.foldl releaseLink s).variant = s.variant ∧ (ps.foldl releaseLink s).resetLow = s.resetLow ∧
      (ps.foldl releaseLink s).now = s.now ∧ (ps.foldl releaseLink s).receivers = s.receivers ∧
      (ps.foldl releaseLink s).sensors = s.sensors ∧ (ps.foldl releaseLink s).slopeMap = s.slopeMap ∧
      (ps.foldl releaseLink s).store = s.store ∧ (ps.foldl releaseLink s).slots = s.slots ∧
      (ps.foldl releaseLink s).lastClosed = s.lastClosed ∧ (ps.foldl releaseLink s).engine = s.engine ∧
      (ps.foldl releaseLink s).banks = s.banks ∧ (ps.foldl releaseLink s).dram = s.dram ∧
      (ps.foldl releaseLink s).loader = s.loader ∧ (ps.foldl releaseLink s).table = s.table ∧
      (ps.foldl releaseLink s).gains = s.gains ∧ (ps.foldl releaseLink s).hold = s.hold ∧
      (ps.foldl releaseLink s).stage = s.stage ∧ (ps.foldl releaseLink s).loop = s.loop ∧
      (ps.foldl releaseLink s).scan = s.scan ∧ (ps.foldl releaseLink s).telem = s.telem ∧
      (ps.foldl releaseLink s).port = s.port ∧ (ps.foldl releaseLink s).pending = s.pending := by
  induction ps generalizing s with
  | nil => simp
  | cons x xs ih => simp [ih]

@[simp] theorem releaseTransaction_leaves (tx : Transaction) (s : State) :
    (releaseTransaction tx s).variant = s.variant ∧ (releaseTransaction tx s).resetLow = s.resetLow ∧
      (releaseTransaction tx s).now = s.now ∧ (releaseTransaction tx s).receivers = s.receivers ∧
      (releaseTransaction tx s).sensors = s.sensors ∧ (releaseTransaction tx s).slopeMap = s.slopeMap ∧
      (releaseTransaction tx s).store = s.store ∧ (releaseTransaction tx s).slots = s.slots ∧
      (releaseTransaction tx s).lastClosed = s.lastClosed ∧ (releaseTransaction tx s).engine = s.engine ∧
      (releaseTransaction tx s).banks = s.banks ∧ (releaseTransaction tx s).dram = s.dram ∧
      (releaseTransaction tx s).loader = s.loader ∧ (releaseTransaction tx s).table = s.table ∧
      (releaseTransaction tx s).gains = s.gains ∧ (releaseTransaction tx s).hold = s.hold ∧
      (releaseTransaction tx s).stage = s.stage ∧ (releaseTransaction tx s).loop = s.loop ∧
      (releaseTransaction tx s).scan = s.scan ∧ (releaseTransaction tx s).telem = s.telem ∧
      (releaseTransaction tx s).port = s.port ∧ (releaseTransaction tx s).pending = s.pending := by
  simp [releaseTransaction]

@[simp] theorem dropTransaction_leaves (reason : DropReason) (s : State) :
    (dropTransaction reason s).variant = s.variant ∧ (dropTransaction reason s).resetLow = s.resetLow ∧
      (dropTransaction reason s).now = s.now ∧ (dropTransaction reason s).sensors = s.sensors ∧
      (dropTransaction reason s).slopeMap = s.slopeMap ∧ (dropTransaction reason s).store = s.store ∧
      (dropTransaction reason s).lastClosed = s.lastClosed ∧ (dropTransaction reason s).dram = s.dram ∧
      (dropTransaction reason s).loader = s.loader ∧ (dropTransaction reason s).gains = s.gains ∧
      (dropTransaction reason s).pending = s.pending := by
  unfold dropTransaction
  try dsimp only
  repeat' split
  all_goals simp

@[simp] theorem abandonShape_leaves (s : State) :
    (abandonShape s).variant = s.variant ∧ (abandonShape s).resetLow = s.resetLow ∧
      (abandonShape s).now = s.now ∧ (abandonShape s).receivers = s.receivers ∧
      (abandonShape s).sensors = s.sensors ∧ (abandonShape s).slopeMap = s.slopeMap ∧
      (abandonShape s).store = s.store ∧ (abandonShape s).slots = s.slots ∧
      (abandonShape s).lastClosed = s.lastClosed ∧ (abandonShape s).engine = s.engine ∧
      (abandonShape s).banks = s.banks ∧ (abandonShape s).dram = s.dram ∧
      (abandonShape s).loader = s.loader ∧ (abandonShape s).gains = s.gains ∧
      (abandonShape s).stage = s.stage ∧ (abandonShape s).scan = s.scan ∧
      (abandonShape s).telem = s.telem ∧ (abandonShape s).port = s.port ∧
      (abandonShape s).pending = s.pending := by
  unfold abandonShape
  try dsimp only
  repeat' split
  all_goals simp

@[simp] theorem applyLink_leaves (s : State) (p : TxLink) :
    (applyLink s p).variant = s.variant ∧ (applyLink s p).resetLow = s.resetLow ∧
      (applyLink s p).now = s.now ∧ (applyLink s p).receivers = s.receivers ∧
      (applyLink s p).sensors = s.sensors ∧ (applyLink s p).slopeMap = s.slopeMap ∧
      (applyLink s p).store = s.store ∧ (applyLink s p).slots = s.slots ∧
      (applyLink s p).lastClosed = s.lastClosed ∧ (applyLink s p).engine = s.engine ∧
      (applyLink s p).banks = s.banks ∧ (applyLink s p).dram = s.dram ∧
      (applyLink s p).loader = s.loader ∧ (applyLink s p).table = s.table ∧
      (applyLink s p).gains = s.gains ∧ (applyLink s p).hold = s.hold ∧
      (applyLink s p).stage = s.stage ∧ (applyLink s p).loop = s.loop ∧
      (applyLink s p).scan = s.scan ∧ (applyLink s p).telem = s.telem ∧
      (applyLink s p).port = s.port ∧ (applyLink s p).pending = s.pending := by
  simp [applyLink]

@[simp] theorem pulseBias_leaves (s : State) :
    (pulseBias s).variant = s.variant ∧ (pulseBias s).resetLow = s.resetLow ∧
      (pulseBias s).now = s.now ∧ (pulseBias s).receivers = s.receivers ∧
      (pulseBias s).sensors = s.sensors ∧ (pulseBias s).slopeMap = s.slopeMap ∧
      (pulseBias s).store = s.store ∧ (pulseBias s).slots = s.slots ∧
      (pulseBias s).lastClosed = s.lastClosed ∧ (pulseBias s).engine = s.engine ∧
      (pulseBias s).banks = s.banks ∧ (pulseBias s).dram = s.dram ∧
      (pulseBias s).loader = s.loader ∧ (pulseBias s).gains = s.gains ∧
      (pulseBias s).hold = s.hold ∧ (pulseBias s).stage = s.stage ∧
      (pulseBias s).drive = s.drive ∧ (pulseBias s).loop = s.loop ∧
      (pulseBias s).scan = s.scan ∧ (pulseBias s).telem = s.telem ∧
      (pulseBias s).port = s.port ∧ (pulseBias s).pending = s.pending := by
  unfold pulseBias
  try dsimp only
  repeat' split
  all_goals simp

@[simp] theorem foldl_applyLink_leaves (ps : List TxLink) (s : State) :
    (ps.foldl applyLink s).variant = s.variant ∧ (ps.foldl applyLink s).resetLow = s.resetLow ∧
      (ps.foldl applyLink s).now = s.now ∧ (ps.foldl applyLink s).receivers = s.receivers ∧
      (ps.foldl applyLink s).sensors = s.sensors ∧ (ps.foldl applyLink s).slopeMap = s.slopeMap ∧
      (ps.foldl applyLink s).store = s.store ∧ (ps.foldl applyLink s).slots = s.slots ∧
      (ps.foldl applyLink s).lastClosed = s.lastClosed ∧ (ps.foldl applyLink s).engine = s.engine ∧
      (ps.foldl applyLink s).banks = s.banks ∧ (ps.foldl applyLink s).dram = s.dram ∧
      (ps.foldl applyLink s).loader = s.loader ∧ (ps.foldl applyLink s).table = s.table ∧
      (ps.foldl applyLink s).gains = s.gains ∧ (ps.foldl applyLink s).hold = s.hold ∧
      (ps.foldl applyLink s).stage = s.stage ∧ (ps.foldl applyLink s).loop = s.loop ∧
      (ps.foldl applyLink s).scan = s.scan ∧ (ps.foldl applyLink s).telem = s.telem ∧
      (ps.foldl applyLink s).port = s.port ∧ (ps.foldl applyLink s).pending = s.pending := by
  induction ps generalizing s with
  | nil => simp
  | cons x xs ih => simp [ih]

@[simp] theorem updatePulse_leaves (tx : Transaction) (uncorrectable : List Nat) (s : State) :
    (updatePulse tx uncorrectable s).variant = s.variant ∧ (updatePulse tx uncorrectable s).resetLow = s.resetLow ∧
      (updatePulse tx uncorrectable s).now = s.now ∧ (updatePulse tx uncorrectable s).sensors = s.sensors ∧
      (updatePulse tx uncorrectable s).slopeMap = s.slopeMap ∧ (updatePulse tx uncorrectable s).store = s.store ∧
      (updatePulse tx uncorrectable s).lastClosed = s.lastClosed ∧ (updatePulse tx uncorrectable s).dram = s.dram ∧
      (updatePulse tx uncorrectable s).loader = s.loader ∧ (updatePulse tx uncorrectable s).gains = s.gains ∧
      (updatePulse tx uncorrectable s).pending = s.pending := by
  unfold updatePulse
  try dsimp only
  repeat' split
  all_goals simp

@[simp] theorem pulseIfLoaded_leaves (uncorrectable : List Nat) (s : State) :
    (pulseIfLoaded uncorrectable s).variant = s.variant ∧ (pulseIfLoaded uncorrectable s).resetLow = s.resetLow ∧
      (pulseIfLoaded uncorrectable s).now = s.now ∧ (pulseIfLoaded uncorrectable s).sensors = s.sensors ∧
      (pulseIfLoaded uncorrectable s).slopeMap = s.slopeMap ∧ (pulseIfLoaded uncorrectable s).store = s.store ∧
      (pulseIfLoaded uncorrectable s).lastClosed = s.lastClosed ∧ (pulseIfLoaded uncorrectable s).dram = s.dram ∧
      (pulseIfLoaded uncorrectable s).loader = s.loader ∧ (pulseIfLoaded uncorrectable s).gains = s.gains ∧
      (pulseIfLoaded uncorrectable s).pending = s.pending := by
  unfold pulseIfLoaded
  try dsimp only
  repeat' split
  all_goals simp

@[simp] theorem beginBiasSend_leaves (s : State) :
    (beginBiasSend s).variant = s.variant ∧ (beginBiasSend s).resetLow = s.resetLow ∧
      (beginBiasSend s).now = s.now ∧ (beginBiasSend s).receivers = s.receivers ∧
      (beginBiasSend s).sensors = s.sensors ∧ (beginBiasSend s).slopeMap = s.slopeMap ∧
      (beginBiasSend s).store = s.store ∧ (beginBiasSend s).slots = s.slots ∧
      (beginBiasSend s).lastClosed = s.lastClosed ∧ (beginBiasSend s).engine = s.engine ∧
      (beginBiasSend s).banks = s.banks ∧ (beginBiasSend s).dram = s.dram ∧
      (beginBiasSend s).loader = s.loader ∧ (beginBiasSend s).gains = s.gains ∧
      (beginBiasSend s).hold = s.hold ∧ (beginBiasSend s).stage = s.stage ∧
      (beginBiasSend s).scan = s.scan ∧ (beginBiasSend s).telem = s.telem ∧
      (beginBiasSend s).port = s.port ∧ (beginBiasSend s).pending = s.pending := by
  simp [beginBiasSend]

@[simp] theorem strayReply_leaves (l : Nat) (s : State) :
    (strayReply l s).variant = s.variant ∧ (strayReply l s).resetLow = s.resetLow ∧
      (strayReply l s).now = s.now ∧ (strayReply l s).receivers = s.receivers ∧
      (strayReply l s).sensors = s.sensors ∧ (strayReply l s).slopeMap = s.slopeMap ∧
      (strayReply l s).store = s.store ∧ (strayReply l s).slots = s.slots ∧
      (strayReply l s).lastClosed = s.lastClosed ∧ (strayReply l s).engine = s.engine ∧
      (strayReply l s).banks = s.banks ∧ (strayReply l s).dram = s.dram ∧
      (strayReply l s).loader = s.loader ∧ (strayReply l s).table = s.table ∧
      (strayReply l s).gains = s.gains ∧ (strayReply l s).hold = s.hold ∧
      (strayReply l s).stage = s.stage ∧ (strayReply l s).loop = s.loop ∧
      (strayReply l s).scan = s.scan ∧ (strayReply l s).telem = s.telem ∧
      (strayReply l s).port = s.port ∧ (strayReply l s).pending = s.pending := by
  simp [strayReply]

@[simp] theorem emptyQueues_leaves (s : State) :
    (emptyQueues s).variant = s.variant ∧ (emptyQueues s).resetLow = s.resetLow ∧
      (emptyQueues s).now = s.now ∧ (emptyQueues s).sensors = s.sensors ∧
      (emptyQueues s).slopeMap = s.slopeMap ∧ (emptyQueues s).store = s.store ∧
      (emptyQueues s).slots = s.slots ∧ (emptyQueues s).lastClosed = s.lastClosed ∧
      (emptyQueues s).engine = s.engine ∧ (emptyQueues s).banks = s.banks ∧
      (emptyQueues s).dram = s.dram ∧ (emptyQueues s).loader = s.loader ∧
      (emptyQueues s).table = s.table ∧ (emptyQueues s).gains = s.gains ∧
      (emptyQueues s).hold = s.hold ∧ (emptyQueues s).stage = s.stage ∧
      (emptyQueues s).drive = s.drive ∧ (emptyQueues s).loop = s.loop ∧
      (emptyQueues s).scan = s.scan ∧ (emptyQueues s).telem = s.telem ∧
      (emptyQueues s).port = s.port ∧ (emptyQueues s).pending = s.pending := by
  simp [emptyQueues]

@[simp] theorem freeSlots_leaves (s : State) :
    (freeSlots s).variant = s.variant ∧ (freeSlots s).resetLow = s.resetLow ∧
      (freeSlots s).now = s.now ∧ (freeSlots s).sensors = s.sensors ∧
      (freeSlots s).slopeMap = s.slopeMap ∧ (freeSlots s).store = s.store ∧
      (freeSlots s).dram = s.dram ∧ (freeSlots s).loader = s.loader ∧
      (freeSlots s).table = s.table ∧ (freeSlots s).gains = s.gains ∧
      (freeSlots s).hold = s.hold ∧ (freeSlots s).stage = s.stage ∧
      (freeSlots s).drive = s.drive ∧ (freeSlots s).loop = s.loop ∧
      (freeSlots s).scan = s.scan ∧ (freeSlots s).port = s.port ∧
      (freeSlots s).pending = s.pending := by
  simp [freeSlots]

@[simp] theorem enterRest_leaves (entered : LoopState) (cause : LoopCause) (frame : Option Frame) (scanCause : EndCause) (s : State) :
    (enterRest entered cause frame scanCause s).variant = s.variant ∧ (enterRest entered cause frame scanCause s).resetLow = s.resetLow ∧
      (enterRest entered cause frame scanCause s).now = s.now ∧ (enterRest entered cause frame scanCause s).sensors = s.sensors ∧
      (enterRest entered cause frame scanCause s).slopeMap = s.slopeMap ∧ (enterRest entered cause frame scanCause s).store = s.store ∧
      (enterRest entered cause frame scanCause s).dram = s.dram ∧ (enterRest entered cause frame scanCause s).loader = s.loader ∧
      (enterRest entered cause frame scanCause s).gains = s.gains ∧ (enterRest entered cause frame scanCause s).pending = s.pending := by
  simp [enterRest]

@[simp] theorem enterStopped_leaves (s : State) :
    (enterStopped s).variant = s.variant ∧ (enterStopped s).resetLow = s.resetLow ∧
      (enterStopped s).now = s.now ∧ (enterStopped s).sensors = s.sensors ∧
      (enterStopped s).slopeMap = s.slopeMap ∧ (enterStopped s).store = s.store ∧
      (enterStopped s).dram = s.dram ∧ (enterStopped s).loader = s.loader ∧
      (enterStopped s).gains = s.gains ∧ (enterStopped s).pending = s.pending := by
  simp [enterStopped]

@[simp] theorem enterSafe_leaves (cause : LoopCause) (frame : Option Frame) (s : State) :
    (enterSafe cause frame s).variant = s.variant ∧ (enterSafe cause frame s).resetLow = s.resetLow ∧
      (enterSafe cause frame s).now = s.now ∧ (enterSafe cause frame s).sensors = s.sensors ∧
      (enterSafe cause frame s).slopeMap = s.slopeMap ∧ (enterSafe cause frame s).store = s.store ∧
      (enterSafe cause frame s).dram = s.dram ∧ (enterSafe cause frame s).loader = s.loader ∧
      (enterSafe cause frame s).gains = s.gains ∧ (enterSafe cause frame s).pending = s.pending := by
  unfold enterSafe
  try dsimp only
  repeat' split
  all_goals simp

@[simp] theorem dropAndSafe_leaves (order : SafeOrder) (reason : DropReason) (cause : LoopCause) (frame : Option Frame) (s : State) :
    (dropAndSafe order reason cause frame id s).variant = s.variant ∧ (dropAndSafe order reason cause frame id s).resetLow = s.resetLow ∧
      (dropAndSafe order reason cause frame id s).now = s.now ∧ (dropAndSafe order reason cause frame id s).sensors = s.sensors ∧
      (dropAndSafe order reason cause frame id s).slopeMap = s.slopeMap ∧ (dropAndSafe order reason cause frame id s).store = s.store ∧
      (dropAndSafe order reason cause frame id s).dram = s.dram ∧ (dropAndSafe order reason cause frame id s).loader = s.loader ∧
      (dropAndSafe order reason cause frame id s).gains = s.gains ∧ (dropAndSafe order reason cause frame id s).pending = s.pending := by
  unfold dropAndSafe
  try dsimp only
  repeat' split
  all_goals simp

@[simp] theorem replyWith_leaves (env : Envelope) (status : Status) (clamped : Bool) (payload : List Byte) (s : State) :
    (replyWith env status clamped payload s).variant = s.variant ∧ (replyWith env status clamped payload s).resetLow = s.resetLow ∧
      (replyWith env status clamped payload s).now = s.now ∧ (replyWith env status clamped payload s).receivers = s.receivers ∧
      (replyWith env status clamped payload s).sensors = s.sensors ∧ (replyWith env status clamped payload s).slopeMap = s.slopeMap ∧
      (replyWith env status clamped payload s).store = s.store ∧ (replyWith env status clamped payload s).slots = s.slots ∧
      (replyWith env status clamped payload s).lastClosed = s.lastClosed ∧ (replyWith env status clamped payload s).engine = s.engine ∧
      (replyWith env status clamped payload s).banks = s.banks ∧ (replyWith env status clamped payload s).dram = s.dram ∧
      (replyWith env status clamped payload s).loader = s.loader ∧ (replyWith env status clamped payload s).table = s.table ∧
      (replyWith env status clamped payload s).gains = s.gains ∧ (replyWith env status clamped payload s).hold = s.hold ∧
      (replyWith env status clamped payload s).stage = s.stage ∧ (replyWith env status clamped payload s).drive = s.drive ∧
      (replyWith env status clamped payload s).loop = s.loop ∧ (replyWith env status clamped payload s).scan = s.scan ∧
      (replyWith env status clamped payload s).telem = s.telem ∧ (replyWith env status clamped payload s).pending = s.pending := by
  unfold replyWith
  try dsimp only
  repeat' split
  all_goals simp

@[simp] theorem reportRefusal_leaves (env : Envelope) (code : Nat) (status : Status) (s : State) :
    (reportRefusal env code status s).variant = s.variant ∧ (reportRefusal env code status s).resetLow = s.resetLow ∧
      (reportRefusal env code status s).now = s.now ∧ (reportRefusal env code status s).receivers = s.receivers ∧
      (reportRefusal env code status s).sensors = s.sensors ∧ (reportRefusal env code status s).slopeMap = s.slopeMap ∧
      (reportRefusal env code status s).store = s.store ∧ (reportRefusal env code status s).slots = s.slots ∧
      (reportRefusal env code status s).lastClosed = s.lastClosed ∧ (reportRefusal env code status s).engine = s.engine ∧
      (reportRefusal env code status s).banks = s.banks ∧ (reportRefusal env code status s).dram = s.dram ∧
      (reportRefusal env code status s).loader = s.loader ∧ (reportRefusal env code status s).table = s.table ∧
      (reportRefusal env code status s).gains = s.gains ∧ (reportRefusal env code status s).hold = s.hold ∧
      (reportRefusal env code status s).stage = s.stage ∧ (reportRefusal env code status s).drive = s.drive ∧
      (reportRefusal env code status s).loop = s.loop ∧ (reportRefusal env code status s).scan = s.scan ∧
      (reportRefusal env code status s).telem = s.telem ∧ (reportRefusal env code status s).pending = s.pending := by
  unfold reportRefusal
  try dsimp only
  repeat' split
  all_goals simp

@[simp] theorem enterFault_leaves (env : Envelope) (code : Nat) (status : Status) (position : Nat) (detail : Detail) (value : Option Int) (owner : Option Nat) (s : State) :
    (enterFault env code status position detail value owner s).variant = s.variant ∧ (enterFault env code status position detail value owner s).resetLow = s.resetLow ∧
      (enterFault env code status position detail value owner s).now = s.now ∧ (enterFault env code status position detail value owner s).receivers = s.receivers ∧
      (enterFault env code status position detail value owner s).sensors = s.sensors ∧ (enterFault env code status position detail value owner s).slopeMap = s.slopeMap ∧
      (enterFault env code status position detail value owner s).store = s.store ∧ (enterFault env code status position detail value owner s).slots = s.slots ∧
      (enterFault env code status position detail value owner s).lastClosed = s.lastClosed ∧ (enterFault env code status position detail value owner s).engine = s.engine ∧
      (enterFault env code status position detail value owner s).banks = s.banks ∧ (enterFault env code status position detail value owner s).dram = s.dram ∧
      (enterFault env code status position detail value owner s).loader = s.loader ∧ (enterFault env code status position detail value owner s).table = s.table ∧
      (enterFault env code status position detail value owner s).gains = s.gains ∧ (enterFault env code status position detail value owner s).hold = s.hold ∧
      (enterFault env code status position detail value owner s).stage = s.stage ∧ (enterFault env code status position detail value owner s).drive = s.drive ∧
      (enterFault env code status position detail value owner s).loop = s.loop ∧ (enterFault env code status position detail value owner s).scan = s.scan ∧
      (enterFault env code status position detail value owner s).telem = s.telem ∧ (enterFault env code status position detail value owner s).pending = s.pending := by
  simp [enterFault]

@[simp] theorem takeUnknown_leaves (env : Envelope) (code : Nat) (s : State) :
    (takeUnknown env code s).variant = s.variant ∧ (takeUnknown env code s).resetLow = s.resetLow ∧
      (takeUnknown env code s).now = s.now ∧ (takeUnknown env code s).receivers = s.receivers ∧
      (takeUnknown env code s).sensors = s.sensors ∧ (takeUnknown env code s).slopeMap = s.slopeMap ∧
      (takeUnknown env code s).store = s.store ∧ (takeUnknown env code s).slots = s.slots ∧
      (takeUnknown env code s).lastClosed = s.lastClosed ∧ (takeUnknown env code s).engine = s.engine ∧
      (takeUnknown env code s).banks = s.banks ∧ (takeUnknown env code s).dram = s.dram ∧
      (takeUnknown env code s).loader = s.loader ∧ (takeUnknown env code s).table = s.table ∧
      (takeUnknown env code s).gains = s.gains ∧ (takeUnknown env code s).hold = s.hold ∧
      (takeUnknown env code s).stage = s.stage ∧ (takeUnknown env code s).drive = s.drive ∧
      (takeUnknown env code s).loop = s.loop ∧ (takeUnknown env code s).scan = s.scan ∧
      (takeUnknown env code s).telem = s.telem ∧ (takeUnknown env code s).pending = s.pending := by
  simp [takeUnknown, conclude, refuse]

@[simp] theorem lineDown_leaves (n : Nat) (s : State) :
    (lineDown n s).variant = s.variant ∧ (lineDown n s).resetLow = s.resetLow ∧
      (lineDown n s).now = s.now ∧ (lineDown n s).sensors = s.sensors ∧
      (lineDown n s).slopeMap = s.slopeMap ∧ (lineDown n s).store = s.store ∧
      (lineDown n s).slots = s.slots ∧ (lineDown n s).lastClosed = s.lastClosed ∧
      (lineDown n s).engine = s.engine ∧ (lineDown n s).banks = s.banks ∧
      (lineDown n s).dram = s.dram ∧ (lineDown n s).loader = s.loader ∧
      (lineDown n s).table = s.table ∧ (lineDown n s).gains = s.gains ∧
      (lineDown n s).hold = s.hold ∧ (lineDown n s).stage = s.stage ∧
      (lineDown n s).drive = s.drive ∧ (lineDown n s).loop = s.loop ∧
      (lineDown n s).scan = s.scan ∧ (lineDown n s).telem = s.telem ∧
      (lineDown n s).pending = s.pending := by
  unfold lineDown
  try dsimp only
  repeat' split
  all_goals simp

@[simp] theorem lockGained_leaves (n : Nat) (s : State) :
    (lockGained n s).variant = s.variant ∧ (lockGained n s).resetLow = s.resetLow ∧
      (lockGained n s).now = s.now ∧ (lockGained n s).sensors = s.sensors ∧
      (lockGained n s).slopeMap = s.slopeMap ∧ (lockGained n s).store = s.store ∧
      (lockGained n s).slots = s.slots ∧ (lockGained n s).lastClosed = s.lastClosed ∧
      (lockGained n s).engine = s.engine ∧ (lockGained n s).banks = s.banks ∧
      (lockGained n s).dram = s.dram ∧ (lockGained n s).loader = s.loader ∧
      (lockGained n s).table = s.table ∧ (lockGained n s).gains = s.gains ∧
      (lockGained n s).hold = s.hold ∧ (lockGained n s).stage = s.stage ∧
      (lockGained n s).drive = s.drive ∧ (lockGained n s).loop = s.loop ∧
      (lockGained n s).scan = s.scan ∧ (lockGained n s).telem = s.telem ∧
      (lockGained n s).port = s.port ∧ (lockGained n s).pending = s.pending := by
  unfold lockGained
  try dsimp only
  repeat' split
  all_goals simp

@[simp] theorem cutReception_leaves (n : Nat) (s : State) :
    (cutReception n s).variant = s.variant ∧ (cutReception n s).resetLow = s.resetLow ∧
      (cutReception n s).now = s.now ∧ (cutReception n s).sensors = s.sensors ∧
      (cutReception n s).slopeMap = s.slopeMap ∧ (cutReception n s).store = s.store ∧
      (cutReception n s).slots = s.slots ∧ (cutReception n s).lastClosed = s.lastClosed ∧
      (cutReception n s).engine = s.engine ∧ (cutReception n s).banks = s.banks ∧
      (cutReception n s).dram = s.dram ∧ (cutReception n s).loader = s.loader ∧
      (cutReception n s).table = s.table ∧ (cutReception n s).gains = s.gains ∧
      (cutReception n s).hold = s.hold ∧ (cutReception n s).stage = s.stage ∧
      (cutReception n s).drive = s.drive ∧ (cutReception n s).loop = s.loop ∧
      (cutReception n s).scan = s.scan ∧ (cutReception n s).telem = s.telem ∧
      (cutReception n s).port = s.port ∧ (cutReception n s).pending = s.pending := by
  unfold cutReception
  try dsimp only
  repeat' split
  all_goals simp

@[simp] theorem beginReception_leaves (n : Nat) (gathered : List Byte) (s : State) :
    (beginReception n gathered s).variant = s.variant ∧ (beginReception n gathered s).resetLow = s.resetLow ∧
      (beginReception n gathered s).now = s.now ∧ (beginReception n gathered s).sensors = s.sensors ∧
      (beginReception n gathered s).slopeMap = s.slopeMap ∧ (beginReception n gathered s).store = s.store ∧
      (beginReception n gathered s).slots = s.slots ∧ (beginReception n gathered s).lastClosed = s.lastClosed ∧
      (beginReception n gathered s).engine = s.engine ∧ (beginReception n gathered s).banks = s.banks ∧
      (beginReception n gathered s).dram = s.dram ∧ (beginReception n gathered s).loader = s.loader ∧
      (beginReception n gathered s).table = s.table ∧ (beginReception n gathered s).gains = s.gains ∧
      (beginReception n gathered s).hold = s.hold ∧ (beginReception n gathered s).stage = s.stage ∧
      (beginReception n gathered s).drive = s.drive ∧ (beginReception n gathered s).loop = s.loop ∧
      (beginReception n gathered s).scan = s.scan ∧ (beginReception n gathered s).telem = s.telem ∧
      (beginReception n gathered s).port = s.port ∧ (beginReception n gathered s).pending = s.pending := by
  unfold beginReception
  try dsimp only
  repeat' split
  all_goals simp

@[simp] theorem joinQueue_leaves (n : Nat) (segment : Segment) (s : State) :
    (joinQueue n segment s).variant = s.variant ∧ (joinQueue n segment s).resetLow = s.resetLow ∧
      (joinQueue n segment s).now = s.now ∧ (joinQueue n segment s).sensors = s.sensors ∧
      (joinQueue n segment s).slopeMap = s.slopeMap ∧ (joinQueue n segment s).store = s.store ∧
      (joinQueue n segment s).slots = s.slots ∧ (joinQueue n segment s).lastClosed = s.lastClosed ∧
      (joinQueue n segment s).engine = s.engine ∧ (joinQueue n segment s).banks = s.banks ∧
      (joinQueue n segment s).dram = s.dram ∧ (joinQueue n segment s).loader = s.loader ∧
      (joinQueue n segment s).table = s.table ∧ (joinQueue n segment s).gains = s.gains ∧
      (joinQueue n segment s).hold = s.hold ∧ (joinQueue n segment s).stage = s.stage ∧
      (joinQueue n segment s).drive = s.drive ∧ (joinQueue n segment s).loop = s.loop ∧
      (joinQueue n segment s).scan = s.scan ∧ (joinQueue n segment s).telem = s.telem ∧
      (joinQueue n segment s).port = s.port ∧ (joinQueue n segment s).pending = s.pending := by
  unfold joinQueue
  try dsimp only
  repeat' split
  all_goals simp

@[simp] theorem arrive_leaves (n : Nat) (bytes : List Byte) (s : State) :
    (arrive n bytes s).variant = s.variant ∧ (arrive n bytes s).resetLow = s.resetLow ∧
      (arrive n bytes s).now = s.now ∧ (arrive n bytes s).sensors = s.sensors ∧
      (arrive n bytes s).slopeMap = s.slopeMap ∧ (arrive n bytes s).store = s.store ∧
      (arrive n bytes s).dram = s.dram ∧ (arrive n bytes s).loader = s.loader ∧
      (arrive n bytes s).gains = s.gains ∧ (arrive n bytes s).pending = s.pending := by
  unfold arrive
  try dsimp only
  repeat' split
  all_goals simp

@[simp] theorem workNextSlope_leaves (w : SegmentWork) (slope : Int) (rest : List Int) (uncorrectable : List Nat) (s : State) :
    (workNextSlope w slope rest uncorrectable s).variant = s.variant ∧ (workNextSlope w slope rest uncorrectable s).resetLow = s.resetLow ∧
      (workNextSlope w slope rest uncorrectable s).now = s.now ∧ (workNextSlope w slope rest uncorrectable s).sensors = s.sensors ∧
      (workNextSlope w slope rest uncorrectable s).slopeMap = s.slopeMap ∧ (workNextSlope w slope rest uncorrectable s).dram = s.dram ∧
      (workNextSlope w slope rest uncorrectable s).loader = s.loader ∧ (workNextSlope w slope rest uncorrectable s).gains = s.gains ∧
      (workNextSlope w slope rest uncorrectable s).pending = s.pending := by
  unfold workNextSlope
  try dsimp only
  repeat' split
  all_goals simp

@[simp] theorem checkShape_leaves (w : StageFrame) (s : State) :
    (checkShape w s).variant = s.variant ∧ (checkShape w s).resetLow = s.resetLow ∧
      (checkShape w s).now = s.now ∧ (checkShape w s).sensors = s.sensors ∧
      (checkShape w s).slopeMap = s.slopeMap ∧ (checkShape w s).store = s.store ∧
      (checkShape w s).dram = s.dram ∧ (checkShape w s).loader = s.loader ∧
      (checkShape w s).gains = s.gains ∧ (checkShape w s).pending = s.pending := by
  unfold checkShape
  try dsimp only
  repeat' split
  all_goals simp

@[simp] theorem touchLoader_leaves (s : State) :
    (touchLoader s).variant = s.variant ∧ (touchLoader s).resetLow = s.resetLow ∧
      (touchLoader s).now = s.now ∧ (touchLoader s).receivers = s.receivers ∧
      (touchLoader s).sensors = s.sensors ∧ (touchLoader s).slopeMap = s.slopeMap ∧
      (touchLoader s).store = s.store ∧ (touchLoader s).slots = s.slots ∧
      (touchLoader s).lastClosed = s.lastClosed ∧ (touchLoader s).engine = s.engine ∧
      (touchLoader s).banks = s.banks ∧ (touchLoader s).dram = s.dram ∧
      (touchLoader s).table = s.table ∧ (touchLoader s).gains = s.gains ∧
      (touchLoader s).hold = s.hold ∧ (touchLoader s).stage = s.stage ∧
      (touchLoader s).drive = s.drive ∧ (touchLoader s).loop = s.loop ∧
      (touchLoader s).scan = s.scan ∧ (touchLoader s).telem = s.telem ∧
      (touchLoader s).port = s.port ∧ (touchLoader s).pending = s.pending := by
  simp [touchLoader]

@[simp] theorem openLoad_leaves (b : Nat) (rows : Nat) (columns : Nat) (shift : Nat) (block : Nat) (owner : Nat) (s : State) :
    (openLoad b rows columns shift block owner s).variant = s.variant ∧ (openLoad b rows columns shift block owner s).resetLow = s.resetLow ∧
      (openLoad b rows columns shift block owner s).now = s.now ∧ (openLoad b rows columns shift block owner s).receivers = s.receivers ∧
      (openLoad b rows columns shift block owner s).sensors = s.sensors ∧ (openLoad b rows columns shift block owner s).slopeMap = s.slopeMap ∧
      (openLoad b rows columns shift block owner s).store = s.store ∧ (openLoad b rows columns shift block owner s).slots = s.slots ∧
      (openLoad b rows columns shift block owner s).lastClosed = s.lastClosed ∧ (openLoad b rows columns shift block owner s).engine = s.engine ∧
      (openLoad b rows columns shift block owner s).dram = s.dram ∧ (openLoad b rows columns shift block owner s).table = s.table ∧
      (openLoad b rows columns shift block owner s).gains = s.gains ∧ (openLoad b rows columns shift block owner s).hold = s.hold ∧
      (openLoad b rows columns shift block owner s).stage = s.stage ∧ (openLoad b rows columns shift block owner s).drive = s.drive ∧
      (openLoad b rows columns shift block owner s).loop = s.loop ∧ (openLoad b rows columns shift block owner s).scan = s.scan ∧
      (openLoad b rows columns shift block owner s).telem = s.telem ∧ (openLoad b rows columns shift block owner s).port = s.port ∧
      (openLoad b rows columns shift block owner s).pending = s.pending := by
  simp [openLoad]

@[simp] theorem emptyOldLoad_leaves (old : Nat) (s : State) :
    (emptyOldLoad old s).variant = s.variant ∧ (emptyOldLoad old s).resetLow = s.resetLow ∧
      (emptyOldLoad old s).now = s.now ∧ (emptyOldLoad old s).receivers = s.receivers ∧
      (emptyOldLoad old s).sensors = s.sensors ∧ (emptyOldLoad old s).slopeMap = s.slopeMap ∧
      (emptyOldLoad old s).store = s.store ∧ (emptyOldLoad old s).slots = s.slots ∧
      (emptyOldLoad old s).lastClosed = s.lastClosed ∧ (emptyOldLoad old s).engine = s.engine ∧
      (emptyOldLoad old s).dram = s.dram ∧ (emptyOldLoad old s).loader = s.loader ∧
      (emptyOldLoad old s).table = s.table ∧ (emptyOldLoad old s).gains = s.gains ∧
      (emptyOldLoad old s).hold = s.hold ∧ (emptyOldLoad old s).stage = s.stage ∧
      (emptyOldLoad old s).drive = s.drive ∧ (emptyOldLoad old s).loop = s.loop ∧
      (emptyOldLoad old s).scan = s.scan ∧ (emptyOldLoad old s).telem = s.telem ∧
      (emptyOldLoad old s).port = s.port ∧ (emptyOldLoad old s).pending = s.pending := by
  simp [emptyOldLoad]

@[simp] theorem commitColumn_leaves (b : Nat) (column : Nat) (values : List Int) (s : State) :
    (commitColumn b column values s).variant = s.variant ∧ (commitColumn b column values s).resetLow = s.resetLow ∧
      (commitColumn b column values s).now = s.now ∧ (commitColumn b column values s).receivers = s.receivers ∧
      (commitColumn b column values s).sensors = s.sensors ∧ (commitColumn b column values s).slopeMap = s.slopeMap ∧
      (commitColumn b column values s).store = s.store ∧ (commitColumn b column values s).slots = s.slots ∧
      (commitColumn b column values s).lastClosed = s.lastClosed ∧ (commitColumn b column values s).engine = s.engine ∧
      (commitColumn b column values s).loader = s.loader ∧ (commitColumn b column values s).table = s.table ∧
      (commitColumn b column values s).gains = s.gains ∧ (commitColumn b column values s).hold = s.hold ∧
      (commitColumn b column values s).stage = s.stage ∧ (commitColumn b column values s).drive = s.drive ∧
      (commitColumn b column values s).loop = s.loop ∧ (commitColumn b column values s).scan = s.scan ∧
      (commitColumn b column values s).telem = s.telem ∧ (commitColumn b column values s).port = s.port ∧
      (commitColumn b column values s).pending = s.pending := by
  simp [commitColumn]

@[simp] theorem flushBuffer_leaves (b : Nat) (name : BufferName) (s : State) :
    (flushBuffer b name s).variant = s.variant ∧ (flushBuffer b name s).resetLow = s.resetLow ∧
      (flushBuffer b name s).now = s.now ∧ (flushBuffer b name s).receivers = s.receivers ∧
      (flushBuffer b name s).sensors = s.sensors ∧ (flushBuffer b name s).slopeMap = s.slopeMap ∧
      (flushBuffer b name s).store = s.store ∧ (flushBuffer b name s).slots = s.slots ∧
      (flushBuffer b name s).lastClosed = s.lastClosed ∧ (flushBuffer b name s).engine = s.engine ∧
      (flushBuffer b name s).table = s.table ∧ (flushBuffer b name s).gains = s.gains ∧
      (flushBuffer b name s).hold = s.hold ∧ (flushBuffer b name s).stage = s.stage ∧
      (flushBuffer b name s).drive = s.drive ∧ (flushBuffer b name s).loop = s.loop ∧
      (flushBuffer b name s).scan = s.scan ∧ (flushBuffer b name s).telem = s.telem ∧
      (flushBuffer b name s).port = s.port ∧ (flushBuffer b name s).pending = s.pending := by
  unfold flushBuffer
  try dsimp only
  repeat' split
  all_goals simp

@[simp] theorem flushBoth_leaves (b : Nat) (s : State) :
    (flushBoth b s).variant = s.variant ∧ (flushBoth b s).resetLow = s.resetLow ∧
      (flushBoth b s).now = s.now ∧ (flushBoth b s).receivers = s.receivers ∧
      (flushBoth b s).sensors = s.sensors ∧ (flushBoth b s).slopeMap = s.slopeMap ∧
      (flushBoth b s).store = s.store ∧ (flushBoth b s).slots = s.slots ∧
      (flushBoth b s).lastClosed = s.lastClosed ∧ (flushBoth b s).engine = s.engine ∧
      (flushBoth b s).table = s.table ∧ (flushBoth b s).gains = s.gains ∧
      (flushBoth b s).hold = s.hold ∧ (flushBoth b s).stage = s.stage ∧
      (flushBoth b s).drive = s.drive ∧ (flushBoth b s).loop = s.loop ∧
      (flushBoth b s).scan = s.scan ∧ (flushBoth b s).telem = s.telem ∧
      (flushBoth b s).port = s.port ∧ (flushBoth b s).pending = s.pending := by
  simp [flushBoth]

@[simp] theorem commitIfWhole_leaves (b : Nat) (name : BufferName) (s : State) :
    (commitIfWhole b name s).variant = s.variant ∧ (commitIfWhole b name s).resetLow = s.resetLow ∧
      (commitIfWhole b name s).now = s.now ∧ (commitIfWhole b name s).receivers = s.receivers ∧
      (commitIfWhole b name s).sensors = s.sensors ∧ (commitIfWhole b name s).slopeMap = s.slopeMap ∧
      (commitIfWhole b name s).store = s.store ∧ (commitIfWhole b name s).slots = s.slots ∧
      (commitIfWhole b name s).lastClosed = s.lastClosed ∧ (commitIfWhole b name s).engine = s.engine ∧
      (commitIfWhole b name s).table = s.table ∧ (commitIfWhole b name s).gains = s.gains ∧
      (commitIfWhole b name s).hold = s.hold ∧ (commitIfWhole b name s).stage = s.stage ∧
      (commitIfWhole b name s).drive = s.drive ∧ (commitIfWhole b name s).loop = s.loop ∧
      (commitIfWhole b name s).scan = s.scan ∧ (commitIfWhole b name s).telem = s.telem ∧
      (commitIfWhole b name s).port = s.port ∧ (commitIfWhole b name s).pending = s.pending := by
  unfold commitIfWhole
  try dsimp only
  repeat' split
  all_goals simp

@[simp] theorem fillBuffer_leaves (b : Nat) (name : BufferName) (x : Buffer) (firstRow : Nat) (coefficients : List Int) (s : State) :
    (fillBuffer b name x firstRow coefficients s).variant = s.variant ∧ (fillBuffer b name x firstRow coefficients s).resetLow = s.resetLow ∧
      (fillBuffer b name x firstRow coefficients s).now = s.now ∧ (fillBuffer b name x firstRow coefficients s).receivers = s.receivers ∧
      (fillBuffer b name x firstRow coefficients s).sensors = s.sensors ∧ (fillBuffer b name x firstRow coefficients s).slopeMap = s.slopeMap ∧
      (fillBuffer b name x firstRow coefficients s).store = s.store ∧ (fillBuffer b name x firstRow coefficients s).slots = s.slots ∧
      (fillBuffer b name x firstRow coefficients s).lastClosed = s.lastClosed ∧ (fillBuffer b name x firstRow coefficients s).engine = s.engine ∧
      (fillBuffer b name x firstRow coefficients s).table = s.table ∧ (fillBuffer b name x firstRow coefficients s).gains = s.gains ∧
      (fillBuffer b name x firstRow coefficients s).hold = s.hold ∧ (fillBuffer b name x firstRow coefficients s).stage = s.stage ∧
      (fillBuffer b name x firstRow coefficients s).drive = s.drive ∧ (fillBuffer b name x firstRow coefficients s).loop = s.loop ∧
      (fillBuffer b name x firstRow coefficients s).scan = s.scan ∧ (fillBuffer b name x firstRow coefficients s).telem = s.telem ∧
      (fillBuffer b name x firstRow coefficients s).port = s.port ∧ (fillBuffer b name x firstRow coefficients s).pending = s.pending := by
  simp [fillBuffer]

@[simp] theorem placeCoefficients_leaves (b : Nat) (column : Nat) (firstRow : Nat) (coefficients : List Int) (s : State) :
    (placeCoefficients b column firstRow coefficients s).variant = s.variant ∧ (placeCoefficients b column firstRow coefficients s).resetLow = s.resetLow ∧
      (placeCoefficients b column firstRow coefficients s).now = s.now ∧ (placeCoefficients b column firstRow coefficients s).receivers = s.receivers ∧
      (placeCoefficients b column firstRow coefficients s).sensors = s.sensors ∧ (placeCoefficients b column firstRow coefficients s).slopeMap = s.slopeMap ∧
      (placeCoefficients b column firstRow coefficients s).store = s.store ∧ (placeCoefficients b column firstRow coefficients s).slots = s.slots ∧
      (placeCoefficients b column firstRow coefficients s).lastClosed = s.lastClosed ∧ (placeCoefficients b column firstRow coefficients s).engine = s.engine ∧
      (placeCoefficients b column firstRow coefficients s).table = s.table ∧ (placeCoefficients b column firstRow coefficients s).gains = s.gains ∧
      (placeCoefficients b column firstRow coefficients s).hold = s.hold ∧ (placeCoefficients b column firstRow coefficients s).stage = s.stage ∧
      (placeCoefficients b column firstRow coefficients s).drive = s.drive ∧ (placeCoefficients b column firstRow coefficients s).loop = s.loop ∧
      (placeCoefficients b column firstRow coefficients s).scan = s.scan ∧ (placeCoefficients b column firstRow coefficients s).telem = s.telem ∧
      (placeCoefficients b column firstRow coefficients s).port = s.port ∧ (placeCoefficients b column firstRow coefficients s).pending = s.pending := by
  unfold placeCoefficients
  try dsimp only
  repeat' split
  all_goals simp

@[simp] theorem beginVerify_leaves (b : Nat) (owner : Nat) (expected : BitVec 32) (s : State) :
    (beginVerify b owner expected s).variant = s.variant ∧ (beginVerify b owner expected s).resetLow = s.resetLow ∧
      (beginVerify b owner expected s).now = s.now ∧ (beginVerify b owner expected s).receivers = s.receivers ∧
      (beginVerify b owner expected s).sensors = s.sensors ∧ (beginVerify b owner expected s).slopeMap = s.slopeMap ∧
      (beginVerify b owner expected s).store = s.store ∧ (beginVerify b owner expected s).slots = s.slots ∧
      (beginVerify b owner expected s).lastClosed = s.lastClosed ∧ (beginVerify b owner expected s).engine = s.engine ∧
      (beginVerify b owner expected s).dram = s.dram ∧ (beginVerify b owner expected s).table = s.table ∧
      (beginVerify b owner expected s).gains = s.gains ∧ (beginVerify b owner expected s).hold = s.hold ∧
      (beginVerify b owner expected s).stage = s.stage ∧ (beginVerify b owner expected s).drive = s.drive ∧
      (beginVerify b owner expected s).loop = s.loop ∧ (beginVerify b owner expected s).scan = s.scan ∧
      (beginVerify b owner expected s).telem = s.telem ∧ (beginVerify b owner expected s).port = s.port ∧
      (beginVerify b owner expected s).pending = s.pending := by
  simp [beginVerify]

@[simp] theorem idleLoader_leaves (s : State) :
    (idleLoader s).variant = s.variant ∧ (idleLoader s).resetLow = s.resetLow ∧
      (idleLoader s).now = s.now ∧ (idleLoader s).receivers = s.receivers ∧
      (idleLoader s).sensors = s.sensors ∧ (idleLoader s).slopeMap = s.slopeMap ∧
      (idleLoader s).store = s.store ∧ (idleLoader s).slots = s.slots ∧
      (idleLoader s).lastClosed = s.lastClosed ∧ (idleLoader s).engine = s.engine ∧
      (idleLoader s).banks = s.banks ∧ (idleLoader s).dram = s.dram ∧
      (idleLoader s).table = s.table ∧ (idleLoader s).gains = s.gains ∧
      (idleLoader s).hold = s.hold ∧ (idleLoader s).stage = s.stage ∧
      (idleLoader s).drive = s.drive ∧ (idleLoader s).loop = s.loop ∧
      (idleLoader s).scan = s.scan ∧ (idleLoader s).telem = s.telem ∧
      (idleLoader s).port = s.port ∧ (idleLoader s).pending = s.pending := by
  simp [idleLoader]

@[simp] theorem endVerify_leaves (b : Nat) (owner : Nat) (s : State) :
    (endVerify b owner s).variant = s.variant ∧ (endVerify b owner s).resetLow = s.resetLow ∧
      (endVerify b owner s).now = s.now ∧ (endVerify b owner s).receivers = s.receivers ∧
      (endVerify b owner s).sensors = s.sensors ∧ (endVerify b owner s).slopeMap = s.slopeMap ∧
      (endVerify b owner s).store = s.store ∧ (endVerify b owner s).slots = s.slots ∧
      (endVerify b owner s).lastClosed = s.lastClosed ∧ (endVerify b owner s).engine = s.engine ∧
      (endVerify b owner s).dram = s.dram ∧ (endVerify b owner s).table = s.table ∧
      (endVerify b owner s).gains = s.gains ∧ (endVerify b owner s).hold = s.hold ∧
      (endVerify b owner s).stage = s.stage ∧ (endVerify b owner s).drive = s.drive ∧
      (endVerify b owner s).loop = s.loop ∧ (endVerify b owner s).scan = s.scan ∧
      (endVerify b owner s).telem = s.telem ∧ (endVerify b owner s).pending = s.pending := by
  unfold endVerify
  try dsimp only
  repeat' split
  all_goals simp

@[simp] theorem failVerify_leaves (b : Nat) (owner : Nat) (j : Nat) (s : State) :
    (failVerify b owner j s).variant = s.variant ∧ (failVerify b owner j s).resetLow = s.resetLow ∧
      (failVerify b owner j s).now = s.now ∧ (failVerify b owner j s).receivers = s.receivers ∧
      (failVerify b owner j s).sensors = s.sensors ∧ (failVerify b owner j s).slopeMap = s.slopeMap ∧
      (failVerify b owner j s).store = s.store ∧ (failVerify b owner j s).slots = s.slots ∧
      (failVerify b owner j s).lastClosed = s.lastClosed ∧ (failVerify b owner j s).engine = s.engine ∧
      (failVerify b owner j s).dram = s.dram ∧ (failVerify b owner j s).table = s.table ∧
      (failVerify b owner j s).gains = s.gains ∧ (failVerify b owner j s).hold = s.hold ∧
      (failVerify b owner j s).stage = s.stage ∧ (failVerify b owner j s).drive = s.drive ∧
      (failVerify b owner j s).loop = s.loop ∧ (failVerify b owner j s).scan = s.scan ∧
      (failVerify b owner j s).telem = s.telem ∧ (failVerify b owner j s).pending = s.pending := by
  simp [failVerify]

@[simp] theorem readColumn_leaves (b : Nat) (j : Nat) (s : State) :
    (readColumn b j s).variant = s.variant ∧ (readColumn b j s).resetLow = s.resetLow ∧
      (readColumn b j s).now = s.now ∧ (readColumn b j s).receivers = s.receivers ∧
      (readColumn b j s).sensors = s.sensors ∧ (readColumn b j s).slopeMap = s.slopeMap ∧
      (readColumn b j s).store = s.store ∧ (readColumn b j s).slots = s.slots ∧
      (readColumn b j s).lastClosed = s.lastClosed ∧ (readColumn b j s).engine = s.engine ∧
      (readColumn b j s).dram = s.dram ∧ (readColumn b j s).table = s.table ∧
      (readColumn b j s).gains = s.gains ∧ (readColumn b j s).hold = s.hold ∧
      (readColumn b j s).stage = s.stage ∧ (readColumn b j s).drive = s.drive ∧
      (readColumn b j s).loop = s.loop ∧ (readColumn b j s).scan = s.scan ∧
      (readColumn b j s).telem = s.telem ∧ (readColumn b j s).port = s.port ∧
      (readColumn b j s).pending = s.pending := by
  unfold readColumn
  try dsimp only
  repeat' split
  all_goals simp

@[simp] theorem verifyColumn_leaves (b : Nat) (owner : Nat) (uncorrectable : Bool) (s : State) :
    (verifyColumn b owner uncorrectable s).variant = s.variant ∧ (verifyColumn b owner uncorrectable s).resetLow = s.resetLow ∧
      (verifyColumn b owner uncorrectable s).now = s.now ∧ (verifyColumn b owner uncorrectable s).receivers = s.receivers ∧
      (verifyColumn b owner uncorrectable s).sensors = s.sensors ∧ (verifyColumn b owner uncorrectable s).slopeMap = s.slopeMap ∧
      (verifyColumn b owner uncorrectable s).store = s.store ∧ (verifyColumn b owner uncorrectable s).slots = s.slots ∧
      (verifyColumn b owner uncorrectable s).lastClosed = s.lastClosed ∧ (verifyColumn b owner uncorrectable s).engine = s.engine ∧
      (verifyColumn b owner uncorrectable s).dram = s.dram ∧ (verifyColumn b owner uncorrectable s).table = s.table ∧
      (verifyColumn b owner uncorrectable s).gains = s.gains ∧ (verifyColumn b owner uncorrectable s).hold = s.hold ∧
      (verifyColumn b owner uncorrectable s).stage = s.stage ∧ (verifyColumn b owner uncorrectable s).drive = s.drive ∧
      (verifyColumn b owner uncorrectable s).loop = s.loop ∧ (verifyColumn b owner uncorrectable s).scan = s.scan ∧
      (verifyColumn b owner uncorrectable s).telem = s.telem ∧ (verifyColumn b owner uncorrectable s).pending = s.pending := by
  unfold verifyColumn
  try dsimp only
  repeat' split
  all_goals simp

@[simp] theorem abortLoad_leaves (b : Nat) (s : State) :
    (abortLoad b s).variant = s.variant ∧ (abortLoad b s).resetLow = s.resetLow ∧
      (abortLoad b s).now = s.now ∧ (abortLoad b s).receivers = s.receivers ∧
      (abortLoad b s).sensors = s.sensors ∧ (abortLoad b s).slopeMap = s.slopeMap ∧
      (abortLoad b s).store = s.store ∧ (abortLoad b s).slots = s.slots ∧
      (abortLoad b s).lastClosed = s.lastClosed ∧ (abortLoad b s).engine = s.engine ∧
      (abortLoad b s).dram = s.dram ∧ (abortLoad b s).table = s.table ∧
      (abortLoad b s).gains = s.gains ∧ (abortLoad b s).hold = s.hold ∧
      (abortLoad b s).stage = s.stage ∧ (abortLoad b s).drive = s.drive ∧
      (abortLoad b s).loop = s.loop ∧ (abortLoad b s).scan = s.scan ∧
      (abortLoad b s).telem = s.telem ∧ (abortLoad b s).port = s.port ∧
      (abortLoad b s).pending = s.pending := by
  simp [abortLoad]

@[simp] theorem uncommitBlock_leaves (b : Nat) (block : Nat) (s : State) :
    (uncommitBlock b block s).variant = s.variant ∧ (uncommitBlock b block s).resetLow = s.resetLow ∧
      (uncommitBlock b block s).now = s.now ∧ (uncommitBlock b block s).receivers = s.receivers ∧
      (uncommitBlock b block s).sensors = s.sensors ∧ (uncommitBlock b block s).slopeMap = s.slopeMap ∧
      (uncommitBlock b block s).store = s.store ∧ (uncommitBlock b block s).slots = s.slots ∧
      (uncommitBlock b block s).lastClosed = s.lastClosed ∧ (uncommitBlock b block s).engine = s.engine ∧
      (uncommitBlock b block s).dram = s.dram ∧ (uncommitBlock b block s).loader = s.loader ∧
      (uncommitBlock b block s).table = s.table ∧ (uncommitBlock b block s).gains = s.gains ∧
      (uncommitBlock b block s).hold = s.hold ∧ (uncommitBlock b block s).stage = s.stage ∧
      (uncommitBlock b block s).drive = s.drive ∧ (uncommitBlock b block s).loop = s.loop ∧
      (uncommitBlock b block s).scan = s.scan ∧ (uncommitBlock b block s).telem = s.telem ∧
      (uncommitBlock b block s).port = s.port ∧ (uncommitBlock b block s).pending = s.pending := by
  simp [uncommitBlock]

@[simp] theorem markReopened_leaves (s : State) :
    (markReopened s).variant = s.variant ∧ (markReopened s).resetLow = s.resetLow ∧
      (markReopened s).now = s.now ∧ (markReopened s).receivers = s.receivers ∧
      (markReopened s).sensors = s.sensors ∧ (markReopened s).slopeMap = s.slopeMap ∧
      (markReopened s).store = s.store ∧ (markReopened s).slots = s.slots ∧
      (markReopened s).lastClosed = s.lastClosed ∧ (markReopened s).engine = s.engine ∧
      (markReopened s).banks = s.banks ∧ (markReopened s).dram = s.dram ∧
      (markReopened s).table = s.table ∧ (markReopened s).gains = s.gains ∧
      (markReopened s).hold = s.hold ∧ (markReopened s).stage = s.stage ∧
      (markReopened s).drive = s.drive ∧ (markReopened s).loop = s.loop ∧
      (markReopened s).scan = s.scan ∧ (markReopened s).telem = s.telem ∧
      (markReopened s).port = s.port ∧ (markReopened s).pending = s.pending := by
  simp [markReopened]

@[simp] theorem reopenLoaded_leaves (b : Nat) (block : Nat) (owner : Nat) (s : State) :
    (reopenLoaded b block owner s).variant = s.variant ∧ (reopenLoaded b block owner s).resetLow = s.resetLow ∧
      (reopenLoaded b block owner s).now = s.now ∧ (reopenLoaded b block owner s).receivers = s.receivers ∧
      (reopenLoaded b block owner s).sensors = s.sensors ∧ (reopenLoaded b block owner s).slopeMap = s.slopeMap ∧
      (reopenLoaded b block owner s).store = s.store ∧ (reopenLoaded b block owner s).slots = s.slots ∧
      (reopenLoaded b block owner s).lastClosed = s.lastClosed ∧ (reopenLoaded b block owner s).engine = s.engine ∧
      (reopenLoaded b block owner s).dram = s.dram ∧ (reopenLoaded b block owner s).table = s.table ∧
      (reopenLoaded b block owner s).gains = s.gains ∧ (reopenLoaded b block owner s).hold = s.hold ∧
      (reopenLoaded b block owner s).stage = s.stage ∧ (reopenLoaded b block owner s).drive = s.drive ∧
      (reopenLoaded b block owner s).loop = s.loop ∧ (reopenLoaded b block owner s).scan = s.scan ∧
      (reopenLoaded b block owner s).telem = s.telem ∧ (reopenLoaded b block owner s).port = s.port ∧
      (reopenLoaded b block owner s).pending = s.pending := by
  simp [reopenLoaded]

@[simp] theorem swapNow_leaves (b : Nat) (s : State) :
    (swapNow b s).variant = s.variant ∧ (swapNow b s).resetLow = s.resetLow ∧
      (swapNow b s).now = s.now ∧ (swapNow b s).receivers = s.receivers ∧
      (swapNow b s).sensors = s.sensors ∧ (swapNow b s).slopeMap = s.slopeMap ∧
      (swapNow b s).store = s.store ∧ (swapNow b s).slots = s.slots ∧
      (swapNow b s).lastClosed = s.lastClosed ∧ (swapNow b s).engine = s.engine ∧
      (swapNow b s).dram = s.dram ∧ (swapNow b s).loader = s.loader ∧
      (swapNow b s).table = s.table ∧ (swapNow b s).gains = s.gains ∧
      (swapNow b s).hold = s.hold ∧ (swapNow b s).stage = s.stage ∧
      (swapNow b s).drive = s.drive ∧ (swapNow b s).loop = s.loop ∧
      (swapNow b s).scan = s.scan ∧ (swapNow b s).pending = s.pending := by
  unfold swapNow
  try dsimp only
  repeat' split
  all_goals simp

@[simp] theorem swapLater_leaves (b : Nat) (atFrame : Option Frame) (s : State) :
    (swapLater b atFrame s).variant = s.variant ∧ (swapLater b atFrame s).resetLow = s.resetLow ∧
      (swapLater b atFrame s).now = s.now ∧ (swapLater b atFrame s).receivers = s.receivers ∧
      (swapLater b atFrame s).sensors = s.sensors ∧ (swapLater b atFrame s).slopeMap = s.slopeMap ∧
      (swapLater b atFrame s).store = s.store ∧ (swapLater b atFrame s).slots = s.slots ∧
      (swapLater b atFrame s).lastClosed = s.lastClosed ∧ (swapLater b atFrame s).engine = s.engine ∧
      (swapLater b atFrame s).dram = s.dram ∧ (swapLater b atFrame s).loader = s.loader ∧
      (swapLater b atFrame s).table = s.table ∧ (swapLater b atFrame s).gains = s.gains ∧
      (swapLater b atFrame s).hold = s.hold ∧ (swapLater b atFrame s).stage = s.stage ∧
      (swapLater b atFrame s).drive = s.drive ∧ (swapLater b atFrame s).loop = s.loop ∧
      (swapLater b atFrame s).scan = s.scan ∧ (swapLater b atFrame s).telem = s.telem ∧
      (swapLater b atFrame s).port = s.port ∧ (swapLater b atFrame s).pending = s.pending := by
  unfold swapLater
  try dsimp only
  repeat' split
  all_goals simp

@[simp] theorem markSlot_leaves (n : Nat) (k : Nat) (s : State) :
    (markSlot n k s).variant = s.variant ∧ (markSlot n k s).resetLow = s.resetLow ∧
      (markSlot n k s).now = s.now ∧ (markSlot n k s).receivers = s.receivers ∧
      (markSlot n k s).sensors = s.sensors ∧ (markSlot n k s).slopeMap = s.slopeMap ∧
      (markSlot n k s).store = s.store ∧ (markSlot n k s).lastClosed = s.lastClosed ∧
      (markSlot n k s).engine = s.engine ∧ (markSlot n k s).banks = s.banks ∧
      (markSlot n k s).dram = s.dram ∧ (markSlot n k s).loader = s.loader ∧
      (markSlot n k s).table = s.table ∧ (markSlot n k s).gains = s.gains ∧
      (markSlot n k s).hold = s.hold ∧ (markSlot n k s).stage = s.stage ∧
      (markSlot n k s).drive = s.drive ∧ (markSlot n k s).loop = s.loop ∧
      (markSlot n k s).scan = s.scan ∧ (markSlot n k s).telem = s.telem ∧
      (markSlot n k s).port = s.port ∧ (markSlot n k s).pending = s.pending := by
  unfold markSlot
  try dsimp only
  repeat' split
  all_goals simp

@[simp] theorem markChanged_leaves (n : Nat) (s : State) :
    (markChanged n s).variant = s.variant ∧ (markChanged n s).resetLow = s.resetLow ∧
      (markChanged n s).now = s.now ∧ (markChanged n s).receivers = s.receivers ∧
      (markChanged n s).sensors = s.sensors ∧ (markChanged n s).slopeMap = s.slopeMap ∧
      (markChanged n s).store = s.store ∧ (markChanged n s).lastClosed = s.lastClosed ∧
      (markChanged n s).engine = s.engine ∧ (markChanged n s).banks = s.banks ∧
      (markChanged n s).dram = s.dram ∧ (markChanged n s).loader = s.loader ∧
      (markChanged n s).table = s.table ∧ (markChanged n s).gains = s.gains ∧
      (markChanged n s).hold = s.hold ∧ (markChanged n s).stage = s.stage ∧
      (markChanged n s).drive = s.drive ∧ (markChanged n s).loop = s.loop ∧
      (markChanged n s).scan = s.scan ∧ (markChanged n s).telem = s.telem ∧
      (markChanged n s).port = s.port ∧ (markChanged n s).pending = s.pending := by
  simp [markChanged]

/-- R27: marking a sensor as changed touches nothing but the slots. -/
theorem markChanged_frame (n : Nat) (s : State) :
    markChanged n s = { s with slots := (markChanged n s).slots } := by
  unfold markChanged markSlot
  split <;> split <;> rfl

@[simp] theorem recoverLink_leaves (l : Nat) (s : State) :
    (recoverLink l s).variant = s.variant ∧ (recoverLink l s).resetLow = s.resetLow ∧
      (recoverLink l s).now = s.now ∧ (recoverLink l s).receivers = s.receivers ∧
      (recoverLink l s).sensors = s.sensors ∧ (recoverLink l s).slopeMap = s.slopeMap ∧
      (recoverLink l s).store = s.store ∧ (recoverLink l s).slots = s.slots ∧
      (recoverLink l s).lastClosed = s.lastClosed ∧ (recoverLink l s).engine = s.engine ∧
      (recoverLink l s).banks = s.banks ∧ (recoverLink l s).dram = s.dram ∧
      (recoverLink l s).loader = s.loader ∧ (recoverLink l s).table = s.table ∧
      (recoverLink l s).gains = s.gains ∧ (recoverLink l s).hold = s.hold ∧
      (recoverLink l s).stage = s.stage ∧ (recoverLink l s).loop = s.loop ∧
      (recoverLink l s).scan = s.scan ∧ (recoverLink l s).telem = s.telem ∧
      (recoverLink l s).port = s.port ∧ (recoverLink l s).pending = s.pending := by
  unfold recoverLink
  try dsimp only
  repeat' split
  all_goals simp

@[simp] theorem stickLink_leaves (l : Nat) (order : SafeOrder) (s : State) :
    (stickLink l order id s).variant = s.variant ∧ (stickLink l order id s).resetLow = s.resetLow ∧
      (stickLink l order id s).now = s.now ∧ (stickLink l order id s).sensors = s.sensors ∧
      (stickLink l order id s).slopeMap = s.slopeMap ∧ (stickLink l order id s).store = s.store ∧
      (stickLink l order id s).dram = s.dram ∧ (stickLink l order id s).loader = s.loader ∧
      (stickLink l order id s).gains = s.gains ∧ (stickLink l order id s).pending = s.pending := by
  unfold stickLink
  try dsimp only
  repeat' split
  all_goals simp

@[simp] theorem takeTaken_leaves (l : Nat) (number : Byte) (uncorrectable : List Nat) (s : State) :
    (takeTaken l number uncorrectable s).variant = s.variant ∧ (takeTaken l number uncorrectable s).resetLow = s.resetLow ∧
      (takeTaken l number uncorrectable s).now = s.now ∧ (takeTaken l number uncorrectable s).sensors = s.sensors ∧
      (takeTaken l number uncorrectable s).slopeMap = s.slopeMap ∧ (takeTaken l number uncorrectable s).store = s.store ∧
      (takeTaken l number uncorrectable s).dram = s.dram ∧ (takeTaken l number uncorrectable s).loader = s.loader ∧
      (takeTaken l number uncorrectable s).gains = s.gains ∧ (takeTaken l number uncorrectable s).pending = s.pending := by
  unfold takeTaken
  try dsimp only
  repeat' split
  all_goals simp

@[simp] theorem refusedOutcome_leaves (reason : RefuseReason) (order : SafeOrder) (frame : Option Frame) (s : State) :
    (refusedOutcome reason order frame id s).variant = s.variant ∧ (refusedOutcome reason order frame id s).resetLow = s.resetLow ∧
      (refusedOutcome reason order frame id s).now = s.now ∧ (refusedOutcome reason order frame id s).sensors = s.sensors ∧
      (refusedOutcome reason order frame id s).slopeMap = s.slopeMap ∧ (refusedOutcome reason order frame id s).store = s.store ∧
      (refusedOutcome reason order frame id s).dram = s.dram ∧ (refusedOutcome reason order frame id s).loader = s.loader ∧
      (refusedOutcome reason order frame id s).gains = s.gains ∧ (refusedOutcome reason order frame id s).pending = s.pending := by
  unfold refusedOutcome
  try dsimp only
  repeat' split
  all_goals simp

@[simp] theorem lateRefused_leaves (reason : RefuseReason) (frame : Option Frame) (s : State) :
    (lateRefused reason frame id s).variant = s.variant ∧ (lateRefused reason frame id s).resetLow = s.resetLow ∧
      (lateRefused reason frame id s).now = s.now ∧ (lateRefused reason frame id s).sensors = s.sensors ∧
      (lateRefused reason frame id s).slopeMap = s.slopeMap ∧ (lateRefused reason frame id s).store = s.store ∧
      (lateRefused reason frame id s).dram = s.dram ∧ (lateRefused reason frame id s).loader = s.loader ∧
      (lateRefused reason frame id s).gains = s.gains ∧ (lateRefused reason frame id s).pending = s.pending := by
  unfold lateRefused
  try dsimp only
  repeat' split
  all_goals simp

@[simp] theorem takeRefused_leaves (l : Nat) (number : Byte) (reason : RefuseReason) (order : SafeOrder) (s : State) :
    (takeRefused l number reason order id s).variant = s.variant ∧ (takeRefused l number reason order id s).resetLow = s.resetLow ∧
      (takeRefused l number reason order id s).now = s.now ∧ (takeRefused l number reason order id s).sensors = s.sensors ∧
      (takeRefused l number reason order id s).slopeMap = s.slopeMap ∧ (takeRefused l number reason order id s).store = s.store ∧
      (takeRefused l number reason order id s).dram = s.dram ∧ (takeRefused l number reason order id s).loader = s.loader ∧
      (takeRefused l number reason order id s).gains = s.gains ∧ (takeRefused l number reason order id s).pending = s.pending := by
  unfold takeRefused
  try dsimp only
  repeat' split
  all_goals simp

@[simp] theorem expireReply_leaves (l : Nat) (s : State) :
    (expireReply l s).variant = s.variant ∧ (expireReply l s).resetLow = s.resetLow ∧
      (expireReply l s).now = s.now ∧ (expireReply l s).sensors = s.sensors ∧
      (expireReply l s).slopeMap = s.slopeMap ∧ (expireReply l s).store = s.store ∧
      (expireReply l s).dram = s.dram ∧ (expireReply l s).loader = s.loader ∧
      (expireReply l s).gains = s.gains ∧ (expireReply l s).pending = s.pending := by
  unfold expireReply
  try dsimp only
  repeat' split
  all_goals simp

@[simp] theorem noteApplied_leaves (l : Nat) (s : State) :
    (noteApplied l s).variant = s.variant ∧ (noteApplied l s).resetLow = s.resetLow ∧
      (noteApplied l s).now = s.now ∧ (noteApplied l s).receivers = s.receivers ∧
      (noteApplied l s).sensors = s.sensors ∧ (noteApplied l s).slopeMap = s.slopeMap ∧
      (noteApplied l s).store = s.store ∧ (noteApplied l s).slots = s.slots ∧
      (noteApplied l s).lastClosed = s.lastClosed ∧ (noteApplied l s).engine = s.engine ∧
      (noteApplied l s).banks = s.banks ∧ (noteApplied l s).dram = s.dram ∧
      (noteApplied l s).loader = s.loader ∧ (noteApplied l s).table = s.table ∧
      (noteApplied l s).gains = s.gains ∧ (noteApplied l s).hold = s.hold ∧
      (noteApplied l s).stage = s.stage ∧ (noteApplied l s).loop = s.loop ∧
      (noteApplied l s).scan = s.scan ∧ (noteApplied l s).telem = s.telem ∧
      (noteApplied l s).port = s.port ∧ (noteApplied l s).pending = s.pending := by
  unfold noteApplied
  try dsimp only
  repeat' split
  all_goals simp

@[simp] theorem takeApplied_leaves (l : Nat) (number : Byte) (s : State) :
    (takeApplied l number s).variant = s.variant ∧ (takeApplied l number s).resetLow = s.resetLow ∧
      (takeApplied l number s).now = s.now ∧ (takeApplied l number s).receivers = s.receivers ∧
      (takeApplied l number s).sensors = s.sensors ∧ (takeApplied l number s).slopeMap = s.slopeMap ∧
      (takeApplied l number s).store = s.store ∧ (takeApplied l number s).slots = s.slots ∧
      (takeApplied l number s).lastClosed = s.lastClosed ∧ (takeApplied l number s).engine = s.engine ∧
      (takeApplied l number s).banks = s.banks ∧ (takeApplied l number s).dram = s.dram ∧
      (takeApplied l number s).loader = s.loader ∧ (takeApplied l number s).gains = s.gains ∧
      (takeApplied l number s).stage = s.stage ∧ (takeApplied l number s).scan = s.scan ∧
      (takeApplied l number s).telem = s.telem ∧ (takeApplied l number s).port = s.port ∧
      (takeApplied l number s).pending = s.pending := by
  unfold takeApplied
  try dsimp only
  repeat' split
  all_goals simp

@[simp] theorem reportApplyTimeout_leaves (s : State) :
    (reportApplyTimeout s).variant = s.variant ∧ (reportApplyTimeout s).resetLow = s.resetLow ∧
      (reportApplyTimeout s).now = s.now ∧ (reportApplyTimeout s).receivers = s.receivers ∧
      (reportApplyTimeout s).sensors = s.sensors ∧ (reportApplyTimeout s).slopeMap = s.slopeMap ∧
      (reportApplyTimeout s).store = s.store ∧ (reportApplyTimeout s).slots = s.slots ∧
      (reportApplyTimeout s).lastClosed = s.lastClosed ∧ (reportApplyTimeout s).engine = s.engine ∧
      (reportApplyTimeout s).banks = s.banks ∧ (reportApplyTimeout s).dram = s.dram ∧
      (reportApplyTimeout s).loader = s.loader ∧ (reportApplyTimeout s).table = s.table ∧
      (reportApplyTimeout s).gains = s.gains ∧ (reportApplyTimeout s).hold = s.hold ∧
      (reportApplyTimeout s).stage = s.stage ∧ (reportApplyTimeout s).pending = s.pending := by
  unfold reportApplyTimeout
  try dsimp only
  repeat' split
  all_goals simp

@[simp] theorem expireApply_leaves (l : Nat) (s : State) :
    (expireApply l s).variant = s.variant ∧ (expireApply l s).resetLow = s.resetLow ∧
      (expireApply l s).now = s.now ∧ (expireApply l s).receivers = s.receivers ∧
      (expireApply l s).sensors = s.sensors ∧ (expireApply l s).slopeMap = s.slopeMap ∧
      (expireApply l s).store = s.store ∧ (expireApply l s).slots = s.slots ∧
      (expireApply l s).lastClosed = s.lastClosed ∧ (expireApply l s).engine = s.engine ∧
      (expireApply l s).banks = s.banks ∧ (expireApply l s).dram = s.dram ∧
      (expireApply l s).loader = s.loader ∧ (expireApply l s).gains = s.gains ∧
      (expireApply l s).stage = s.stage ∧ (expireApply l s).pending = s.pending := by
  unfold expireApply
  try dsimp only
  repeat' split
  all_goals simp

@[simp] theorem faultLink_leaves (l : Nat) (s : State) :
    (faultLink l s).variant = s.variant ∧ (faultLink l s).resetLow = s.resetLow ∧
      (faultLink l s).now = s.now ∧ (faultLink l s).receivers = s.receivers ∧
      (faultLink l s).sensors = s.sensors ∧ (faultLink l s).slopeMap = s.slopeMap ∧
      (faultLink l s).store = s.store ∧ (faultLink l s).slots = s.slots ∧
      (faultLink l s).lastClosed = s.lastClosed ∧ (faultLink l s).engine = s.engine ∧
      (faultLink l s).banks = s.banks ∧ (faultLink l s).dram = s.dram ∧
      (faultLink l s).loader = s.loader ∧ (faultLink l s).table = s.table ∧
      (faultLink l s).gains = s.gains ∧ (faultLink l s).hold = s.hold ∧
      (faultLink l s).stage = s.stage ∧ (faultLink l s).loop = s.loop ∧
      (faultLink l s).scan = s.scan ∧ (faultLink l s).telem = s.telem ∧
      (faultLink l s).pending = s.pending := by
  simp [faultLink]

@[simp] theorem leaveTransaction_leaves (l : Nat) (s : State) :
    (leaveTransaction l s).variant = s.variant ∧ (leaveTransaction l s).resetLow = s.resetLow ∧
      (leaveTransaction l s).now = s.now ∧ (leaveTransaction l s).receivers = s.receivers ∧
      (leaveTransaction l s).sensors = s.sensors ∧ (leaveTransaction l s).slopeMap = s.slopeMap ∧
      (leaveTransaction l s).store = s.store ∧ (leaveTransaction l s).slots = s.slots ∧
      (leaveTransaction l s).lastClosed = s.lastClosed ∧ (leaveTransaction l s).engine = s.engine ∧
      (leaveTransaction l s).banks = s.banks ∧ (leaveTransaction l s).dram = s.dram ∧
      (leaveTransaction l s).loader = s.loader ∧ (leaveTransaction l s).table = s.table ∧
      (leaveTransaction l s).gains = s.gains ∧ (leaveTransaction l s).hold = s.hold ∧
      (leaveTransaction l s).stage = s.stage ∧ (leaveTransaction l s).loop = s.loop ∧
      (leaveTransaction l s).scan = s.scan ∧ (leaveTransaction l s).telem = s.telem ∧
      (leaveTransaction l s).port = s.port ∧ (leaveTransaction l s).pending = s.pending := by
  simp [leaveTransaction]

@[simp] theorem withdrawApplied_leaves (l : Nat) (tx : Transaction) (s : State) :
    (withdrawApplied l tx s).variant = s.variant ∧ (withdrawApplied l tx s).resetLow = s.resetLow ∧
      (withdrawApplied l tx s).now = s.now ∧ (withdrawApplied l tx s).receivers = s.receivers ∧
      (withdrawApplied l tx s).sensors = s.sensors ∧ (withdrawApplied l tx s).slopeMap = s.slopeMap ∧
      (withdrawApplied l tx s).store = s.store ∧ (withdrawApplied l tx s).slots = s.slots ∧
      (withdrawApplied l tx s).lastClosed = s.lastClosed ∧ (withdrawApplied l tx s).engine = s.engine ∧
      (withdrawApplied l tx s).banks = s.banks ∧ (withdrawApplied l tx s).dram = s.dram ∧
      (withdrawApplied l tx s).loader = s.loader ∧ (withdrawApplied l tx s).table = s.table ∧
      (withdrawApplied l tx s).gains = s.gains ∧ (withdrawApplied l tx s).hold = s.hold ∧
      (withdrawApplied l tx s).stage = s.stage ∧ (withdrawApplied l tx s).loop = s.loop ∧
      (withdrawApplied l tx s).scan = s.scan ∧ (withdrawApplied l tx s).telem = s.telem ∧
      (withdrawApplied l tx s).port = s.port ∧ (withdrawApplied l tx s).pending = s.pending := by
  simp [withdrawApplied]

@[simp] theorem afterFault_leaves (l : Nat) (order : SafeOrder) (frame : Option Frame) (s : State) :
    (afterFault l order frame id s).variant = s.variant ∧ (afterFault l order frame id s).resetLow = s.resetLow ∧
      (afterFault l order frame id s).now = s.now ∧ (afterFault l order frame id s).sensors = s.sensors ∧
      (afterFault l order frame id s).slopeMap = s.slopeMap ∧ (afterFault l order frame id s).store = s.store ∧
      (afterFault l order frame id s).dram = s.dram ∧ (afterFault l order frame id s).loader = s.loader ∧
      (afterFault l order frame id s).gains = s.gains ∧ (afterFault l order frame id s).pending = s.pending := by
  unfold afterFault
  try dsimp only
  repeat' split
  all_goals simp

@[simp] theorem takeFault_leaves (l : Nat) (order : SafeOrder) (s : State) :
    (takeFault l order id s).variant = s.variant ∧ (takeFault l order id s).resetLow = s.resetLow ∧
      (takeFault l order id s).now = s.now ∧ (takeFault l order id s).sensors = s.sensors ∧
      (takeFault l order id s).slopeMap = s.slopeMap ∧ (takeFault l order id s).store = s.store ∧
      (takeFault l order id s).dram = s.dram ∧ (takeFault l order id s).loader = s.loader ∧
      (takeFault l order id s).gains = s.gains ∧ (takeFault l order id s).pending = s.pending := by
  simp [takeFault]

@[simp] theorem startScan_leaves (low : Nat) (high : Nat) (amplitude : Nat) (dwell : Nat) (pattern : Pattern) (cycles : Nat) (s : State) :
    (startScan low high amplitude dwell pattern cycles s).variant = s.variant ∧ (startScan low high amplitude dwell pattern cycles s).resetLow = s.resetLow ∧
      (startScan low high amplitude dwell pattern cycles s).now = s.now ∧ (startScan low high amplitude dwell pattern cycles s).receivers = s.receivers ∧
      (startScan low high amplitude dwell pattern cycles s).sensors = s.sensors ∧ (startScan low high amplitude dwell pattern cycles s).slopeMap = s.slopeMap ∧
      (startScan low high amplitude dwell pattern cycles s).store = s.store ∧ (startScan low high amplitude dwell pattern cycles s).slots = s.slots ∧
      (startScan low high amplitude dwell pattern cycles s).lastClosed = s.lastClosed ∧ (startScan low high amplitude dwell pattern cycles s).engine = s.engine ∧
      (startScan low high amplitude dwell pattern cycles s).banks = s.banks ∧ (startScan low high amplitude dwell pattern cycles s).dram = s.dram ∧
      (startScan low high amplitude dwell pattern cycles s).loader = s.loader ∧ (startScan low high amplitude dwell pattern cycles s).table = s.table ∧
      (startScan low high amplitude dwell pattern cycles s).gains = s.gains ∧ (startScan low high amplitude dwell pattern cycles s).hold = s.hold ∧
      (startScan low high amplitude dwell pattern cycles s).stage = s.stage ∧ (startScan low high amplitude dwell pattern cycles s).drive = s.drive ∧
      (startScan low high amplitude dwell pattern cycles s).loop = s.loop ∧ (startScan low high amplitude dwell pattern cycles s).telem = s.telem ∧
      (startScan low high amplitude dwell pattern cycles s).port = s.port ∧ (startScan low high amplitude dwell pattern cycles s).pending = s.pending := by
  simp [startScan]

@[simp] theorem popRecords_leaves (count : Nat) (s : State) :
    (popRecords count s).variant = s.variant ∧ (popRecords count s).resetLow = s.resetLow ∧
      (popRecords count s).now = s.now ∧ (popRecords count s).receivers = s.receivers ∧
      (popRecords count s).sensors = s.sensors ∧ (popRecords count s).slopeMap = s.slopeMap ∧
      (popRecords count s).store = s.store ∧ (popRecords count s).slots = s.slots ∧
      (popRecords count s).lastClosed = s.lastClosed ∧ (popRecords count s).engine = s.engine ∧
      (popRecords count s).banks = s.banks ∧ (popRecords count s).dram = s.dram ∧
      (popRecords count s).loader = s.loader ∧ (popRecords count s).table = s.table ∧
      (popRecords count s).gains = s.gains ∧ (popRecords count s).hold = s.hold ∧
      (popRecords count s).stage = s.stage ∧ (popRecords count s).drive = s.drive ∧
      (popRecords count s).loop = s.loop ∧ (popRecords count s).scan = s.scan ∧
      (popRecords count s).port = s.port ∧ (popRecords count s).pending = s.pending := by
  simp [popRecords]

@[simp] theorem softenDriveLink_leaves (keep : Bool) (s : State) (l : Nat) :
    (softenDriveLink keep s l).variant = s.variant ∧ (softenDriveLink keep s l).resetLow = s.resetLow ∧
      (softenDriveLink keep s l).now = s.now ∧ (softenDriveLink keep s l).receivers = s.receivers ∧
      (softenDriveLink keep s l).sensors = s.sensors ∧ (softenDriveLink keep s l).slopeMap = s.slopeMap ∧
      (softenDriveLink keep s l).store = s.store ∧ (softenDriveLink keep s l).slots = s.slots ∧
      (softenDriveLink keep s l).lastClosed = s.lastClosed ∧ (softenDriveLink keep s l).engine = s.engine ∧
      (softenDriveLink keep s l).banks = s.banks ∧ (softenDriveLink keep s l).dram = s.dram ∧
      (softenDriveLink keep s l).loader = s.loader ∧ (softenDriveLink keep s l).table = s.table ∧
      (softenDriveLink keep s l).gains = s.gains ∧ (softenDriveLink keep s l).hold = s.hold ∧
      (softenDriveLink keep s l).stage = s.stage ∧ (softenDriveLink keep s l).loop = s.loop ∧
      (softenDriveLink keep s l).scan = s.scan ∧ (softenDriveLink keep s l).telem = s.telem ∧
      (softenDriveLink keep s l).port = s.port ∧ (softenDriveLink keep s l).pending = s.pending := by
  simp [softenDriveLink]

@[simp] theorem softTables_leaves (keep : Bool) (s : State) :
    (softTables keep s).variant = s.variant ∧ (softTables keep s).resetLow = s.resetLow ∧
      (softTables keep s).now = s.now ∧ (softTables keep s).receivers = s.receivers ∧
      (softTables keep s).slots = s.slots ∧ (softTables keep s).lastClosed = s.lastClosed ∧
      (softTables keep s).engine = s.engine ∧ (softTables keep s).banks = s.banks ∧
      (softTables keep s).dram = s.dram ∧ (softTables keep s).loader = s.loader ∧
      (softTables keep s).stage = s.stage ∧ (softTables keep s).drive = s.drive ∧
      (softTables keep s).loop = s.loop ∧ (softTables keep s).scan = s.scan ∧
      (softTables keep s).telem = s.telem ∧ (softTables keep s).port = s.port ∧
      (softTables keep s).pending = s.pending := by
  unfold softTables
  try dsimp only
  repeat' split
  all_goals simp

@[simp] theorem softBanks_leaves (keep : Bool) (s : State) :
    (softBanks keep s).variant = s.variant ∧ (softBanks keep s).resetLow = s.resetLow ∧
      (softBanks keep s).now = s.now ∧ (softBanks keep s).receivers = s.receivers ∧
      (softBanks keep s).sensors = s.sensors ∧ (softBanks keep s).slopeMap = s.slopeMap ∧
      (softBanks keep s).store = s.store ∧ (softBanks keep s).slots = s.slots ∧
      (softBanks keep s).lastClosed = s.lastClosed ∧ (softBanks keep s).engine = s.engine ∧
      (softBanks keep s).dram = s.dram ∧ (softBanks keep s).table = s.table ∧
      (softBanks keep s).gains = s.gains ∧ (softBanks keep s).hold = s.hold ∧
      (softBanks keep s).stage = s.stage ∧ (softBanks keep s).drive = s.drive ∧
      (softBanks keep s).loop = s.loop ∧ (softBanks keep s).scan = s.scan ∧
      (softBanks keep s).telem = s.telem ∧ (softBanks keep s).port = s.port ∧
      (softBanks keep s).pending = s.pending := by
  simp [softBanks]

@[simp] theorem foldl_softenDriveLink_leaves (keep : Bool) (ls : List Nat) (s : State) :
    (ls.foldl (softenDriveLink keep) s).variant = s.variant ∧ (ls.foldl (softenDriveLink keep) s).resetLow = s.resetLow ∧
      (ls.foldl (softenDriveLink keep) s).now = s.now ∧ (ls.foldl (softenDriveLink keep) s).receivers = s.receivers ∧
      (ls.foldl (softenDriveLink keep) s).sensors = s.sensors ∧ (ls.foldl (softenDriveLink keep) s).slopeMap = s.slopeMap ∧
      (ls.foldl (softenDriveLink keep) s).store = s.store ∧ (ls.foldl (softenDriveLink keep) s).slots = s.slots ∧
      (ls.foldl (softenDriveLink keep) s).lastClosed = s.lastClosed ∧ (ls.foldl (softenDriveLink keep) s).engine = s.engine ∧
      (ls.foldl (softenDriveLink keep) s).banks = s.banks ∧ (ls.foldl (softenDriveLink keep) s).dram = s.dram ∧
      (ls.foldl (softenDriveLink keep) s).loader = s.loader ∧ (ls.foldl (softenDriveLink keep) s).table = s.table ∧
      (ls.foldl (softenDriveLink keep) s).gains = s.gains ∧ (ls.foldl (softenDriveLink keep) s).hold = s.hold ∧
      (ls.foldl (softenDriveLink keep) s).stage = s.stage ∧ (ls.foldl (softenDriveLink keep) s).loop = s.loop ∧
      (ls.foldl (softenDriveLink keep) s).scan = s.scan ∧ (ls.foldl (softenDriveLink keep) s).telem = s.telem ∧
      (ls.foldl (softenDriveLink keep) s).port = s.port ∧ (ls.foldl (softenDriveLink keep) s).pending = s.pending := by
  induction ls generalizing s with
  | nil => simp
  | cons x xs ih => simp [ih]

@[simp] theorem softDrive_leaves (keep : Bool) (s : State) :
    (softDrive keep s).variant = s.variant ∧ (softDrive keep s).resetLow = s.resetLow ∧
      (softDrive keep s).now = s.now ∧ (softDrive keep s).receivers = s.receivers ∧
      (softDrive keep s).sensors = s.sensors ∧ (softDrive keep s).slopeMap = s.slopeMap ∧
      (softDrive keep s).store = s.store ∧ (softDrive keep s).slots = s.slots ∧
      (softDrive keep s).lastClosed = s.lastClosed ∧ (softDrive keep s).engine = s.engine ∧
      (softDrive keep s).banks = s.banks ∧ (softDrive keep s).dram = s.dram ∧
      (softDrive keep s).loader = s.loader ∧ (softDrive keep s).table = s.table ∧
      (softDrive keep s).gains = s.gains ∧ (softDrive keep s).hold = s.hold ∧
      (softDrive keep s).stage = s.stage ∧ (softDrive keep s).loop = s.loop ∧
      (softDrive keep s).scan = s.scan ∧ (softDrive keep s).telem = s.telem ∧
      (softDrive keep s).port = s.port ∧ (softDrive keep s).pending = s.pending := by
  simp [softDrive]

@[simp] theorem softReset_leaves (s : State) :
    (softReset s).variant = s.variant ∧ (softReset s).resetLow = s.resetLow ∧
      (softReset s).now = s.now ∧ (softReset s).dram = s.dram ∧
      (softReset s).pending = s.pending := by
  unfold softReset
  try dsimp only
  repeat' split
  all_goals simp

@[simp] theorem clearReply_leaves (s : State) :
    (clearReply s).variant = s.variant ∧ (clearReply s).resetLow = s.resetLow ∧
      (clearReply s).now = s.now ∧ (clearReply s).receivers = s.receivers ∧
      (clearReply s).sensors = s.sensors ∧ (clearReply s).slopeMap = s.slopeMap ∧
      (clearReply s).store = s.store ∧ (clearReply s).slots = s.slots ∧
      (clearReply s).lastClosed = s.lastClosed ∧ (clearReply s).engine = s.engine ∧
      (clearReply s).banks = s.banks ∧ (clearReply s).dram = s.dram ∧
      (clearReply s).loader = s.loader ∧ (clearReply s).table = s.table ∧
      (clearReply s).gains = s.gains ∧ (clearReply s).hold = s.hold ∧
      (clearReply s).stage = s.stage ∧ (clearReply s).drive = s.drive ∧
      (clearReply s).loop = s.loop ∧ (clearReply s).scan = s.scan ∧
      (clearReply s).telem = s.telem ∧ (clearReply s).pending = s.pending := by
  simp [clearReply]

@[simp] theorem replyDone_leaves (s : State) :
    (replyDone s).variant = s.variant ∧ (replyDone s).resetLow = s.resetLow ∧
      (replyDone s).now = s.now ∧ (replyDone s).dram = s.dram ∧
      (replyDone s).pending = s.pending := by
  unfold replyDone
  try dsimp only
  repeat' split
  all_goals simp

@[simp] theorem replyGone_leaves (s : State) :
    (replyGone s).variant = s.variant ∧ (replyGone s).resetLow = s.resetLow ∧
      (replyGone s).now = s.now ∧ (replyGone s).receivers = s.receivers ∧
      (replyGone s).sensors = s.sensors ∧ (replyGone s).slopeMap = s.slopeMap ∧
      (replyGone s).store = s.store ∧ (replyGone s).slots = s.slots ∧
      (replyGone s).lastClosed = s.lastClosed ∧ (replyGone s).engine = s.engine ∧
      (replyGone s).banks = s.banks ∧ (replyGone s).dram = s.dram ∧
      (replyGone s).loader = s.loader ∧ (replyGone s).table = s.table ∧
      (replyGone s).gains = s.gains ∧ (replyGone s).hold = s.hold ∧
      (replyGone s).stage = s.stage ∧ (replyGone s).drive = s.drive ∧
      (replyGone s).loop = s.loop ∧ (replyGone s).scan = s.scan ∧
      (replyGone s).telem = s.telem ∧ (replyGone s).pending = s.pending := by
  unfold replyGone
  try dsimp only
  repeat' split
  all_goals simp

end Sys2Proof.Machine
end

