-- ==== Sys2Proof/Laws/Settle.lean ====
section
/-! SUPPORT. When the arbiter and the stage find nothing to begin (R48, R53): a busy part and a part at
rest leave `settle` without effect. -/

namespace Sys2Proof.Machine

/-- A busy engine chooses nothing. -/
theorem arbiter_busy (s : State) (h : s.engine.work ≠ .idle) : arbiter s = s := by
  unfold arbiter
  cases arbiterFuel s with
  | zero => rfl
  | succ n => simp [arbitrate, h]

/-- In STOPPED and SAFE the arbiter chooses nothing. -/
theorem arbiter_rest (s : State) (h : s.loop.state.running = false) : arbiter s = s := by
  unfold arbiter
  cases arbiterFuel s with
  | zero => rfl
  | succ n => simp [arbitrate, h]

/-- With no slot in FILL and no head to offer the engine stays as it is. -/
theorem arbiter_nothing (s : State) (hf : fillCandidate s = none) (hl : linkCandidate s = none) :
    arbiter s = s := by
  unfold arbiter
  cases arbiterFuel s with
  | zero => rfl
  | succ n => simp [arbitrate, hf, hl]

/-- A stage that is not IDLE begins no frame. -/
theorem enterCommands_stage (n : Nat) (s : State) (h : s.stage.phase ≠ .idle) : enterCommands n s = s := by
  cases n <;> simp [enterCommands, h]

/-- In STOPPED and SAFE the stage begins no frame. -/
theorem enterCommands_rest (n : Nat) (s : State) (h : s.loop.state.running = false) :
    enterCommands n s = s := by
  cases n <;> simp [enterCommands, h]

/-- Without a READY slot that may enter COMMAND the stage begins no frame. -/
theorem enterCommands_none (n : Nat) (s : State) (h : readyCandidate s = none) : enterCommands n s = s := by
  cases n <;> simp [enterCommands, h]

/-- What becomes free in a busy part begins nothing in the same step. -/
theorem settle_busy (s : State) (h : s.busy) : settle s = s := by
  unfold settle
  rw [enterCommands_stage _ s h.2, arbiter_busy s h.1]

/-- What becomes free at rest begins nothing. -/
theorem settle_rest (s : State) (h : s.loop.state.running = false) : settle s = s := by
  unfold settle
  rw [enterCommands_rest _ s h, arbiter_rest s h]

/-- With a busy stage and nothing to choose nothing begins. -/
theorem settle_nothing (s : State) (h : s.nothingToChoose) : settle s = s := by
  unfold settle
  rw [enterCommands_stage _ s h.1, arbiter_nothing s h.2.1 h.2.2]

end Sys2Proof.Machine
end

