-- ==== Sys2Proof/Laws/Endings.lean ====
section
/-! SUPPORT. What the end of a flight and the end of a slot do: the links settled from the table (R130), the
held edits applied (R100), and a slot made FREE (R47). -/

namespace Sys2Proof.Machine

/-! ### The drive's own fields -/

@[simp] theorem modifyDriveLink_drive (s : State) (l : Nat) (f : DriveLink → DriveLink) :
    (s.modifyDriveLink l f).drive.number = s.drive.number ∧
      (s.modifyDriveLink l f).drive.current = s.drive.current ∧
      (s.modifyDriveLink l f).drive.request = s.drive.request ∧
      (s.modifyDriveLink l f).drive.pulses = s.drive.pulses ∧
      (s.modifyDriveLink l f).drive.updateLine = s.drive.updateLine ∧
      (s.modifyDriveLink l f).drive.biasSend = s.drive.biasSend := by
  simp [State.modifyDriveLink, State.setDriveLink]

@[simp] theorem settleLink_drive (l : Nat) (s : State) :
    (settleLink l s).drive.number = s.drive.number ∧
      (settleLink l s).drive.current = s.drive.current ∧
      (settleLink l s).drive.request = s.drive.request ∧
      (settleLink l s).drive.pulses = s.drive.pulses ∧
      (settleLink l s).drive.updateLine = s.drive.updateLine ∧
      (settleLink l s).drive.biasSend = s.drive.biasSend := by
  unfold settleLink
  split <;> simp

/-- R130: one link settled: its state, where it is IDLE or DISABLED, and nothing else. -/
theorem settleLink_driveLink (l m : Nat) (s : State) :
    (settleLink l s).driveLink m =
      if l = m ∧ ((s.driveLink m).state = .idle ∨ (s.driveLink m).state = .disabled) then
        { s.driveLink m with state := s.restState m }
      else s.driveLink m := by
  unfold settleLink
  by_cases h : l = m
  · subst h
    split <;> simp_all
  · split <;> simp [h]

theorem settleLink_restState (l m : Nat) (s : State) : (settleLink l s).restState m = s.restState m := by
  unfold settleLink
  split <;> rfl

theorem foldl_settleLink (ls : List Nat) (s : State) (m : Nat) :
    (ls.foldl (fun t l => settleLink l t) s).drive.number = s.drive.number ∧
      (ls.foldl (fun t l => settleLink l t) s).drive.current = s.drive.current ∧
      (ls.foldl (fun t l => settleLink l t) s).drive.request = s.drive.request ∧
      (ls.foldl (fun t l => settleLink l t) s).drive.pulses = s.drive.pulses ∧
      (ls.foldl (fun t l => settleLink l t) s).drive.updateLine = s.drive.updateLine ∧
      (ls.foldl (fun t l => settleLink l t) s).drive.biasSend = s.drive.biasSend ∧
      (ls.foldl (fun t l => settleLink l t) s).driveLink m =
        if m ∈ ls ∧ ((s.driveLink m).state = .idle ∨ (s.driveLink m).state = .disabled) then
          { s.driveLink m with state := s.restState m }
        else s.driveLink m := by
  induction ls generalizing s with
  | nil => simp
  | cons x xs ih =>
    have h := ih (settleLink x s)
    simp only [settleLink_driveLink, settleLink_restState] at h
    refine ⟨?_, ?_, ?_, ?_, ?_, ?_, ?_⟩ <;> first | (simp [h]; done) | skip
    simp only [List.foldl_cons, h]
    by_cases e : x = m
    · subst e
      by_cases hs : (s.driveLink x).state = .idle ∨ (s.driveLink x).state = .disabled
      · simp [hs]
      · simp [hs]
    · have e' : ¬ m = x := fun q => e q.symm
      simp [e, e']

/-- R130: the links settled: which state each link takes. -/
theorem settleLinks_driveLink (s : State) (m : Nat) :
    (settleLinks s).driveLink m =
      if s.hasDriveLink m = true ∧
          ((s.driveLink m).state = .idle ∨ (s.driveLink m).state = .disabled) then
        { s.driveLink m with state := s.restState m }
      else s.driveLink m := by
  have h := (foldl_settleLink s.driveLinkList s m).2.2.2.2.2.2
  simpa [settleLinks, State.driveLinkList, State.hasDriveLink] using h

@[simp] theorem settleLinks_drive (s : State) :
    (settleLinks s).drive.number = s.drive.number ∧
      (settleLinks s).drive.current = s.drive.current ∧
      (settleLinks s).drive.request = s.drive.request ∧
      (settleLinks s).drive.pulses = s.drive.pulses ∧
      (settleLinks s).drive.updateLine = s.drive.updateLine ∧
      (settleLinks s).drive.biasSend = s.drive.biasSend := by
  have h := foldl_settleLink s.driveLinkList s 0
  unfold settleLinks
  simp [h]

/-- Settled links stay as they are. -/
theorem settleLinks_settled (s : State) (h : s.linksSettled) (l : Nat) :
    (settleLinks s).driveLink l = s.driveLink l := by
  rw [settleLinks_driveLink]
  split
  · rename_i hc
    rw [← h l hc.1 hc.2]
  · rfl

/-- The links are settled once they have been settled. -/
theorem settleLinks_linksSettled (s : State) : (settleLinks s).linksSettled := by
  intro l hl hs
  rw [settleLinks_driveLink] at hs ⊢
  have e : (settleLinks s).restState l = s.restState l := by simp [State.restState]
  rw [e]
  split
  · rfl
  · rename_i hc
    rw [if_neg hc] at hs
    exact absurd ⟨by simpa [State.hasDriveLink] using hl, hs⟩ hc

/-! ### The held edits -/

/-- R100: the end of a flight makes the effective table the table. -/
theorem applyHold_table (s : State) : (applyHold s).table = s.effective := by simp [applyHold]

/-- R100: the end of a flight leaves the hold empty. -/
theorem applyHold_hold (s : State) : (applyHold s).hold = [] := by simp [applyHold]

/-- With nothing held the table is the effective one. -/
theorem effective_nil (s : State) (h : s.hold = []) : s.effective = s.table := by
  simp [State.effective, h]

/-- With nothing held and settled links the end of a flight leaves the table and the links. -/
theorem applyHold_settled (s : State) (hh : s.hold = []) (h : s.linksSettled) :
    (applyHold s).table = s.table ∧ (applyHold s).hold = [] ∧
      (∀ l, (applyHold s).driveLink l = s.driveLink l) := by
  refine ⟨by rw [applyHold_table, effective_nil s hh], applyHold_hold s, ?_⟩
  intro l
  have e : ({ s with table := s.effective, hold := [] } : State) = s := by
    rw [effective_nil s hh, ← hh]
  unfold applyHold
  rw [e]
  exact settleLinks_settled s h l

/-! ### A slot becomes FREE -/

theorem foldl_modifyReceiver (ls : List Nat) (f : Receiver → Receiver) (hf : ∀ r, f (f r) = f r)
    (s : State) (m : Nat) :
    (ls.foldl (fun t n => t.modifyReceiver n f) s).receiver m =
      if m ∈ ls then f (s.receiver m) else s.receiver m := by
  induction ls generalizing s with
  | nil => simp
  | cons x xs ih =>
    simp only [List.foldl_cons, ih, State.receiver_modifyReceiver]
    by_cases e : x = m
    · subst e; by_cases h : x ∈ xs <;> simp [h, hf]
    · have e' : ¬ m = x := fun q => e q.symm
      simp [e, e']

/-- A change of every receiver, where making it twice is making it once. -/
theorem forReceivers_receiver (s : State) (f : Receiver → Receiver) (hf : ∀ r, f (f r) = f r) (m : Nat) :
    (s.forReceivers f).receiver m =
      if s.hasSlopeLink m = true then f (s.receiver m) else s.receiver m := by
  unfold State.forReceivers
  rw [foldl_modifyReceiver _ _ hf]
  simp [State.slopeLinkList, State.hasSlopeLink]

/-- R47: a slot that nothing works on, with a bank that stays: only the slot, its image and the waiting heads
change. -/
theorem freeSlot_alone (k : Nat) (s : State) (hn : (s.slot k).state ≠ .free)
    (hw : ∃ w, s.engine.work = .segment w ∧ w.slot ≠ k)
    (hb : (s.bank (s.slot k).bank).state ≠ .retiring) :
    freeSlot k s = releaseHeads ((s.setSlot k (Slot.reset k)).setImage k none) := by
  obtain ⟨w, h1, h2⟩ := hw
  have hc : cutWork k s = s := by simp [cutWork, h1, h2]
  unfold freeSlot
  rw [if_neg hn]
  simp only [hc]
  congr 1
  unfold releaseBank
  rw [if_neg]
  simp [hb]

@[simp] theorem releaseHeads_slot (s : State) (k : Nat) : (releaseHeads s).slot k = s.slot k := by
  simp [State.slot]

@[simp] theorem releaseHeads_telem (s : State) : (releaseHeads s).telem = s.telem := by simp

/-- R40: every waiting head waits no longer. -/
theorem releaseHeads_receiver (s : State) (m : Nat) :
    (releaseHeads s).receiver m =
      if s.hasSlopeLink m = true then { s.receiver m with headWaiting := false } else s.receiver m :=
  forReceivers_receiver s (fun r => { r with headWaiting := false }) (fun _ => rfl) m

@[simp] theorem image_setImage (s : State) (k m : Nat) (i : Option (Table Int)) :
    (s.setImage k i).telem.image m = if k = m then i else s.telem.image m := by
  simp [State.setImage, Telem.image, Table.get_set]

/-- R47, R119, R121 to R123: the stage's work on its frame ends, with nothing held and settled links: the
slot becomes FREE and the stage IDLE. -/
theorem endStage_alone (k : Nat) (s : State) (ha : s.endsAlone k) (hh : s.hold = [])
    (hs : s.linksSettled) :
    slotFreed k s (endStage k s) ∧ sameSetting s (endStage k s) ∧ sameDrive s (endStage k s) ∧
      (endStage k s).stage = { s.stage with phase := .idle } ∧ (endStage k s).table = s.table ∧
      (endStage k s).hold = [] ∧ (endStage k s).engine = s.engine ∧
      (endStage k s).banks = s.banks ∧ (endStage k s).store = s.store ∧
      (endStage k s).lastClosed = s.lastClosed ∧ (endStage k s).loop = s.loop ∧
      (endStage k s).scan = s.scan ∧ (endStage k s).port = s.port ∧
      (endStage k s).telem.fifo = s.telem.fifo ∧ (endStage k s).telem.captures = s.telem.captures := by
  obtain ⟨h1, h2, h3, h4, h5, h6⟩ := ha
  obtain ⟨ht, hd, hl⟩ := applyHold_settled s hh hs
  have e : endStage k s = releaseHeads
      ((({ applyHold s with stage := { (applyHold s).stage with phase := .idle } } : State).setSlot k
        (Slot.reset k)).setImage k none) := by
    unfold endStage
    apply freeSlot_alone
    · show ((applyHold s).slot k).state ≠ .free
      simp [State.slot] at h2 ⊢
      simp [h2]
    · simpa using h5
    · show ((applyHold s).bank ((applyHold s).slot k).bank).state ≠ .retiring
      simpa [State.bank, State.slot] using h6
  have ek : ¬ k = 1 - k := by omega
  have er : ∀ n, (applyHold s).receiver n = s.receiver n := fun n => by simp [State.receiver]
  rw [e]
  refine ⟨⟨?_, ?_, ?_, ?_, ?_⟩, ?_, ⟨?_, ?_, ?_, ?_, ?_, ?_, ?_⟩, ?_, ?_, ?_, ?_, ?_, ?_, ?_, ?_, ?_, ?_, ?_, ?_⟩
  · simp
  · simp only [releaseHeads_slot, State.slot_setImage, State.slot_setSlot, if_neg ek]; simp [State.slot]
  · intro n hn
    rw [releaseHeads_receiver, if_pos (by simpa [State.hasSlopeLink] using hn)]
    simp only [State.receiver_setImage, State.receiver_setSlot]
    exact congrArg (fun r : Receiver => { r with headWaiting := false }) (er n)
  · simp
  · simp [ek, State.setSlot]
  · simp [sameSetting]
  · intro l; rw [← hl l]; simp [State.driveLink]
  all_goals first | (simp [ht]; done) | (simp [hd]; done) | (simp [applyHold]; done)

/-- R48: with a busy engine and no slot that may enter COMMAND nothing begins. -/
theorem settle_alone (s : State) (hw : s.engine.work ≠ .idle) (h0 : (s.slot 0).state ≠ .ready)
    (h1 : (s.slot 1).state ≠ .ready) : settle s = s := by
  have hr : readyCandidate s = none := by
    unfold readyCandidate
    simp only [h0, h1]
    simp
  unfold settle
  rw [enterCommands_none _ s hr, arbiter_busy s hw]

end Sys2Proof.Machine
end

