-- ==== Sys2Proof/Laws/SafeCauses.lean ====
section
/-! SUPPORT. The entry to SAFE that a link's event makes (R154), and the small operations that the port, a
receiver and the scan unit make on their own records. -/

namespace Sys2Proof.Machine

/-! ### Between the act of a link and the entry to SAFE -/

/-- With no frame between, nothing comes between. -/
@[simp] theorem takeBetween_none : takeBetween none = id := rfl

/-- What is taken between a link's act and the entry to SAFE is a complete frame, or the state stays. -/
theorem takeBetween_frame (f : BusFrame) (s : State) :
    execRequestFrameComplete f.bytes f.uncorrectable s = .next (takeBetween (some f) s) ∨
      takeBetween (some f) s = s := by
  unfold takeBetween
  dsimp only
  split
  · rename_i t ht
    exact .inl ht
  · exact .inr rfl
  · exact .inr rfl

/-- In SAFE a further entry to SAFE changes nothing (R154). -/
@[simp] theorem enterSafe_again (cause : LoopCause) (frame : Option Frame) (s : State)
    (h : s.loop.state = .safe) : enterSafe cause frame s = s := if_pos h

/-- A part of the state that neither the drop, nor what is taken between, nor the entry changes is as it
was after all three, in either order. -/
theorem dropAndSafe_kept {α : Type} (part : State → α) (order : SafeOrder) (reason : DropReason)
    (cause : LoopCause) (frame : Option Frame) (between : State → State) (s : State)
    (hb : ∀ u, part (between u) = part u) (hd : ∀ u, part (dropTransaction reason u) = part u)
    (ht : ∀ u, part (settle u) = part u) (he : ∀ u, part (enterSafe cause frame u) = part u) :
    part (dropAndSafe order reason cause frame between s) = part s := by
  cases order
  · exact (he _).trans ((hb _).trans ((ht _).trans (hd _)))
  · exact (hd _).trans ((he _).trans (hb _))

/-! ### Receivers -/

/-- Bytes that a legal segment can hold are gathered. -/
theorem Receiver.gather_fits (r : Receiver) (bytes : List Byte) (h : bytes.length ≤ longestSegment) :
    r.gather bytes = { r with reception := some bytes } := if_neg (Nat.not_lt.mpr h)

/-- Bytes beyond the longest legal segment discard the reception. -/
theorem Receiver.gather_excess (r : Receiver) (bytes : List Byte) (h : longestSegment < bytes.length) :
    r.gather bytes = { r with reception := none, crcFail := r.crcFail + 1 } := if_pos h

/-! ### The scan unit -/

/-- An advancing frame brings the poked frames to its count. -/
@[simp] theorem ScanRun.endActuator_poked (r : ScanRun) (poked : Count32) :
    (r.endActuator poked).poked = poked := by
  unfold ScanRun.endActuator
  split
  · rfl
  · dsimp only
    split <;> rfl

/-- An advancing frame brings the poked frames to its count. -/
@[simp] theorem ScanRun.advance_poked (r : ScanRun) (poked : Count32) : (r.advance poked).poked = poked := by
  unfold ScanRun.advance
  dsimp only
  split
  · rfl
  · split <;> simp

/-! ### The port at the soft reset -/

@[simp] theorem Port.soften_address (p : Port) : p.soften.address = p.address := rfl
@[simp] theorem Port.soften_features (p : Port) : p.soften.features = p.features := rfl
@[simp] theorem Port.soften_reply (p : Port) : p.soften.reply = p.reply := rfl
@[simp] theorem Port.soften_reception (p : Port) : p.soften.reception = p.reception := rfl
@[simp] theorem Port.soften_resetAfterReply (p : Port) : p.soften.resetAfterReply = p.resetAfterReply := rfl
@[simp] theorem Port.soften_resetsAtReplyEnd (p : Port) : p.soften.resetsAtReplyEnd = p.resetsAtReplyEnd := rfl
@[simp] theorem Port.soften_causes (p : Port) : p.soften.causes = 0 := rfl
@[simp] theorem Port.soften_mask (p : Port) : p.soften.mask = 0 := rfl
@[simp] theorem Port.soften_entries (p : Port) : p.soften.entries = [] := rfl

end Sys2Proof.Machine
end

