-- ==== Sys2Proof/Tests/Slice0.lean ====
section
/-! SUPPORT. The model's own tests: ill-formed commands that WellFormed refuses, the manual's examples and
tables, one step per command on a small state, and for each statement a state that meets its hypotheses. -/

namespace Sys2Proof.Tests

open Sys2Proof Sys2Proof.Machine

/-! ### Helpers -/

/-- The outcome is a next state with a property. -/
def gives (o : Host.Outcome State Fault Refusal) (p : State → Bool) : Bool :=
  match o with
  | .next t => p t
  | .fault _ => false
  | .refused _ => false

/-- An addressed request of master 3. -/
def addressed : Envelope := { master := 3, tag := 0x5A#8, broadcast := false, payloadFits := true }

/-- A broadcast of master 3. -/
def toAll : Envelope := { addressed with broadcast := true }

/-- An ACTIVE bank of 2 rows and 4 columns. -/
def smallBank : Bank :=
  { Bank.reset 0 with
    state := .active, rows := some 2, columns := some 4, shift := some 4, block := some 16 }

/-- A part in OPEN: two actuators on drive link 0, sensor 0 on columns 0..3, slope link 0 receiving. -/
def running : State :=
  { State.reset with
    loop := { Loop.reset with state := .opened }
    banks := [(0, smallBank)]
    table := { n := 2, records := [], pairs := [] }
    sensors := [(0, { role := .required, slopeCount := 4, scale := 16384, tag := 0, refs := [] })]
    slopeMap := [{ sensor := 0, first := 0, count := 4, column := 0 }]
    receivers := [(0, { Receiver.reset 0 with line := .up, silenceRunning := true, reception := some [] })]
    drive := { Drive.reset with links := [(0, { DriveLink.reset .dq1024 0 with state := .idle })] } }

/-- The work of one segment in slot 1 with two slopes left. -/
def slotOneWork : SegmentWork :=
  { slot := 1, link := 0, frame := 8#16, first := 0, count := 2, worked := 0, rest := [5, -7],
    scale := 16384, refs := [] }

/-- What the stage reads of `running` for frame 7 in slot 0, with one pair. -/
def stageSeven (dmax : Nat) : StageFrame :=
  { slot := 0, frame := 7#16, loopRead := .closed, n := 2, records := [], gains := [(0, { gain := 4096, leak := 0 })],
    pairs := [{ a := 0, b := 1, dmax := dmax }], poke := none }

/-- `running` with frame 7 in the stage, in slot 0, and the engine at work for frame 8 in slot 1. -/
def staged (phase : StagePhase) : State :=
  { running with
    slots := [(0, { Slot.reset 0 with state := .command, frame := 7#16, acc := [(0, 25600)] }),
              (1, { Slot.reset 1 with state := .opened, frame := 8#16, deadline := some 1000 })]
    engine := { Engine.reset with work := .segment slotOneWork }
    stage := { Stage.reset with phase := phase } }

/-- The shape of frame 7. -/
def shapeSeven : Shape := { states := [8414208, 8388608], outputs := [32868, 32768], clamp := 0 }

/-- Drive link 0's part in transaction 42. -/
def partZero : TxLink :=
  { link := 0, values := [32868, 32768], replyTimeout := 50, applyTimeout := 200, recoveryWindow := 100 }

/-- Drive link 1's part in transaction 42. -/
def partOne : TxLink := { partZero with link := 1 }

/-- Transaction 42 of a kind over some links. -/
def tx42 (kind : TxKind) (links : List TxLink) : Transaction :=
  { number := 42#8, kind := kind, frame := some 7#16, links := links, pulsed := false, dropped := false,
    timeoutReported := false, applied := [] }

/-- `s` with transaction 42, link 0 in a state with a timer, and link 1 in a state. -/
def inTx (s : State) (tx : Transaction) (zero : DriveState) (timer : Option LinkTimer) (one : DriveState) :
    State :=
  { s with drive := { s.drive with
      number := 42#8
      current := some tx
      links := [(0, { DriveLink.reset .dq1024 0 with state := zero, outstanding := some tx.ref, timer := timer }),
                (1, { DriveLink.reset .dq1024 1 with state := one, outstanding := some tx.ref })] } }

/-! ### WellFormed refuses what cannot come about -/

theorem test_wf_slope_link : (Instr.lockAchieved 4).wellFormed = false := by decide
theorem test_wf_drive_link : (Instr.recoveryLineIdle 2).wellFormed = false := by decide
theorem test_wf_slot : (Instr.deadlineExpiry 2).wellFormed = false := by decide
theorem test_wf_master_zero : (Instr.ident { addressed with master := 0 }).wellFormed = false := by decide
theorem test_wf_master_eight : (Instr.ident { addressed with master := 8 }).wellFormed = false := by decide
theorem test_wf_byte : (Instr.bankClear addressed 256).wellFormed = false := by decide
theorem test_wf_two_bytes : (Instr.actCount addressed 65536).wellFormed = false := by decide
theorem test_wf_signed : (Instr.refWrite addressed 0 0 1 [32768]).wellFormed = false := by decide
theorem test_wf_option : (Instr.featureGet addressed (some 256)).wellFormed = false := by decide
theorem test_wf_ref_count : (Instr.refWrite addressed 0 0 2 [1]).wellFormed = false := by decide
theorem test_wf_map_entry :
    (Instr.mapWrite addressed [{ sensor := 256, first := 0, count := 1, column := 0 }]).wellFormed = false := by
  decide
theorem test_wf_record :
    (Instr.actWrite addressed 0 [{ link := 0, channel := 65536, bias := 0, lo := 0, hi := 0, gainSet := 0 }]).wellFormed =
      false := by decide
theorem test_wf_payload : payloadTakes 2 7 293 = false := by decide
theorem test_wf_segment_length : (Instr.segmentArrival 0 (List.replicate 138 0#8)).wellFormed = false := by
  decide +kernel
theorem test_wf_frame : (Instr.requestFrameComplete [0#8, 1#8] []).wellFormed = false := by decide
theorem test_wf_return_frame :
    (Instr.returnFrameDiscard 0 (.frame (withCrc [1#8, 42#8]))).wellFormed = false := by decide +kernel
theorem test_wf_straps : (Instr.resetRelease 32).wellFormed = false := by decide
theorem test_wf_feature : (Instr.featureSet addressed 0 256).wellFormed = false := by decide
theorem test_wf_sound : (Instr.swap addressed 1 (some 7#16)).wellFormed = true := by decide

/-! ### The manual's numbers -/

/-- "123456789" as characters (R203). -/
def digits : List Byte := [0x31#8, 0x32#8, 0x33#8, 0x34#8, 0x35#8, 0x36#8, 0x37#8, 0x38#8, 0x39#8]

/-- R203's table. -/
theorem test_crc16_digits : crc16 digits = 0x29B1#16 := by decide +kernel
/-- R203's table. -/
theorem test_crc32_digits : crc32Final (crc32Feed crc32Start digits) = 0xFC891918#32 := by decide +kernel
/-- R203: a coefficient of -2 enters as FFh then FEh. -/
theorem test_coefficient_bytes : beInt16 (-2) = [0xFF#8, 0xFE#8] := by decide
/-- R1: 2.5, -2.5 and -12,056.5. -/
theorem test_rounding : roundDiv 5 2 = 3 ∧ roundDiv (-5) 2 = -3 ∧ roundDiv (-24113) 2 = -12057 := by decide
/-- R3's table. -/
theorem test_frame_order :
    newer 10#16 7#16 = true ∧ newer 5#16 65530#16 = true ∧ older 65530#16 5#16 = true ∧
      older 40000#16 7232#16 = true ∧ older 7232#16 40000#16 = true := by decide
/-- R63's table. -/
theorem test_residuals :
    residual (-98765432) 12 = -24113 ∧ residual 6144 12 = 2 ∧ residual (-6144) 12 = -2 ∧
      residual 167600 4 = 10475 ∧ residual (-104944) 4 = -6559 ∧ residual 1000 4 = 63 ∧
      residual (-1000) 4 = -63 ∧ residual 5000000000 8 = 8388607 ∧ residual (-9000000) 0 = -8388608 ∧
      residual 8795824586752 31 = 4096 := by decide
/-- R59's example: two columns into two rows. -/
theorem test_two_rows :
    accumulate (accumulate [] 1648 0 [100, -3]) (-400) 0 [-7, 250] = [(0, 167600), (1, -104944)] := by decide
/-- R113: d = -1 with a leak of 32,768 gives -1. -/
theorem test_leak : leakTerm 255 1 32768 = -1 := by decide
/-- The worked frame: x' and o of its two actuators (13_worked_sequences.md). -/
theorem test_worked_frame :
    let r : Actuator := { Actuator.reset 0 with lo := 2000, hi := 63000 }
    let g : Gain := { gain := 4096, leak := 0 }
    stagedState .closed r g 215 = 8388823 ∧ stagedState .closed { r with x := 8390000 } g (-188) = 8389812 ∧
      outputOf 8388823 = 32769 ∧ outputOf 8389812 = 32773 ∧
      violatedCount [{ a := 0, b := 1, dmax := 400 }] [32769, 32773] = 0 := by decide
/-- The worked frame's residuals and peak (13_worked_sequences.md). -/
theorem test_worked_residuals :
    residuals [(0, 6880), (1, -6000)] 2 5 = [215, -188] ∧ peakOf [215, -188] = (215, 0) := by decide

/-! ### One step per command -/

/-- The part has answered with a status. -/
def answered (status : Status) (t : State) : Bool := decide (t.port.reply.map (fun r => r.status) = some status)

/-- The payload of the part's reply. -/
def payloadOf (t : State) : List Byte := (t.port.reply.map (fun r => r.payload)).getD []

/-- `running` with a column of coefficients in column 0 of bank 0. -/
def matrix : State := { running with dram := [(0, 100), (1, -7)] }

/-- A segment of sensor 0, LAST, frame 7, slopes 2 and 3: 1,000 and the invalid marker. -/
def lastSegment : List Byte :=
  withCrc [0x80#8, 0x00#8, 0x07#8, 0x00#8, 0x02#8, 0x02#8, 0x03#8, 0xE8#8, 0x80#8, 0x00#8]

theorem test_lock_achieved :
    gives (exec (.lockAchieved 1) running) (fun t => decide ((t.receiver 1).line = .up)) = true := by decide
theorem test_loss_of_lock :
    gives (exec (.lossOfLock 0) running) (fun t =>
      decide ((t.receiver 0).line = .down ∧ (t.receiver 0).downCount = 1) && t.hasCause .linkDown) = true := by
  decide
theorem test_silence_timer :
    gives (exec (.silenceTimerExpiry 0) running) (fun t => decide ((t.receiver 0).line = .down)) = true := by
  decide
theorem test_start_delimiter :
    gives (exec (.startDelimiter { link := 0, gathered := [5#8] }) running) (fun t =>
      decide ((t.receiver 0).reception = some [5#8] ∧ (t.receiver 0).crcFail = 1)) = true := by decide
theorem test_idle_fill_cut :
    gives (exec (.idleFillCut 0) running) (fun t =>
      (t.receiver 0).reception.isNone && decide ((t.receiver 0).crcFail = 1)) = true := by decide
theorem test_excess_byte :
    gives (exec (.excessByte 0) running) (fun t =>
      (t.receiver 0).reception.isNone && decide ((t.receiver 0).crcFail = 1)) = true := by decide
/-- R9, R36, R39, R41: the only REQUIRED sensor is COMPLETE, so the frame closes at once. -/
theorem test_segment_closes_frame :
    gives (exec (.segmentArrival 0 lastSegment) running) (fun t =>
      decide ((t.slot 0).state = .fill ∧ (t.slot 0).frame = 7#16 ∧ (t.slot 0).coverage = [2, 3] ∧
        (t.slot 0).closeCause = some .allComplete ∧ t.lastClosed = some 7#16)) = true := by decide +kernel
/-- R5, R8: the segment arrives in two parts, the first gathered after its start delimiter. -/
theorem test_segment_in_parts :
    gives (exec (.startDelimiter { link := 0, gathered := lastSegment.take 9 }) running) (fun t =>
      gives (exec (.segmentArrival 0 (lastSegment.drop 9)) t) (fun u =>
        decide ((u.slot 0).coverage = [2, 3] ∧ (u.receiver 0).accepted = 1 ∧ (u.receiver 0).reception = none))) =
      true := by decide +kernel
/-- R9: a segment with a byte too many fails its CRC. -/
theorem test_segment_crc :
    gives (exec (.segmentArrival 0 (lastSegment ++ [1#8])) running) (fun t =>
      decide ((t.receiver 0).crcFail = 1 ∧ (t.slot 0).state = .free)) = true := by decide +kernel
/-- R56: 5 enters row 0 as 500 and row 1 as -35. -/
theorem test_slope_work :
    gives (exec (.slopeWork []) { staged (.building (stageSeven 400)) with dram := [(0, 100), (1, -7)] })
      (fun t => decide ((t.slot 1).acc = [(0, 500), (1, -35)] ∧ t.store = [(0, 5)])) = true := by decide
/-- R58: an uncorrectable read adds nothing. -/
theorem test_slope_work_damaged :
    gives (exec (.slopeWork [0]) { staged (.building (stageSeven 400)) with dram := [(0, 100), (1, -7)] })
      (fun t => decide ((t.slot 1).acc = []) && (t.slot 1).degraded && t.hasCause .matrixError &&
        decide ((t.bank 0).errorCount = 1)) = true := by decide
/-- R45: the REQUIRED sensor has sent nothing: the frame is MISSED, and its work is cut (R60). -/
theorem test_deadline_missed :
    gives (exec (.deadlineExpiry 1) (staged (.building (stageSeven 400)))) (fun t =>
      decide ((t.slot 1).state = .free ∧ t.lastClosed = some 8#16 ∧ t.loop.missedRun = 1 ∧
        t.engine.segmentsCut = 1)) = true := by decide

/-- `matrix` with frame 7 in FILL in slot 0, column 0 uncovered, and its pass at the start. -/
def filling : State :=
  { matrix with
    store := [(0, 10)]
    slots := [(0, { Slot.reset 0 with state := .fill, frame := 7#16, coverage := [1, 2, 3],
                                      acc := [(0, 5880), (1, -5930)] })]
    lastClosed := some 7#16
    engine := { Engine.reset with
      work := .fill { slot := 0, frame := 7#16, substitute := .holdLast, roles := [.required], position := 0 } } }

/-- R62: the stored 10 enters row 0 as 1,000 and row 1 as -70. -/
theorem test_fill_in_column :
    gives (exec (.fillInColumn false) filling) (fun t =>
      decide ((t.slot 0).acc = [(0, 6880), (1, -6000)] ∧ (t.slot 0).substituted = 1)) = true := by decide
/-- R63, R64 with S = 4, and R110: the stage takes the frame at once. -/
theorem test_residuals_done :
    gives (exec .residualsDone { filling with slots :=
      [(0, { Slot.reset 0 with state := .fill, frame := 7#16, coverage := [0, 1, 2, 3],
                               acc := [(0, 6880), (1, -6000)] })] }) (fun t =>
      decide ((t.slot 0).acc = [(0, 430), (1, -375)] ∧ (t.slot 0).peak = some (430, 0) ∧
        (t.slot 0).state = .command ∧ t.engine.passesDone = 1)) = true := by decide
/-- R113 to R116 with K = 1: x' = 8,414,208 and o = 32,868, and a gap of 100 is handed over. -/
theorem test_shape_checked :
    gives (exec .shapeChecked (staged (.building (stageSeven 100)))) (fun t =>
      decide (t.stage.phase = .sending (stageSeven 100) shapeSeven ∧
        t.drive.request = some { kind := .shape, frame := some 7#16, values := [32868, 32768] })) = true := by
  decide
/-- R118, R119: a gap of 100 over 99 drops the frame. -/
theorem test_stroke_drop :
    gives (exec .shapeChecked (staged (.building (stageSeven 99)))) (fun t =>
      decide (t.stage.phase = .idle ∧ t.stage.droppedStroke = 1 ∧ t.loop.strokeRun = 1 ∧
        (t.slot 0).state = .free ∧ t.drive.request = none)) = true := by decide

/-- `running` with a SHAPE transaction requested. -/
def requested : State :=
  { staged (.sending (stageSeven 400) shapeSeven) with drive := { running.drive with
      links := [(0, { DriveLink.reset .dq1024 0 with state := .idle, channels := 2 })]
      number := 41#8
      request := some { kind := .shape, frame := some 7#16, values := [32868, 32768] } } }

/-- R131, R133, R204: transaction 42 loads both channels of link 0, 8080h with the first raised by 100. -/
theorem test_transaction_begin :
    gives (exec (.transactionBegin true true) requested) (fun t =>
      decide ((t.driveLink 0).state = .loading ∧ t.drive.number = 42#8 ∧
        (t.driveLink 0).forward = .load (withCrc
          [0x01#8, 42#8, 0x00#8, 0x07#8, 0x00#8, 0x02#8, 0x80#8, 0x64#8, 0x80#8, 0x00#8]) ∧
        (t.driveLink 0).timer = some (.reply 50) ∧ (t.driveLink 1).state = .disabled)) = true := by
  decide +kernel
/-- R132: a return line that is not idle. -/
theorem test_transaction_begin_resync :
    gives (exec (.transactionBegin false true) requested) (fun t =>
      decide ((t.driveLink 0).state = .recovering ∧ (t.driveLink 0).forward = .resync ∧
        (t.driveLink 0).timer = some (.recovery 100))) = true := by decide

/-- Frame 7 sent in transaction 42, link 0 in a state with a timer. -/
def sending (zero : DriveState) (timer : Option LinkTimer) : State :=
  inTx (staged (.sending (stageSeven 400) shapeSeven)) (tx42 .shape [partZero]) zero timer .disabled

theorem test_recovery_line_idle :
    gives (exec (.recoveryLineIdle 0) (sending .recovering (some (.recovery 100)))) (fun t =>
      decide ((t.driveLink 0).state = .loading ∧ (t.driveLink 0).recovered = 1 ∧
        (t.driveLink 0).timer = some (.reply 50))) = true := by decide +kernel
theorem test_recovery_window :
    gives (exec (.recoveryWindowExpiry 0 { order := .dropFirst, between := none }) (sending .recovering (some (.recovery 100)))) (fun t =>
      decide ((t.driveLink 0).state = .faulted ∧ t.loop.state = .safe ∧ t.stage.droppedDrive = 1 ∧
        t.drive.current = none)) = true := by decide
/-- R136, R121: the last TAKEN brings the pulse and commits the frame. -/
theorem test_taken_commits :
    gives (exec (.takenReply 0 42#8 []) (sending .loading (some (.reply 50)))) (fun t =>
      decide ((t.driveLink 0).state = .applying ∧ t.drive.pulses = 1 ∧ t.stage.committed = 1 ∧
        (t.table.actuator 0).x = 8414208 ∧ (t.table.actuator 0).lastOutput = 32868 ∧
        (t.slot 0).state = .free)) = true := by decide
/-- R135: another transaction's number. -/
theorem test_taken_stray :
    gives (exec (.takenReply 0 41#8 []) (sending .loading (some (.reply 50)))) (fun t =>
      decide ((t.driveLink 0).state = .loading ∧ (t.driveLink 0).stray = 1)) = true := by decide
theorem test_refused_crc :
    gives (exec (.refusedReply 0 42#8 .crc none { order := .dropFirst, between := none }) (sending .loading (some (.reply 50)))) (fun t =>
      decide ((t.driveLink 0).state = .idle ∧ t.stage.droppedDrive = 1 ∧ t.loop.driveRun = 1 ∧
        t.drive.current = none ∧ t.loop.state = .opened)) = true := by decide
/-- R133: CHANNEL_FAULT leaves the link IDLE and makes the loop SAFE. -/
theorem test_refused_channel :
    gives (exec (.refusedReply 0 42#8 .channelFault (some 1) { order := .dropFirst, between := none })
      (sending .loading (some (.reply 50)))) (fun t =>
      decide ((t.driveLink 0).state = .idle ∧ t.loop.state = .safe ∧
        (t.loop.lastTransition.map (fun l => l.cause)) = some .refusedChannel)) = true := by decide
theorem test_reply_timer :
    gives (exec (.replyTimerExpiry 0) (sending .loading (some (.reply 50)))) (fun t =>
      decide ((t.driveLink 0).replyTimeouts = 1 ∧ t.stage.droppedDrive = 1)) = true := by decide
theorem test_return_frame_discard :
    gives (exec (.returnFrameDiscard 0 .cutShort) running) (fun t =>
      decide ((t.driveLink 0).rxError = 1)) = true := by decide
theorem test_applied :
    gives (exec (.appliedReply 0 42#8) (inTx running { tx42 .shape [partZero] with pulsed := true } .applying
      (some (.apply 200)) .disabled)) (fun t =>
      decide ((t.driveLink 0).state = .idle ∧ t.drive.current = none ∧ (t.driveLink 0).outstanding = none)) =
        true := by decide
theorem test_apply_timer :
    gives (exec (.applyTimerExpiry 0) (inTx running { tx42 .shape [partZero] with pulsed := true } .applying
      (some (.apply 200)) .disabled)) (fun t =>
      decide ((t.driveLink 0).state = .idle ∧ t.loop.driveRun = 1) && t.hasCause .driveFault) = true := by
  decide
/-- R138 after the pulse: the committed frame stays, and the loop is SAFE. -/
theorem test_fault_report :
    gives (exec (.faultReport 0 9#8 none { order := .dropFirst, between := none })
      (inTx running { tx42 .shape [partZero] with pulsed := true } .applying (some (.apply 200)) .disabled)) (fun t =>
      decide ((t.driveLink 0).state = .faulted ∧ t.loop.state = .safe ∧ t.stage.droppedDrive = 0 ∧
        t.drive.biasSend.isSome = true)) = true := by decide

/-- LOOP_OPEN without a frame for address 0 from master 3 (R205). -/
def loopOpenBytes : List Byte :=
  withCrc [0x00#8, 0x03#8, 0x25#8, 0x5A#8, 0x00#8, 0x00#8, 0x00#8, 0x00#8, 0x00#8, 0x03#8, 0x00#8, 0x00#8, 0x00#8]

/-- A SAFE cause with that LOOP_OPEN between the link's act and the entry. -/
def openBetween : SafeEntry :=
  { order := .dropFirst, between := some { bytes := loopOpenBytes, uncorrectable := [] } }

/-- R154: a LOOP_OPEN that comes between in HOLD is refused, and the entry to SAFE follows. -/
theorem test_fault_report_between :
    gives (exec (.faultReport 0 9#8 none openBetween)
      { running with loop := { Loop.reset with state := .hold } }) (fun t =>
      decide (t.port.reply.map (fun r => r.status) = some .wrongState ∧
        (t.port.entry 3).map (fun e => e.detail) = some .linkFaulted ∧ t.loop.state = .safe)) = true := by
  decide +kernel

/-- A LOADING bank of 2 rows and 2 columns, owned by master 3. -/
def loading : State :=
  { State.reset with
    banks := [(1, { Bank.reset 0 with state := .loading, rows := some 2, columns := some 2, shift := some 0,
                                      block := some 16, committed := [0] })]
    dram := [(dramAddress 1 0 0, 1), (dramAddress 1 0 1, -2)]
    loader := { Loader.reset with state := .loading 1 3 } }

/-- The same bank in its verify pass, with a column still to read. -/
def verifying (verified : Nat) (expected : BitVec 32) : State :=
  { loading with
    banks := [(1, { Bank.reset 0 with state := .verifying, rows := some 2, columns := some 1, shift := some 0,
                                      block := some 16, committed := [0], verified := verified,
                                      expectedCrc := some expected })]
    loader := { Loader.reset with state := .verifying 1 3 } }

theorem test_verify_failed :
    gives (exec (.verifyColumnRead true) (verifying 0 0)) (fun t =>
      decide ((t.bank 1).state = .loaded ∧ (t.bank 1).failingColumn = some 0 ∧ (t.bank 1).unverified = some 1 ∧
        t.loader.state = .idle)) = true := by decide
/-- R203: the CRC-32 of coefficients 1 and -2 (bytes 00h 01h FFh FEh). -/
theorem test_verify_matched :
    gives (exec (.verifyColumnRead false)
      (verifying 0 (crc32Final (crc32Feed crc32Start [0x00#8, 0x01#8, 0xFF#8, 0xFE#8])))) (fun t =>
      decide ((t.bank 1).state = .ready ∧ (t.bank 1).outcome = some .matched) && t.hasCause .loadDone) = true := by
  decide +kernel
theorem test_bus_silence_gap :
    gives (exec .busSilenceGap State.reset) (fun t => decide (t.port.gap = 1)) = true := by decide
theorem test_overlength_header :
    gives (exec .overlengthHeader State.reset) (fun t => decide (t.port.overlength = 1)) = true := by decide
/-- R187, R205: LOOP_STOP for address 0 from master 3, spelled byte by byte. -/
theorem test_request_frame :
    gives (exec (.requestFrameComplete (withCrc
      [0x00#8, 0x03#8, 0x27#8, 0x5A#8, 0x00#8, 0x00#8, 0x00#8, 0x00#8, 0x00#8, 0x00#8]) []) running) (fun t =>
      answered .ok t && decide (t.loop.state = .stopped ∧ t.port.framesTaken = 1)) = true := by decide +kernel
/-- R188: code 0 is none the part knows. -/
theorem test_request_frame_unknown :
    gives (exec (.requestFrameComplete (withCrc
      [0x00#8, 0x03#8, 0x00#8, 0x5A#8, 0x00#8, 0x00#8, 0x00#8, 0x00#8, 0x00#8, 0x00#8]) []) running) (fun t =>
      answered .unknownRequest t && decide ((t.port.entry 3).map (fun e => e.code) = some 0)) = true := by
  decide +kernel

/-- `running` with a reply to be sent. -/
def replying : State := replyWith addressed .ok false [] running

theorem test_reply_sent :
    gives (exec .replySent replying) (fun t => decide (t.port.reply = none ∧ t.port.replyLost = 0)) = true := by
  decide
theorem test_reply_lost :
    gives (exec .replyLost replying) (fun t => decide (t.port.reply = none ∧ t.port.replyLost = 1)) = true := by
  decide
theorem test_hard_reset :
    gives (exec .hardReset running) (fun t =>
      t.resetLow && decide (t.loop.state = .stopped ∧ (t.bank 0).state = .empty ∧ t.table.n = 0)) = true := by decide
theorem test_reset_release :
    gives (exec (.resetRelease 9) { State.reset with resetLow := true }) (fun t =>
      !t.resetLow && decide (t.port.address = 9)) = true := by decide
/-- R14: line UP, silence timer running, no head waiting, counts 0. -/
theorem test_link_status :
    gives (exec (.linkStatus addressed 0 0) running) (fun t => answered .ok t &&
      decide ((payloadOf t).getD 0 0#8 = 1#8)) = true := by decide
theorem test_link_status_absent :
    gives (exec (.linkStatus addressed 1 2) running) (answered .notPresent) = true := by decide
theorem test_link_counters_clear :
    gives (exec (.linkCountersClear addressed 0 0) (running.modifyReceiver 0 (fun r => { r with late := 5 })))
      (fun t => answered .ok t && decide ((t.receiver 0).late = 0)) = true := by decide
/-- R19: the last REQUIRED sensor of a running loop keeps its role. -/
theorem test_sensor_role_conflict :
    gives (exec (.sensorRole addressed 0 1) running) (answered .conflict) = true := by decide
theorem test_sensor_role :
    gives (exec (.sensorRole addressed 1 0) running) (fun t =>
      answered .ok t && decide ((t.sensor 1).role = .required)) = true := by decide
theorem test_sensor_tag :
    gives (exec (.sensorTag addressed 0 15) running) (fun t =>
      answered .ok t && decide ((t.sensor 0).tag = 15)) = true := by decide
theorem test_sensor_scale :
    gives (exec (.sensorScale addressed 0 8192) running) (fun t =>
      answered .ok t && decide ((t.sensor 0).scale = 8192)) = true := by decide
theorem test_sensor_count :
    gives (exec (.sensorCount addressed 0 2048) State.reset) (fun t =>
      answered .ok t && decide ((t.sensor 0).slopeCount = 2048)) = true := by decide
theorem test_sensor_count_running :
    gives (exec (.sensorCount addressed 0 2048) running) (answered .wrongState) = true := by decide
theorem test_sensor_read :
    gives (exec (.sensorRead addressed 0) running) (fun t =>
      decide (payloadOf t = [0#8, 0#8, 4#8, 0x40#8, 0#8, 0#8])) = true := by decide
theorem test_ref_write :
    gives (exec (.refWrite addressed 0 1 2 [-5, 9]) running) (fun t =>
      answered .ok t && decide ((t.sensor 0).refs = [(1, -5), (2, 9)])) = true := by decide
theorem test_ref_read :
    gives (exec (.refRead addressed 0 0 2) (running.setSensor 0 { Sensor.reset 0 with refs := [(1, -2)] }))
      (fun t => decide (payloadOf t = [0#8, 0#8, 0xFF#8, 0xFE#8])) = true := by decide
theorem test_map_write :
    gives (exec (.mapWrite addressed [{ sensor := 0, first := 0, count := 2, column := 6 }])
      { running with loop := Loop.reset, store := [(1, 7)] }) (fun t =>
      answered .ok t && decide (highestColumn t.slopeMap = some 7 ∧ t.store = [])) = true := by decide
/-- R29: two entries over one column. -/
theorem test_map_write_overlap :
    gives (exec (.mapWrite addressed [{ sensor := 0, first := 0, count := 2, column := 0 },
      { sensor := 0, first := 2, count := 2, column := 1 }]) { running with loop := Loop.reset })
      (answered .conflict) = true := by decide
theorem test_map_read :
    gives (exec (.mapRead addressed) running) (fun t =>
      decide (payloadOf t = [0#8, 1#8, 0#8, 0#8, 0#8, 0#8, 4#8, 0#8, 0#8, 1#8, 0#8, 3#8])) = true := by decide
theorem test_store_read :
    gives (exec (.storeRead addressed 0 2) { running with store := [(1, 300)] }) (fun t =>
      decide (payloadOf t = [0#8, 0#8, 0x01#8, 0x2C#8])) = true := by decide
/-- R50: L absent, then two FREE slots. -/
theorem test_slot_status :
    gives (exec (.slotStatus addressed) running) (fun t => answered .ok t &&
      decide ((payloadOf t).take 4 = [0#8, 0#8, 0#8, 0#8])) = true := by decide
theorem test_engine_status :
    gives (exec (.engineStatus addressed) running) (fun t => answered .ok t &&
      decide ((payloadOf t).take 1 = [0#8])) = true := by decide
theorem test_load_open :
    gives (exec (.loadOpen addressed 1 2 4 0 16) running) (fun t =>
      answered .ok t && decide ((t.bank 1).state = .loading ∧ t.loader.state = .loading 1 3)) = true := by decide
/-- R70: the ACTIVE bank. -/
theorem test_load_open_active :
    gives (exec (.loadOpen addressed 0 2 4 0 16) running) (answered .wrongState) = true := by decide
theorem test_load_segment :
    gives (exec (.loadSegment addressed 1 0 [5, -6]) loading) (fun t =>
      answered .ok t && decide ((t.bank 1).committed = [0, 1] ∧ t.coefficient 1 1 1 = -6)) = true := by decide
theorem test_load_segment_done :
    gives (exec (.loadSegment addressed 0 0 [5, -6]) loading) (answered .columnDone) = true := by decide
/-- R75, R76: row 0 was not received and reads 0. -/
theorem test_load_flush :
    gives (exec (.loadFlush addressed) { loading with loader := { loading.loader with
      bufferA := some { column := 1, rows := [1], values := [(1, 9)], touched := 1 } } }) (fun t =>
      decide (payloadOf t = [1#8, 1#8] ∧ (t.bank 1).zeroFilled = 1 ∧ t.coefficient 1 1 0 = 0 ∧
        t.coefficient 1 1 1 = 9)) = true := by decide
theorem test_load_close_incomplete :
    gives (exec (.loadClose addressed 0#32) loading) (fun t => answered .incomplete t &&
      decide ((t.port.entry 3).map (fun e => e.value) = some (some 1))) = true := by decide
theorem test_load_close :
    gives (exec (.loadClose addressed 0#32) (loading.modifyBank 1 (fun r => { r with committed := [0, 1] })))
      (fun t => answered .accepted t && decide ((t.bank 1).state = .verifying)) = true := by decide
theorem test_load_abort :
    gives (exec (.loadAbort addressed) loading) (fun t =>
      answered .ok t && decide ((t.bank 1).state = .empty ∧ t.loader.state = .idle)) = true := by decide
/-- R69: another master. -/
theorem test_load_abort_other :
    gives (exec (.loadAbort { addressed with master := 4 }) loading) (answered .notOwner) = true := by decide
theorem test_block_reopen :
    gives (exec (.blockReopen addressed 1 0) { loading with
      loader := Loader.reset
      banks := [(1, { loading.bank 1 with state := .loaded, recordedOwner := some 3 })] }) (fun t =>
      answered .ok t && decide ((t.bank 1).state = .loading ∧ (t.bank 1).committed = [])) = true := by decide
theorem test_bank_clear :
    gives (exec (.bankClear addressed 0) running) (answered .wrongState) = true := by decide
theorem test_load_status :
    gives (exec (.loadStatus addressed 1 0 0) loading) (fun t =>
      decide ((payloadOf t).take 5 = [1#8, 1#8, 1#8, 1#8, 3#8])) = true := by decide

/-- `running` with a second bank READY. -/
def twoBanks : State :=
  { running with banks := [(0, smallBank), (1, { smallBank with state := .ready })] }

theorem test_swap_waits :
    gives (exec (.swap addressed 1 none) twoBanks) (fun t =>
      answered .ok t && decide ((t.bank 1).state = .pending)) = true := by decide
/-- R87: frame 7 is not newer than L. -/
theorem test_swap_late :
    gives (exec (.swap toAll 1 (some 7#16)) { twoBanks with lastClosed := some 7#16 }) (fun t =>
      t.hasCause .swapLate && t.hasCause .broadcastRefused && decide ((t.bank 1).state = .ready)) = true := by
  decide
theorem test_swap_cancel :
    gives (exec (.swapCancel toAll) (twoBanks.modifyBank 1 (fun r =>
      { r with state := .pending, pendingFrame := some .next }))) (fun t =>
      t.hasCause .swapCancelled && decide ((t.bank 1).state = .ready ∧ t.port.reply = none)) = true := by decide
theorem test_act_count :
    gives (exec (.actCount addressed 2) State.reset) (fun t =>
      answered .ok t && decide (t.table.n = 2 ∧ (t.driveLink 0).state = .idle)) = true := by decide
/-- A record of link 0, channel 0, limits 2,000 and 4,000. -/
def fields (bias : Nat) : ActFields := { link := 0, channel := 0, bias := bias, lo := 2000, hi := 4000, gainSet := 1 }

theorem test_act_write :
    gives (exec (.actWrite addressed 0 [fields 3000]) running) (fun t =>
      answered .ok t && decide ((t.table.actuator 0).x = 256 * 4000 ∧ (t.table.actuator 0).bias = 3000)) =
        true := by decide
/-- R102: a bias above hi. -/
theorem test_act_write_limit :
    gives (exec (.actWrite addressed 0 [fields 5000]) running) (answered .limit) = true := by decide
theorem test_act_mode :
    gives (exec (.actMode addressed 1 2 (some 40000)) running) (fun t =>
      answered .ok t && decide ((t.table.actuator 1).mode = .forced ∧ (t.table.actuator 1).x = 10240000)) =
        true := by decide
/-- R99: the same edit in flight is held. -/
theorem test_act_mode_held :
    gives (exec (.actMode addressed 1 2 (some 40000)) (staged (.building (stageSeven 400)))) (fun t =>
      answered .ok t && decide (t.table = running.table ∧ t.hold = [.mode 1 .forced (some 40000)])) = true := by
  decide
theorem test_act_read :
    gives (exec (.actRead addressed 1 1) running) (fun t => decide ((payloadOf t).length = 19)) = true := by decide
theorem test_gain_write :
    gives (exec (.gainWrite addressed 7 4096 65535) running) (fun t =>
      answered .ok t && decide (t.gain 7 = { gain := 4096, leak := 65535 })) = true := by decide
theorem test_gain_read :
    gives (exec (.gainRead addressed) running) (fun t => decide ((payloadOf t).length = 32)) = true := by decide
theorem test_pair_write :
    gives (exec (.pairWrite addressed 0 1 0) running) (fun t =>
      answered .ok t && decide (t.table.pairs = [{ a := 0, b := 1, dmax := 0 }])) = true := by decide
theorem test_pair_remove :
    gives (exec (.pairRemove addressed 1 0) { running with table := { running.table with
      pairs := [{ a := 0, b := 1, dmax := 0 }] } }) (fun t =>
      answered .ok t && decide (t.table.pairs = [])) = true := by decide
theorem test_pair_read :
    gives (exec (.pairRead addressed 0 1) running) (fun t =>
      decide (payloadOf t = [0#8, 0#8, 0#8, 0#8, 0#8, 0#8, 0#8, 0#8, 0#8, 0#8])) = true := by decide
theorem test_stage_status :
    gives (exec (.stageStatus addressed) running) (fun t => decide ((payloadOf t).length = 34)) = true := by decide
theorem test_link_reset :
    gives (exec (.linkReset addressed 0) (running.modifyDriveLink 0 (fun r => { r with state := .faulted })))
      (fun t => answered .ok t && decide ((t.driveLink 0).state = .idle)) = true := by decide
/-- R4, R144: a reply timeout of 1 is brought to 5. -/
theorem test_link_config :
    gives (exec (.linkConfig addressed 0 1024 32768 1 200 100) running) (fun t =>
      decide (t.port.reply.map (fun r => r.clamped) = some true ∧ (t.driveLink 0).replyTimeout = 5)) = true := by
  decide
/-- R150: no REQUIRED sensor and no ACTIVE bank. -/
theorem test_loop_open_no_matrix :
    gives (exec (.loopOpen addressed none) State.reset) (answered .noMatrix) = true := by decide
theorem test_loop_open :
    gives (exec (.loopOpen addressed none) { running with loop := Loop.reset }) (fun t =>
      answered .ok t && decide (t.loop.state = .opened)) = true := by decide
theorem test_loop_close :
    gives (exec (.loopClose addressed (some 8#16)) running) (fun t =>
      answered .ok t && decide (t.loop.pendingTransition =
        some { target := .closed, frame := 8#16, sender := 3 })) = true := by decide
theorem test_loop_stop :
    gives (exec (.loopStop toAll) (staged (.building (stageSeven 400)))) (fun t =>
      decide (t.loop.state = .stopped ∧ (t.slot 0).state = .free ∧ t.stage.phase = .idle ∧ t.stage.cut = 1 ∧
        t.engine.segmentsCut = 1)) = true := by decide
theorem test_loop_safe :
    gives (exec (.loopSafe addressed) running) (fun t =>
      answered .ok t && t.hasCause .safeEntered && decide (t.loop.state = .safe ∧
        t.drive.request = some { kind := .bias, frame := none, values := [32768, 32768] })) = true := by decide
theorem test_flatten :
    gives (exec (.flatten addressed) { running with loop := Loop.reset }) (fun t =>
      answered .accepted t && t.drive.biasSend.isSome) = true := by decide
theorem test_flatten_running :
    gives (exec (.flatten addressed) running) (answered .wrongState) = true := by decide
theorem test_loop_config :
    gives (exec (.loopConfig addressed 6000 4 2 3) running) (fun t =>
      decide (t.port.reply.map (fun r => r.clamped) = some true ∧ t.loop.deadline = 5000)) = true := by decide
theorem test_loop_status :
    gives (exec (.loopStatus addressed) running) (fun t => decide ((payloadOf t).head? = some 1#8)) = true := by
  decide
theorem test_scan_start :
    gives (exec (.scanStart addressed 0 1 300 2 1 1) running) (fun t =>
      answered .ok t && decide (t.scan.state = .running ∧ (t.scan.run.map (fun r => r.framesLeft)) = some 2)) =
        true := by decide
/-- R168: an actuator that N does not reach. -/
theorem test_scan_start_absent :
    gives (exec (.scanStart addressed 0 2 300 2 1 1) running) (answered .conflict) = true := by decide

/-- `running` with a scan of actuator 0. -/
def scanning : State :=
  { running with scan :=
    { state := .running
      run := some { low := 0, high := 0, amplitude := 300, dwell := 1, pattern := .push, cycles := 1,
                    actuator := 0, phase := .push, framesLeft := 1, cyclesDone := 0, endCause := none }
      poked := 0 } }

theorem test_scan_stop :
    gives (exec (.scanStop addressed) scanning) (fun t =>
      answered .ok t && decide (t.scan.state = .aborted ∧ t.telem.fifo.length = 1)) = true := by decide
theorem test_scan_status :
    gives (exec (.scanStatus addressed) scanning) (fun t =>
      decide ((payloadOf t).take 2 = [1#8, 1#8])) = true := by decide
theorem test_telem_select :
    gives (exec (.telemSelect addressed 0x7F#16) running) (fun t =>
      answered .ok t && decide (t.telem.selection = 0x7F#7)) = true := by decide
theorem test_telem_select_unknown :
    gives (exec (.telemSelect addressed 0x80#16) running) (answered .badArgument) = true := by decide

/-- `running` with two EVENT records in the FIFO. -/
def twoRecords : State :=
  { running with telem := { running.telem with
      fifo := [Record.blank .event .opened, { Record.blank .event .closed with capture := some 0 }]
      captures := [(0, some { frame := 7#16, columns := 4, n := 2, slopes := [(1, 9)], outputs := [1, 2] })] } }

theorem test_telem_pop :
    gives (exec (.telemPop addressed 8) twoRecords) (fun t =>
      decide ((payloadOf t).length = 88 ∧ t.telem.fifo = [] ∧ (t.telem.captureSlot 0).isNone)) = true := by
  decide +kernel
theorem test_capture_read :
    gives (exec (.captureRead addressed 0 1 4 []) twoRecords) (fun t =>
      decide ((payloadOf t).drop 7 = [0#8, 9#8, 0#8, 0#8, 0#8, 0#8, 0#8, 1#8])) = true := by decide
theorem test_telem_status :
    gives (exec (.telemStatus addressed) twoRecords) (fun t =>
      decide ((payloadOf t).take 2 = [0#8, 2#8])) = true := by decide
theorem test_telem_reset :
    gives (exec (.telemReset addressed) twoRecords) (fun t =>
      answered .ok t && decide (t.telem.fifo = [] ∧ (t.telem.captureSlot 0).isNone)) = true := by decide
theorem test_ident :
    gives (exec (.ident addressed) State.reset) (fun t => answered .ok t) = true := by decide
theorem test_port_status :
    gives (exec (.portStatus addressed) running) (fun t => decide ((payloadOf t).length = 36)) = true := by decide
theorem test_fault_detail :
    gives (exec (.faultDetail addressed) running) (fun t => decide (payloadOf t = List.replicate 14 0#8)) = true := by
  decide
/-- R195: 9 ms is brought to 10. -/
theorem test_feature_set :
    gives (exec (.featureSet addressed 3 9) running) (fun t =>
      decide (t.port.reply.map (fun r => r.clamped) = some true ∧ t.port.features.loadIdleLimit = 10)) = true := by
  decide
theorem test_feature_get :
    gives (exec (.featureGet addressed (some 3)) running) (fun t => answered .ok t) = true := by decide
theorem test_feature_get_unknown :
    gives (exec (.featureGet addressed (some 4)) running) (answered .badArgument) = true := by decide
theorem test_attn_mask :
    gives (exec (.attnMask addressed 1#16) { running with port := { running.port with causes := 1#13 } })
      (fun t => answered .ok t && t.attentionLine) = true := by decide
theorem test_attn_read :
    gives (exec (.attnRead addressed) { running with port := { running.port with causes := 0x0100#13 } })
      (fun t => decide (payloadOf t = [1#8, 0#8, 0#8, 0#8])) = true := by decide
theorem test_attn_ack :
    gives (exec (.attnAck addressed 1#16) { running with port := { running.port with causes := 3#13 } })
      (fun t => answered .ok t && decide (t.port.causes = 2#13)) = true := by decide
/-- R200: an addressed RESET_SOFT waits for its reply. -/
theorem test_reset_soft :
    gives (exec (.resetSoft addressed) running) (fun t =>
      answered .ok t && t.port.resetAfterReply && decide (t.loop.state = .opened)) = true := by decide
theorem test_reset_soft_broadcast :
    gives (exec (.resetSoft toAll) running) (fun t =>
      decide (t.loop.state = .stopped ∧ (t.bank 0).state = .active ∧ t.slopeMap = running.slopeMap)) = true := by
  decide
theorem test_reply_would_have_ended :
    gives (exec .replyWouldHaveEnded { running with port := { running.port with resetsAtReplyEnd := 2 } })
      (fun t => decide (t.loop.state = .stopped ∧ t.port.resetsAtReplyEnd = 1)) = true := by decide

/-! ### A witness for every statement with hypotheses -/

/-- A property of the default and of every listed value is one of every index. -/
theorem get_all {α : Type} {d : Nat → α} {t : Table α} {P : α → Prop} (hd : ∀ k, P (d k))
    (ht : ∀ e ∈ t, P e.2) (k : Nat) : P (Table.get d t k) := by
  induction t with
  | nil => exact hd k
  | cons e rest ih =>
    unfold Table.get
    split
    · exact ht e (List.mem_cons_self ..)
    · exact ih (fun x hx => ht x (List.mem_cons_of_mem _ hx))

theorem every_receiver {s : State} {P : Receiver → Prop} (hd : P (Receiver.reset 0))
    (ht : ∀ e ∈ s.receivers, P e.2) : ∀ n, P (s.receiver n) := get_all (fun _ => hd) ht

theorem every_bank {s : State} {P : Bank → Prop} (hd : P (Bank.reset 0)) (ht : ∀ e ∈ s.banks, P e.2) :
    ∀ b, P (s.bank b) := get_all (fun _ => hd) ht

theorem every_link {s : State} {P : DriveLink → Prop} (hd : P (DriveLink.reset s.variant 0))
    (ht : ∀ e ∈ s.drive.links, P e.2) : ∀ l, P (s.driveLink l) := get_all (fun _ => hd) ht

theorem every_drive_link {s : State} {P : Nat → Prop} (h : ∀ l, l < Config.driveLinks s.variant → P l) :
    ∀ l, s.hasDriveLink l = true → P l := fun l hl => h l (of_decide_eq_true hl)

theorem every_slope_link {s : State} {P : Nat → Prop} (h : ∀ n, n < Config.slopeLinks s.variant → P n) :
    ∀ n, s.hasSlopeLink n = true → P n := fun n hn => h n (of_decide_eq_true hn)

theorem addressed_arrives {s : State} (hl : s.resetLow = false) (ha : s.port.address ≠ 31) :
    arrives addressed s := ⟨⟨hl, by decide, rfl, ha⟩, rfl⟩

/-- A state with a command that waits. -/
def waiting (c : Instr) (s : State) : State := { s with pending := [c] }

theorem witness_StepRunsFrontCommand : State.reset.pending = [] := rfl

theorem witness_ResetLineHoldsPart :
    let low : State := { State.reset with resetLow := true }
    (low.resetLow = true ∧ Instr.lockAchieved 0 ≠ .hardReset ∧ ∀ n, Instr.lockAchieved 0 ≠ .resetRelease n) ∧
      State.reset.resetLow = false :=
  ⟨⟨rfl, by decide, nofun⟩, rfl⟩

theorem witness_StoresStayBounded :
    let s := waiting (.lockAchieved 1) { running with dram := [(0, 100)], store := [(4, -1)] }
    s.bounded ∧ completes (step s) :=
  ⟨⟨by unfold State.fifoBounded; decide, every_receiver (P := fun r => r.queue.length ≤ Config.queueDepth)
      (by decide) (by decide), by unfold State.holdBounded; decide, by unfold State.tablesWf; decide⟩,
    _, rfl⟩

theorem witness_SlotsStaySound :
    let s := waiting .shapeChecked { staged (.building (stageSeven 400)) with lastClosed := some 7#16 }
    s.slotsSound ∧ completes (step s) := by
  refine ⟨⟨by unfold State.oneCommand; decide, ⟨by decide, rfl⟩, ⟨by decide, .inl rfl⟩, ?_, by decide⟩, _, rfl⟩
  · intro k hk ho l hl
    have hl : (some 7#16 : Option Frame) = some l := hl
    cases hl
    revert k
    decide

theorem running_banksSound : running.banksSound := by
  refine ⟨by unfold State.banksExclusive; decide, ⟨every_bank (P := fun b => b.rowCount ≤ 1024 ∧ b.columnCount ≤ 8192)
    (by decide) (by decide), (by decide : ∀ b, b < 2 → (running.bank b).state.inLoad = false)⟩, ⟨by decide, by decide, by decide⟩, fun h => ?_⟩
  exact absurd h (by decide)

theorem running_slotsSound : running.slotsSound := by
  refine ⟨by unfold State.oneCommand; decide,
    (by decide : ∀ k, k < 2 → (running.slot k).state ≠ .command), trivial, nofun, by decide⟩

/-- The engine at the end of a fill-in pass. -/
theorem witness_BanksStaySound :
    let s := waiting .residualsDone filling
    s.slotsSound ∧ s.banksSound ∧ completes (step s) := by
  refine ⟨⟨by unfold State.oneCommand; decide,
      (by decide : ∀ k, k < 2 → (filling.slot k).state ≠ .command), ⟨by decide, rfl⟩, ?_, by decide⟩,
    ⟨by unfold State.banksExclusive; decide,
      ⟨every_bank (P := fun b => b.rowCount ≤ 1024 ∧ b.columnCount ≤ 8192) (by decide) (by decide),
        (by decide : ∀ b, b < 2 → (filling.bank b).state.inLoad = false)⟩,
      ⟨by decide, by decide, by decide⟩, fun h => absurd h (by decide)⟩, _, rfl⟩
  exact fun k hk ho => absurd ho ((by decide : ∀ k, k < 2 → (filling.slot k).state ≠ .opened) k hk)

theorem loading_loaderSound : loading.loaderSound := by
  refine ⟨every_bank (P := fun b => b.rowCount ≤ 1024 ∧ b.columnCount ≤ 8192) (by decide) (by decide),
    by decide, by decide, by decide, ?_⟩
  intro name x h
  cases name <;> cases h

theorem witness_OnlyTheLoadingBankIsWritten :
    loading.loaderSound ∧ Instr.loadSegment addressed 1 0 [5, -6] ≠ .hardReset ∧
      completes (exec (.loadSegment addressed 1 0 [5, -6]) loading) ∧ (0 : Nat) < 2 ∧
      (loading.bank 0).state ≠ .loading ∧ (8191 : Nat) < 8192 ∧ (1023 : Nat) < 1024 :=
  ⟨loading_loaderSound, by decide, ⟨_, rfl⟩, by decide, by decide, by decide, by decide⟩

theorem witness_CapturesStayNamed :
    let s := waiting (.telemPop addressed 8) twoRecords
    s.capturesNamed ∧ completes (step s) :=
  ⟨by unfold State.capturesNamed; decide, _, rfl⟩

theorem running_sensors (n : Nat) (h : running.hasSlopeLink n = true) : (running.sensor n).inRange := by
  have hz : ∀ i, (-32767 : Int) ≤ zeroes i ∧ zeroes i ≤ 32767 := fun _ => by unfold zeroes; decide
  have hn : n < 4 := of_decide_eq_true h
  match n, hn with
  | 0, _ => exact ⟨by decide, by decide, by decide, hz⟩
  | 1, _ => exact ⟨by decide, by decide, by decide, hz⟩
  | 2, _ => exact ⟨by decide, by decide, by decide, hz⟩
  | 3, _ => exact ⟨by decide, by decide, by decide, hz⟩

theorem running_tableInRange : running.tableInRange := by
  refine ⟨⟨by decide, fun a ha => ?_, by decide, nofun⟩, nofun, by decide, fun _ => rfl⟩
  show 0 < 2 ∧ a < 1024 ∧ 0 ≤ 32768 ∧ 32768 ≤ 65535 ∧ 65535 ≤ 65535 ∧ 0 ≤ 7
  exact ⟨by decide, ha, by decide⟩

theorem witness_ConfigurationStaysInRange :
    let s := waiting (.loopConfig addressed 20 255 1 255) running
    s.configured ∧ completes (step s) := by
  refine ⟨⟨by decide, by decide, by decide, by decide, by decide, ?_, running_sensors, ?_, fun k => ?_,
    running_tableInRange, by decide⟩, _, rfl⟩
  · exact every_link (P := fun r => (1 ≤ r.channels ∧ r.channels ≤ 1024) ∧
      (5 ≤ r.replyTimeout ∧ r.replyTimeout ≤ 500) ∧ (5 ≤ r.applyTimeout ∧ r.applyTimeout ≤ 2000) ∧
      (10 ≤ r.recoveryWindow ∧ r.recoveryWindow ≤ 1000) ∧ r.park ≤ 65535) (by decide) (by decide)
  · unfold State.entryInRange; decide
  · show 0 ≤ 65535 ∧ 0 ≤ 65535
    decide

/-- A record at its reset values is sound. -/
theorem reset_sound (a : Nat) : (Actuator.reset a).sound := by
  show 0 ≤ 32768 ∧ 32768 ≤ 65535 ∧ 256 * 0 ≤ 8388608 ∧ 8388608 ≤ 256 * 65535
  decide

theorem witness_StrokeLimitsHold :
    let s := waiting .shapeChecked { staged (.building (stageSeven 400)) with hold := [.mode 1 .forced (some 65535)] }
    s.limitsSound ∧ completes (step s) := by
  refine ⟨⟨fun a => reset_sound a, ⟨⟨by decide, by decide⟩, trivial⟩, fun a => ⟨reset_sound a, rfl, rfl⟩, by decide, by decide, by decide, nofun, nofun, nofun⟩,
    _, rfl⟩

theorem witness_RoundingIsToNearestTiesAway : 0 < 2 ∧ (2 : Int) ≠ roundDiv 5 2 := by decide

theorem witness_SaturationTakesTheNearerEnd :
    (-32767 : Int) ≤ 32767 ∧ (-32768 : Int) < -32767 ∧ (32767 : Int) < 32768 ∧
      ((-32767 : Int) ≤ -32767 ∧ (-32767 : Int) ≤ 32767) := by decide

theorem witness_FrameOrder : ((40000#16).toNat + 65536 - (7232#16).toNat) % 65536 = 32768 := by decide

/-- A CAPTURE_READ with a position whose read is uncorrectable. -/
def captureCommand : Instr := .captureRead addressed 31 8191 1 [0]

theorem witness_RequestIsReadAsWritten :
    captureCommand.wellFormed = true ∧ (∃ w, wireOf captureCommand = some (addressed, w)) ∧
      addressed.payloadFits = true ∧
      ∀ e slot offset length u, captureCommand = .captureRead e slot offset length u → u = [0] :=
  ⟨by decide, ⟨_, rfl⟩, rfl, fun _ _ _ _ _ h => by cases h; rfl⟩

theorem witness_CrcDetectsAChangedByte :
    (withCrc [5#8])[0]? = some 5#8 ∧ (withCrc [5#8])[2]? = some ((withCrc [5#8]).getD 2 0#8) ∧
      6#8 ≠ (5#8 : Byte) := by decide +kernel

/-- The ten header bytes of a frame without payload, by address, master and code, with its CRC. -/
def plainFrame (address master code : Byte) : List Byte :=
  withCrc [address, master, code, 0x5A#8, 0#8, 0#8, 0#8, 0#8, 0#8, 0#8]

theorem witness_FrameRunsItsRequest :
    (captureCommand.wellFormed = true ∧ envelopeOf captureCommand = some addressed ∧
      addressed.payloadFits = true ∧
      (∀ e slot offset length u, captureCommand = .captureRead e slot offset length u → u = [0]) ∧
      running.resetLow = false ∧ running.port.address < Config.broadcastAddress ∧
      ∃ bytes, requestBytes running.port.address captureCommand = some bytes) ∧
    (∀ bytes ∈ [plainFrame 0#8 3#8 0x27#8, plainFrame 0#8 8#8 0x27#8, plainFrame 9#8 3#8 0x27#8,
        plainFrame 0#8 3#8 0#8, plainFrame 31#8 3#8 61#8],
      frameComplete bytes = true ∧ crcHolds bytes = true) ∧
    (frameComplete ((plainFrame 0#8 3#8 0x27#8).set 3 0#8) = true ∧
      crcHolds ((plainFrame 0#8 3#8 0x27#8).set 3 0#8) = false) ∧
    beNat (plainFrame 0#8 8#8 0x27#8) 1 1 % 8 = 0 ∧
    (beNat (plainFrame 9#8 3#8 0x27#8) 1 1 % 8 ≠ 0 ∧ beNat (plainFrame 9#8 3#8 0x27#8) 0 1 ≠ 31 ∧
      beNat (plainFrame 9#8 3#8 0x27#8) 0 1 ≠ running.port.address) ∧
    (beNat (plainFrame 0#8 3#8 0#8) 2 1 = 0 ∧ beNat (plainFrame 0#8 3#8 0#8) 0 1 = running.port.address) ∧
    (60 < beNat (plainFrame 31#8 3#8 61#8) 2 1 ∧ beNat (plainFrame 31#8 3#8 61#8) 0 1 = 31) :=
  ⟨⟨by decide, rfl, rfl, fun _ _ _ _ _ h => by cases h; rfl, rfl, by decide, _, rfl⟩, by decide +kernel,
    by decide +kernel, by decide +kernel, by decide +kernel, by decide +kernel, by decide +kernel⟩

theorem witness_LineAndReceptionFollowSymbols :
    State.reset.resetLow = false ∧ State.reset.hasSlopeLink 3 = true ∧ (State.reset.receiver 3).line = .down ∧
      running.hasSlopeLink 0 = true ∧ (running.receiver 0).line = .up ∧
      (running.receiver 0).silenceRunning = true ∧ (running.receiver 0).reception.isSome = true ∧
      ((running.modifyReceiver 0 (fun r => { r with reception := none })).receiver 0).reception = none ∧
      (List.replicate 136 (0#8 : Byte)).length ≤ 136 ∧ 136 < (List.replicate 137 (0#8 : Byte)).length :=
  ⟨by decide, by decide, by decide, by decide, by decide, by decide, by decide, rfl, by simp, by simp⟩

/-- A segment's bytes by tag, first slope, count and slopes of frame 7. -/
def segmentOf (tag first count : Nat) (slopes : List Int) : List Byte :=
  withCrc (be8 tag ++ be16 7 ++ be16 first ++ be8 count ++ slopes.flatMap beInt16)

/-- What a segment's bytes say, in the form the statements ask of it. -/
def meets (bytes : List Byte) (p : SegmentFields → Bool) : Prop := ∃ f, segmentFields bytes = some f ∧ p f = true

theorem meets_of {bytes : List Byte} {p : SegmentFields → Bool} (h : ((segmentFields bytes).map p) = some true) :
    meets bytes p := by
  cases hf : segmentFields bytes with
  | none => rw [hf] at h; cases h
  | some f => rw [hf] at h; exact ⟨f, hf, by simpa using h⟩

theorem witness_ArrivingSegmentIsChecked :
    (State.reset.resetLow = false ∧ State.reset.hasSlopeLink 3 = true ∧ (State.reset.receiver 3).line = .down) ∧
      (running.hasSlopeLink 0 = true ∧ (running.receiver 0).line = .up ∧ (running.receiver 0).reception = some []) ∧
      136 < ([] ++ List.replicate 137 (0#8 : Byte)).length ∧
      segmentFields (List.replicate 7 0#8) = none ∧
      meets (segmentOf 1 0 1 [5]) (fun f => decide (f.tag ≠ (running.sensor 0).tag)) ∧
      meets (segmentOf 0 0 0 []) (fun f => decide (f.tag = (running.sensor 0).tag ∧ f.count < 1)) ∧
      meets (segmentOf 0 0 65 [5]) (fun f => decide (f.tag = (running.sensor 0).tag ∧ 64 < f.count)) ∧
      meets (segmentOf 0 0 2 [5]) (fun f => decide (f.tag = (running.sensor 0).tag ∧ f.exact = false)) ∧
      meets (segmentOf 0 4 1 [5]) (fun f =>
        decide (f.tag = (running.sensor 0).tag ∧ (running.sensor 0).slopeCount < f.first + f.count)) :=
  ⟨by decide, by decide, by simp, rfl, meets_of (by decide +kernel), meets_of (by decide +kernel),
    meets_of (by decide +kernel), meets_of (by decide +kernel), meets_of (by decide +kernel)⟩

/-- A segment that passes every check of `running`. -/
def passes (s : State) (f : SegmentFields) : Bool :=
  decide (f.tag = (s.sensor 0).tag ∧ 1 ≤ f.count ∧ f.count ≤ 64 ∧ f.exact = true ∧
    f.first + f.count ≤ (s.sensor 0).slopeCount ∧ f.last = false)

/-- A segment of sensor 0 for a frame. -/
def headOf (frame : Frame) : Segment :=
  { sensor := 0, frame := frame, first := 0, count := 2, last := false, slopes := [5, -7] }

/-- `s` with a number of segments in link 0's queue. -/
def queued (count : Nat) (s : State) : State :=
  s.modifyReceiver 0 (fun r => { r with queue := List.replicate count (headOf 7#16) })

theorem staged_busy (w : StageFrame) : (staged (.building w)).busy := ⟨nofun, nofun⟩

theorem witness_PassingSegmentJoinsQueue :
    meets ([] ++ segmentOf 0 3 1 [5]) (passes running) ∧ (running.receiver 0).line = .up ∧
      (running.receiver 0).reception = some [] ∧
      (let s := queued 7 { running with loop := Loop.reset };
        (s.receiver 0).queue.length < 8 ∧ s.loop.state.running = false) ∧
      (let s := queued 7 (staged (.building (stageSeven 400)));
        (s.receiver 0).queue.length < 8 ∧ s.loop.state.running = true ∧ s.busy) ∧
      (let s := queued 8 (staged (.building (stageSeven 400)));
        8 ≤ (s.receiver 0).queue.length ∧ s.busy) :=
  ⟨meets_of (by decide +kernel), by decide, by decide, by decide, ⟨by decide, by decide, ⟨nofun, nofun⟩⟩,
    by decide, ⟨nofun, nofun⟩⟩

/-- `staged` with a head of a frame in link 0's queue. -/
def offered (frame : Frame) : State :=
  (staged (.building (stageSeven 400))).modifyReceiver 0 (fun r => { r with queue := [headOf frame] })

theorem witness_OfferedHeadIsDiscardedOrWaits :
    (∀ f, ((offered f).receiver 0).queue = [headOf f] ∧ ((offered f).receiver 0).headWaiting = false ∧
      (headOf f).sensor = 0) ∧
    (((offered 9#16).setSensor 0 (Sensor.reset 0)).sensor 0).role = .ignored ∧
    ((offered 7#16).sensor 0).role ≠ .ignored ∧
    (({ offered 7#16 with lastClosed := some 7#16 } : State).lastClosed = some 7#16 ∧
      newer (headOf 7#16).frame 7#16 = false) ∧
    (((offered 7#16).slot 0).frame = (headOf 7#16).frame ∧ ((offered 7#16).slot 0).state = .command) ∧
    (let s := (offered 8#16).modifySlot 1 (fun r => { r with coverage := [1] });
      s.lastClosed = none ∧
      (∀ k, k < 2 → ¬ ((s.slot k).frame = (headOf 8#16).frame ∧
        ((s.slot k).state = .fill ∨ (s.slot k).state = .ready ∨ (s.slot k).state = .command))) ∧
      (s.slot 1).state = .opened ∧ (s.slot 1).frame = (headOf 8#16).frame ∧
      (s.slot (1 - 1)).frame ≠ (headOf 8#16).frame ∧
      ∃ i, i < (headOf 8#16).count ∧
        ∃ j ∈ slopeColumns s.slopeMap 0 ((headOf 8#16).first + i), j ∈ (s.slot 1).coverage) ∧
    (let s := (offered 9#16).modifySlot 1 (fun r => { r with state := .fill });
      s.lastClosed = none ∧ ∀ k, k < 2 → (s.slot k).state ≠ .free ∧ (s.slot k).state ≠ .opened ∧
        (s.slot k).frame ≠ (headOf 9#16).frame) ∧
    (let s := fun (a : Table Arrival) => (offered 9#16).modifySlot 1 (fun r => { r with arrivals := a });
      (∀ a, (s a).lastClosed = none ∧ (s a).loop.state.running = true ∧ ((s a).slot 1).state = .opened ∧
        ((s a).slot 1).frame ≠ (headOf 9#16).frame ∧ ((s a).slot (1 - 1)).state = .command ∧
        ((s a).slot (1 - 1)).frame ≠ (headOf 9#16).frame) ∧
      (∃ m, (s []).hasSlopeLink m = true ∧ ((s []).sensor m).role = .required ∧
        arrivalOf ((s []).slot 1).arrivals m = .none) ∧
      ¬ ∃ m, (s [(0, .partly)]).hasSlopeLink m = true ∧ ((s [(0, .partly)]).sensor m).role = .required ∧
        arrivalOf ((s [(0, .partly)]).slot 1).arrivals m = .none) ∧
    (let s := (offered 9#16).modifySlot 0 (fun r => { r with state := .opened });
      (s.slot 0).state = .opened ∧ (s.slot (1 - 0)).state = .opened ∧
        (s.slot (1 - 0)).frame ≠ (headOf 9#16).frame ∧ newer (s.slot (1 - 0)).frame (s.slot 0).frame = true) := by
  refine ⟨fun f => ⟨rfl, rfl, rfl⟩, by decide, by decide, by decide, by decide, ?_, by decide, ?_, by decide⟩
  · exact ⟨by decide, by decide, by decide, by decide, by decide, 1, by decide, by decide⟩
  · refine ⟨fun a => ⟨rfl, rfl, rfl, (by decide : (8#16 : Frame) ≠ 9#16), rfl,
      (by decide : (7#16 : Frame) ≠ 9#16)⟩, ⟨0, by decide⟩, ?_⟩
    rintro ⟨m, h, hr⟩
    exact every_slope_link (s := (offered 9#16).modifySlot 1 (fun r => { r with arrivals := [(0, .partly)] }))
      (P := fun m => ¬ ((((offered 9#16).modifySlot 1 (fun r => { r with arrivals := [(0, .partly)] })).sensor
        m).role = .required ∧ arrivalOf (((offered 9#16).modifySlot 1 (fun r =>
          { r with arrivals := [(0, .partly)] })).slot 1).arrivals m = .none)) (by decide) m h hr

theorem witness_ArrivalOpensSlotAndBeginsWork :
    meets ([] ++ segmentOf 0 0 4 [5, -7, 9, 11]) (passes running) ∧ running.resetLow = false ∧
      running.hasSlopeLink 0 = true ∧ (running.receiver 0).line = .up ∧
      (running.receiver 0).reception = some [] ∧ running.loop.state.running = true ∧
      running.engine.work = .idle ∧ (running.sensor 0).role ≠ .ignored ∧
      (∀ m, (running.receiver m).queue = []) ∧ (running.receiver 0).headWaiting = false ∧
      (running.slot 0).state = .free ∧ (running.slot 1).state = .free ∧
      (∀ l, running.lastClosed = some l → newer 7#16 l = true) ∧
      (∀ b, ¬ running.pendingBank = some b) ∧
      (let s := fun (f : PendingFrame) => twoBanks.modifyBank 1 (fun r =>
          { r with state := .pending, pendingFrame := some f });
        ∀ f, (s f).pendingBank = some 1 ∧ ((s f).bank 1).pendingFrame = some f ∧
          (s f).activeBank = some 0) ∧
      newer 7#16 6#16 = true ∧
      (∃ f, segmentFields lastSegment = some f ∧ f.last = true ∧ f.frame = 7#16 ∧ f.exact = true ∧
        f.first + f.count ≤ (running.sensor 0).slopeCount) ∧
      (∀ m, m ≠ 0 → running.hasSlopeLink m = true → (running.sensor m).role = .ignored) := by
  refine ⟨meets_of (by decide +kernel), rfl, by decide, by decide, rfl, by decide, rfl, by decide,
    every_receiver (P := fun r => r.queue = []) rfl (by decide), rfl, by decide, by decide, nofun, nofun,
    fun f => ⟨rfl, rfl, rfl⟩, by decide, ?_, fun m hm hl => ?_⟩
  · obtain ⟨f, hf, hp⟩ := meets_of (bytes := lastSegment) (p := fun f => decide (f.last = true ∧
      f.frame = 7#16 ∧ f.exact = true ∧ f.first + f.count ≤ (running.sensor 0).slopeCount)) (by decide +kernel)
    exact ⟨f, hf, of_decide_eq_true hp⟩
  · revert hm
    exact every_slope_link (P := fun m => m ≠ 0 → (running.sensor m).role = .ignored) (by decide) m hl

theorem witness_ConditionedValue :
    ((-32767 : Int) ≤ -32767 - 0 ∧ (-32767 : Int) - 0 ≤ 32767) ∧
      ((-32767 : Int) ≤ 32767 - 0 ∧ (32767 : Int) - 0 ≤ 32767) := by decide

/-- `staged` with one slope of slot 1 left. -/
def lastSlope : State :=
  { staged (.building (stageSeven 400)) with
    engine := { Engine.reset with work := .segment { slotOneWork with worked := 1, rest := [-7] } } }

theorem witness_SlopeWorkAddsProducts :
    (let s := staged (.building (stageSeven 400));
      s.resetLow = false ∧ s.engine.work = .segment slotOneWork ∧ slotOneWork.rest = 5 :: [-7] ∧
        ([-7] : List Int) ≠ []) ∧
    (lastSlope.resetLow = false ∧
      lastSlope.engine.work = .segment { slotOneWork with worked := 1, rest := [-7] } ∧
      lastSlope.nothingToChoose) :=
  ⟨by decide, rfl, rfl, nofun, by decide, by decide⟩

theorem witness_AccumulationIsExact :
    [((1 : Int), ([2, 3] : List Int)), (4, [5])].Perm [(4, [5]), (1, [2, 3])] ∧
      [((-32767 : Int), ([-32768] : List Int))].length ≤ 8192 ∧
      ∀ x ∈ [((-32767 : Int), ([-32768] : List Int))], x.1.natAbs ≤ 32767 ∧ ∀ m ∈ x.2, m.natAbs ≤ 32768 := by
  decide

/-- `staged` at work on slot 0, so that slot 1 closes alone. -/
def closing (arrivals : Table Arrival) : State :=
  { staged (.building (stageSeven 400)) with
    slots := [(0, { Slot.reset 0 with state := .fill, frame := 7#16 }),
              (1, { Slot.reset 1 with state := .opened, frame := 8#16, deadline := some 1000,
                                      arrivals := arrivals })]
    engine := { Engine.reset with work := .segment { slotOneWork with slot := 0 } } }

theorem closing_frame (a : Table Arrival) :
    (closing a).resetLow = false ∧ ((closing a).slot 1).state = .opened ∧
      ((closing a).slot 1).deadline.isSome = true ∧ (closing a).loop.state.running = true ∧
      (closing a).stage.phase ≠ .idle ∧ (closing a).engine.work ≠ .idle ∧
      (∀ w, (closing a).engine.work = .segment w → w.slot ≠ 1) ∧
      (∀ w, (closing a).engine.work = .fill w → w.slot ≠ 1) ∧
      (((closing a).slot (1 - 1)).state = .opened →
        older ((closing a).slot (1 - 1)).frame ((closing a).slot 1).frame = false) :=
  ⟨rfl, rfl, rfl, rfl, nofun, nofun, fun w h => by cases h; decide, nofun, nofun⟩

theorem witness_DeadlineClosesFrame :
    (running.slot 1).state ≠ .opened ∧
    (¬ ∃ n, (closing [(0, .partly)]).hasSlopeLink n = true ∧
      ((closing [(0, .partly)]).sensor n).role = .required ∧
      arrivalOf ((closing [(0, .partly)]).slot 1).arrivals n = .none) ∧
    (∃ n, (closing []).hasSlopeLink n = true ∧ ((closing []).sensor n).role = .required ∧
      arrivalOf ((closing []).slot 1).arrivals n = .none) ∧
    (let s : State := { closing [(0, .partly)] with
        engine := Engine.reset
        slots := [(0, { Slot.reset 0 with state := .command, frame := 7#16 }),
                  (1, { Slot.reset 1 with state := .opened, frame := 8#16, deadline := some 1000,
                                          arrivals := [(0, .partly)] })] };
      (s.slot 1).state = .opened ∧ (s.slot 1).deadline.isSome = true ∧ s.loop.state.running = true ∧
        s.stage.phase ≠ .idle ∧ s.engine.work = .idle ∧ (s.slot (1 - 1)).state ≠ .fill ∧
        arrivalOf (s.slot 1).arrivals 0 ≠ .none) ∧
    (let s : State := { running with
        slots := [(0, { Slot.reset 0 with state := .opened, frame := 7#16, deadline := some 1000 }),
                  (1, { Slot.reset 1 with state := .opened, frame := 8#16, deadline := some 1000,
                                          arrivals := [(0, .partly)] })]
        engine := { Engine.reset with work := .segment slotOneWork } };
      (s.slot 1).state = .opened ∧ (s.slot 1).deadline.isSome = true ∧ s.loop.state.running = true ∧
        (s.slot (1 - 1)).state = .opened ∧ older (s.slot (1 - 1)).frame (s.slot 1).frame = true ∧
        s.engine.work = .segment slotOneWork ∧ slotOneWork.slot = 1 ∧
        arrivalOf (s.slot 1).arrivals 0 ≠ .none) := by
  refine ⟨by decide, ?_, ⟨0, by decide⟩, ⟨by decide, by decide, by decide, nofun, by decide⟩, by decide⟩
  rintro ⟨n, h, hr⟩
  exact every_slope_link (s := closing [(0, .partly)])
    (P := fun n => ¬ (((closing [(0, .partly)]).sensor n).role = .required ∧
      arrivalOf ((closing [(0, .partly)]).slot 1).arrivals n = .none)) (by decide) n h hr

/-- The pass of `filling`. -/
def fillSeven : FillWork :=
  { slot := 0, frame := 7#16, substitute := .holdLast, roles := [.required], position := 0 }

theorem witness_FillInAddsColumn :
    filling.resetLow = false ∧ filling.engine.work = .fill fillSeven ∧
      filling.fillNext fillSeven = some (0, 1) := by decide

theorem witness_ResidualsReplaceAccumulators :
    let s := fun (phase : StagePhase) (l : LoopState) (p : Option PendingTransition) => ({ filling with
      slots := [(0, { Slot.reset 0 with state := .fill, frame := 7#16, coverage := [0, 1, 2, 3] })]
      loop := { Loop.reset with state := l, pendingTransition := p }
      stage := { Stage.reset with phase := phase } } : State)
    (∀ phase l p, (s phase l p).resetLow = false ∧ (s phase l p).engine.work = .fill fillSeven ∧
      (s phase l p).fillNext fillSeven = none ∧ fillSeven.slot < 2 ∧
      ((s phase l p).slot (1 - fillSeven.slot)).state = .free ∧ linkCandidate (s phase l p) = none) ∧
    StagePhase.building (stageSeven 400) ≠ .idle ∧
    (s .idle .opened none).loop.state = .opened ∧
    (∀ t, (s .idle .closed (some { target := t, frame := 7#16, sender := 3 })).loop.state = .closed ∧
      ((s .idle .closed (some { target := t, frame := 7#16, sender := 3 })).slot 0).frame = 7#16) ∧
    newer 7#16 6#16 = true ∧ newer 7#16 8#16 = false ∧
    ((s .idle .hold none).loop.state = .hold ∧ (s .idle .hold none).hold = [] ∧
      (s .idle .hold none).linksSettled ∧
      (∀ n, (s .idle .hold none).hasSlopeLink n = true → ((s .idle .hold none).receiver n).queue = []) ∧
      ((s .idle .hold none).bank ((s .idle .hold none).slot 0).bank).state ≠ .retiring) := by
  refine ⟨fun phase l p => ⟨rfl, rfl, rfl, by decide, rfl, rfl⟩, nofun, rfl, fun t => ⟨rfl, rfl⟩, by decide,
    by decide, rfl, rfl, ?_, every_slope_link (by decide), by decide⟩
  unfold State.linksSettled
  exact every_drive_link (by decide)

theorem witness_PeakIsLargestMagnitude :
    (-188 : Int) ∈ [215, -188] ∧ ([215, -188] : List Int) ≠ [] ∧
      0 < (peakOf [215, -300]).2 ∧ ([215, -300] : List Int)[0]? = some 215 := by decide

/-- A frame in the stage whose actuator 0 is poked by an offset, read in a loop state. -/
def pokedFrame (l : LoopState) (mode : Mode) : StageFrame :=
  { stageSeven 400 with
    loopRead := l, poke := some { actuator := 0, offset := -300 },
    records := [(0, { Actuator.reset 0 with mode := mode, lo := 2000, hi := 63000 })] }

theorem witness_StagedShapeFollowsIntegrator :
    (0 < (pokedFrame .opened .loop).n ∧
      ((pokedFrame .opened .loop).actuator 0).lo ≤ ((pokedFrame .opened .loop).actuator 0).hi ∧
      (pokedFrame .opened .loop).loopRead ≠ .closed) ∧
    ((pokedFrame .closed .held).actuator 0).mode ≠ .loop ∧
    (((pokedFrame .closed .loop).actuator 0).mode = .loop ∧ (pokedFrame .closed .loop).loopRead = .closed) ∧
    ((pokedFrame .closed .loop).poke = some { actuator := 0, offset := -300 }) ∧
    (1 < (pokedFrame .closed .loop).n ∧ ∀ p, (pokedFrame .closed .loop).poke = some p → p.actuator ≠ 1) ∧
    ((pokedFrame .closed .loop).actuator 0).sound :=
  ⟨by decide, by decide, by decide, by decide, ⟨by decide, fun p h => by cases h; decide⟩,
    by unfold Actuator.sound; decide⟩

theorem witness_PassingShapeIsHandedOver :
    let s := staged (.building (stageSeven 100))
    s.resetLow = false ∧ s.stage.phase = .building (stageSeven 100) ∧ s.loop.state.running = true ∧
      ∀ p ∈ (stageSeven 100).pairs,
        outputGap (buildShape (stageSeven 100) (s.slot (stageSeven 100).slot).acc).outputs p.a p.b ≤ p.dmax := by
  decide

theorem staged_endsAlone (p : StagePhase) : (staged p).endsAlone 0 :=
  ⟨by decide, rfl, nofun, nofun, ⟨slotOneWork, rfl, by decide⟩, nofun⟩

theorem witness_StrokeDropEndsFrame :
    (let s := staged (.building (stageSeven 99));
      s.resetLow = false ∧ s.stage.phase = .building (stageSeven 99) ∧ s.endsAlone (stageSeven 99).slot ∧
        s.linksSettled ∧ s.hold = [] ∧ s.loop.state.running = true ∧
        (∃ p ∈ (stageSeven 99).pairs, p.dmax <
          outputGap (buildShape (stageSeven 99) (s.slot (stageSeven 99).slot).acc).outputs p.a p.b) ∧
        bumpRun s.loop.strokeRun < s.loop.strokeThreshold) ∧
    (let l : Loop := { running.loop with strokeRun := 1 };
      l.strokeThreshold ≤ bumpRun l.strokeRun ∧ l.state ≠ .hold) ∧
    ({ running.loop with state := .hold } : Loop).state = .hold :=
  ⟨⟨rfl, rfl, staged_endsAlone _, by unfold State.linksSettled; exact every_drive_link (by decide), rfl, by decide,
    by decide, by decide⟩, by decide, rfl⟩

theorem witness_LinksStaySettled :
    let s := waiting (.actCount addressed 0) { running with loop := Loop.reset }
    s.linksSettled ∧ completes (step s) :=
  ⟨by unfold State.linksSettled; exact every_drive_link (by decide), _, rfl⟩

/-- `requested` with a bias send that has no link to go to. -/
def biasWithoutLinks : State :=
  { State.reset with drive := { Drive.reset with
      biasSend := some { biases := [] }, request := some { kind := .bias, frame := none, values := [] } } }

theorem witness_TransactionBegins :
    (requested.resetLow = false ∧
      requested.drive.request = some { kind := .shape, frame := some 7#16, values := [32868, 32768] }) ∧
    (∃ l, (requested.modifyDriveLink 0 (fun r => { r with state := .applying })).hasDriveLink l = true ∧
      ((requested.modifyDriveLink 0 (fun r => { r with state := .applying })).driveLink l).state.busy = true) ∧
    ((∀ l, requested.hasDriveLink l = true → (requested.driveLink l).state.busy = false) ∧
      participants requested ≠ [] ∧ 0 ∈ participants requested ∧ 1 ∉ participants requested) ∧
    (biasWithoutLinks.resetLow = false ∧ (∃ r, biasWithoutLinks.drive.request = some r ∧ r.kind = .bias) ∧
      (∀ l, biasWithoutLinks.hasDriveLink l = true → (biasWithoutLinks.driveLink l).state.busy = false) ∧
      participants biasWithoutLinks = [] ∧ biasWithoutLinks.hold = [] ∧ biasWithoutLinks.linksSettled) ∧
    (1 < (requested.driveLink 0).channels ∧
      (∀ a b, a < requested.table.n → b < requested.table.n →
        requested.table.sameChannel a b = true → a = b) ∧
      1 < requested.table.n ∧ (requested.table.actuator 1).link = 0 ∧
      (requested.table.actuator 1).channel = 1 ∧ ([32868, 32768] : List Nat)[1]? = some 32768) ∧
    (2 < ({ requested.driveLink 0 with channels := 3 } : DriveLink).channels ∧
      ∀ a, a < requested.table.n → (requested.table.actuator a).link = 0 →
        (requested.table.actuator a).channel ≠ 2) := by
  refine ⟨by decide, ⟨0, by decide⟩, ⟨every_drive_link (by decide), by decide, by decide, by decide⟩,
    ⟨rfl, ⟨_, rfl, rfl⟩, every_drive_link (by decide), by decide, rfl, ?_⟩, ⟨by decide, ?_, by decide⟩,
    by decide, by decide⟩
  · unfold State.linksSettled; exact every_drive_link (by decide)
  · intro a b ha hb
    exact (by decide : ∀ a, a < 2 → ∀ b, b < 2 → requested.table.sameChannel a b = true → a = b) a ha b hb

/-- Both links take part in transaction 42. -/
def both (kind : TxKind) (dropped : Bool) : Transaction := { tx42 kind [partZero, partOne] with dropped := dropped }

theorem witness_LinkAnswersBeforePulse :
    let s := fun (tx : Transaction) zero one => inTx (staged (.sending (stageSeven 400) shapeSeven)) tx zero
      (some (.reply 50)) one
    ((s (both .shape false) .recovering .loading).resetLow = false ∧
      (s (both .shape false) .recovering .loading).hasDriveLink 1 = true ∧
      (s (both .shape false) .recovering .loading).drive.current = some (both .shape false) ∧
      (both .shape false).links.find? (fun q => decide (q.link = 1)) = some partOne ∧
      ((s (both .shape false) .recovering .loading).driveLink 0).state = .recovering ∧
      ((s (both .shape false) .recovering .loading).driveLink 1).state ≠ .recovering) ∧
    (let t := s (both .shape false) .loading .recovering;
      (t.driveLink 0).state = .loading ∧ (t.driveLink 0).outstanding = some (both .shape false).ref ∧
      t.busy ∧ (both .shape false).dropped = false ∧
      ∃ q ∈ (both .shape false).links, q.link ≠ 0 ∧ (t.driveLink q.link).state ≠ .loaded) ∧
    (let t := s (both .shape true) .loading .loading;
      (t.driveLink 0).state = .loading ∧ (t.driveLink 0).outstanding = some (both .shape true).ref ∧
      t.busy ∧ (both .shape true).dropped = true ∧
      ∃ q ∈ (both .shape true).links, q.link ≠ 0 ∧ (t.driveLink q.link).state.inTransaction = true) :=
  ⟨by decide, ⟨by decide, by decide, ⟨nofun, nofun⟩, by decide, by decide⟩,
    by decide, by decide, ⟨nofun, nofun⟩, by decide, by decide⟩

/-- `running` in a loop state. -/
def inLoop (l : LoopState) : State := { running with loop := { Loop.reset with state := l } }

theorem inLoop_arrives (l : LoopState) : arrives addressed (inLoop l) :=
  addressed_arrives rfl (by decide : (0 : Nat) ≠ 31)

theorem witness_FaultedLinkMakesLoopSafe :
    (let s := sending .recovering (some (.recovery 100));
      s.resetLow = false ∧ s.hasDriveLink 0 = true ∧ (s.driveLink 0).state = .recovering ∧
        s.hasDriveLink 1 = true ∧ (s.driveLink 1).state ≠ .recovering ∧ s.loop.state ≠ .safe) ∧
    (openBetween.between = some { bytes := loopOpenBytes, uncorrectable := [] } ∧
      addressed.wellFormed = true ∧ arrives addressed (inLoop .hold) ∧ (inLoop .hold).port.address < 31 ∧
      requestBytes (inLoop .hold).port.address (.loopOpen addressed none) = some loopOpenBytes ∧
      (inLoop .hold).loop.state = .hold ∧ (inLoop .hold).drive.current = none) :=
  ⟨by decide, rfl, by decide, inLoop_arrives _, by decide, rfl, rfl, rfl⟩

theorem sending_linksSettled (z : DriveState) (t : Option LinkTimer) (hz : z ≠ .disabled) :
    (sending z t).linksSettled := by
  unfold State.linksSettled
  apply every_drive_link
  intro l hl
  have : l = 0 ∨ l = 1 := by have : l < 2 := hl; omega
  rcases this with rfl | rfl
  · rintro (h | h)
    · exact h
    · exact absurd h hz
  · intro _; rfl

theorem witness_PulseCommitsFrame :
    let s := sending .loading (some (.reply 50))
    let tx := tx42 .shape [partZero]
    s.resetLow = false ∧ s.loop.state.running = true ∧
      s.stage.phase = .sending (stageSeven 400) shapeSeven ∧ s.endsAlone (stageSeven 400).slot ∧
      s.linksSettled ∧ s.hold = [] ∧ s.scan.state ≠ .running ∧ s.drive.current = some tx ∧
      tx.kind = .shape ∧ tx.pulsed = false ∧ tx.dropped = false ∧
      tx.links.Pairwise (fun p q => p.link ≠ q.link) ∧ s.hasDriveLink 0 = true ∧
      (∃ p ∈ tx.links, p.link = 0) ∧
      (∀ q ∈ tx.links, q.link ≠ 0 → (s.driveLink q.link).state = .loaded) ∧
      (s.driveLink 0).state = .loading ∧ (s.driveLink 0).outstanding = some tx.ref ∧
      (shapeSeven.states[1]? = some 8388608 ∧ shapeSeven.outputs[1]? = some 32768) ∧
      shapeSeven.states.length ≤ 2 :=
  ⟨rfl, by decide, rfl, ⟨by decide, rfl, nofun, nofun, ⟨slotOneWork, rfl, by decide⟩, nofun⟩,
    sending_linksSettled _ _ nofun, rfl, nofun, rfl, rfl, rfl, rfl, by decide, by decide, by decide, by decide,
    rfl, rfl, by decide, by decide⟩

theorem witness_FailedLoadDropsFrame :
    let s := fun one => inTx (staged (.sending (stageSeven 400) shapeSeven)) (both .shape false) .loading
      (some (.reply 50)) one
    let tx := both .shape false
    (∀ one, (s one).resetLow = false ∧ (s one).loop.state.running = true ∧
      (s one).stage.phase = .sending (stageSeven 400) shapeSeven ∧ (s one).endsAlone (stageSeven 400).slot ∧
      (s one).hold = [] ∧ (s one).drive.current = some tx ∧ tx.kind = .shape ∧ tx.pulsed = false ∧
      tx.dropped = false ∧ (s one).hasDriveLink 0 = true ∧ (∃ p ∈ tx.links, p.link = 0) ∧
      ((s one).driveLink 0).state = .loading ∧ ((s one).driveLink 0).outstanding = some tx.ref ∧
      bumpRun (s one).loop.driveRun < (s one).loop.driveThreshold ∧
      ((s one).driveLink 0).timer = some (.reply 50)) ∧
    (s .loaded).linksSettled ∧ (s .loading).linksSettled ∧
    (∃ q ∈ tx.links, q.link ≠ 0 ∧
      (((s .loading).driveLink q.link).state = .loading ∨ ((s .loading).driveLink q.link).state = .applying)) ∧
    (¬ ∃ q ∈ tx.links, q.link ≠ 0 ∧
      (((s .loaded).driveLink q.link).state = .loading ∨ ((s .loaded).driveLink q.link).state = .applying)) := by
  refine ⟨fun one => ⟨rfl, rfl, rfl, ⟨by decide, rfl, nofun, nofun, ⟨slotOneWork, rfl, by decide⟩, nofun⟩, rfl,
    rfl, rfl, rfl, rfl, rfl, by decide, rfl, rfl, ?_, rfl⟩, ?_, ?_, by decide, by decide⟩
  · show bumpRun 0 < 3; decide
  · unfold State.linksSettled; exact every_drive_link (by decide)
  · unfold State.linksSettled; exact every_drive_link (by decide)

theorem witness_AppliedEndsTransaction :
    let tx := fun kind => ({ both kind false with pulsed := true, applied := [1] } : Transaction)
    let s := fun kind one => inTx running (tx kind) .applying (some (.apply 200)) one
    (∀ kind one, (s kind one).resetLow = false ∧ (s kind one).hasDriveLink 0 = true ∧
      (s kind one).drive.current = some (tx kind) ∧ (∃ p ∈ (tx kind).links, p.link = 0) ∧
      ((s kind one).driveLink 0).state = .applying ∧
      ((s kind one).driveLink 0).outstanding = some (tx kind).ref ∧ (tx kind).ref.number = 42#8 ∧
      ((s kind one).driveLink 0).timer = some (.apply 200) ∧
      bumpRun (s kind one).loop.driveRun < (s kind one).loop.driveThreshold ∧
      (s kind one).loop.state.running = true ∧ (s kind one).hold = []) ∧
    (∃ q ∈ (tx .shape).links, q.link ≠ 0 ∧
      ((s .shape .applying).driveLink q.link).state.inTransaction = true) ∧
    (¬ ∃ q ∈ (tx .shape).links, q.link ≠ 0 ∧
      ((s .shape .disabled).driveLink q.link).state.inTransaction = true) ∧
    (¬ ∃ q ∈ (tx .bias).links, q.link ≠ 0 ∧
      ((s .bias .disabled).driveLink q.link).state.inTransaction = true) ∧
    (s .bias .disabled).linksSettled := by
  refine ⟨fun kind one => ⟨rfl, rfl, rfl, ⟨partZero, by simp [both, tx42], rfl⟩, rfl, rfl, rfl, rfl, ?_, rfl, rfl⟩,
    by decide, by decide, by decide, ?_⟩
  · show bumpRun 0 < 3; decide
  · unfold State.linksSettled; exact every_drive_link (by decide)

theorem witness_StrayRepliesAreCounted :
    let s := sending .loading (some (.reply 50))
    s.resetLow = false ∧ s.hasDriveLink 0 = true ∧
      ¬ ((s.driveLink 0).state = .loading ∧ ∃ o, (s.driveLink 0).outstanding = some o ∧ o.number = 41#8) ∧
      ¬ ((s.driveLink 0).state = .applying ∧ ∃ o, (s.driveLink 0).outstanding = some o ∧ o.number = 42#8) ∧
      returnFrame [1#8] = none ∧ s.hasDriveLink 1 = true ∧ (s.driveLink 1).timer = none := by
  refine ⟨rfl, by decide, ?_, fun h => absurd h.1 (by decide), by decide, by decide, by decide⟩
  rintro ⟨-, o, ho, hn⟩
  cases ho
  exact absurd hn (by decide)

theorem witness_LoopOpensAndCloses :
    (∀ l, arrives addressed (inLoop l) ∧ (inLoop l).loop.state = l ∧ (inLoop l).drive.biasSend = none ∧
      (inLoop l).activeBank = some 0 ∧ ((inLoop l).bank 0).rows.getD 0 = (inLoop l).table.n ∧
      mapFits (inLoop l).slopeMap (((inLoop l).bank 0).columns.getD 0) = true ∧
      (inLoop l).hasSlopeLink 0 = true ∧ ((inLoop l).sensor 0).role = .required ∧
      (∀ k, (inLoop l).hasDriveLink k = true → ((inLoop l).driveLink k).state ≠ .faulted) ∧
      (inLoop l).loop.pendingTransition = none) ∧
    (let s : State := { inLoop .closed with lastClosed := some 65535#16 };
      ∀ g, s.lastClosed = some g → newer 0#16 g = true) := by
  refine ⟨fun l => ⟨inLoop_arrives l, rfl, rfl, rfl, rfl, rfl, rfl, rfl, every_drive_link ?_, rfl⟩, ?_⟩
  · show ∀ k, k < 2 → (running.driveLink k).state ≠ .faulted
    decide
  · intro s g h
    cases h
    decide

theorem witness_LoopComesToRest :
    arrives addressed running ∧ running.slotsSound ∧ running.banksExclusive ∧
      (inLoop .stopped).loop.state = .stopped ∧ (inLoop .safe).loop.state = .safe ∧
      running.loop.state ≠ .stopped ∧ running.loop.state ≠ .safe ∧ running.drive.biasSend = none ∧
      1 < running.table.n ∧ running.hold = [] := by
  exact ⟨addressed_arrives rfl (by decide), running_slotsSound, running_banksSound.1, by decide⟩

theorem witness_LoopAndLinkSettings :
    arrives addressed (inLoop .stopped) ∧ (inLoop .stopped).loop.state = .stopped ∧
      (inLoop .stopped).drive.biasSend = none ∧
      (let s := running.modifyDriveLink 1 (fun r => { r with state := .faulted });
        s.hasDriveLink 1 = true ∧ (s.driveLink 1).state = .faulted) ∧
      (1 ≤ 1024 ∧ 1024 ≤ Config.channels running.variant ∧ 1024 = (running.driveLink 0).channels) ∧
      (2 ≤ Config.channels running.variant ∧ 2 ≠ (running.driveLink 0).channels ∧
        ∀ a, a < (inLoop .stopped).effective.n → ((inLoop .stopped).effective.actuator a).link = 0 →
          ((inLoop .stopped).effective.actuator a).channel < 2) ∧
      running.hasSlopeLink 3 = true :=
  ⟨inLoop_arrives _, rfl, rfl, by decide, by decide, by decide, by decide⟩

/-- `loading` with its buffers and committed columns. -/
def loadingWith (committed : NatSet) : State :=
  loading.modifyBank 1 (fun r => { r with committed := committed })

theorem witness_LoadOpensAndCloses :
    (arrives addressed running ∧ running.loader.state = .idle ∧ 1 ≤ 1 ∧ 1 ≤ 1024 ∧
      1024 ≤ Config.actuators running.variant ∧ 8192 ≤ Config.columns running.variant ∧ 31 ≤ 31 ∧ 16 ≤ 512 ∧
      (running.bank 1).state = .empty) ∧
    (arrives addressed (loadingWith [0, 1]) ∧ (loadingWith [0, 1]).loader.state = .loading 1 addressed.master ∧
      (loadingWith [0, 1]).loader.bufferA = none ∧ (loadingWith [0, 1]).loader.bufferB = none ∧
      ∀ j, j < ((loadingWith [0, 1]).bank 1).columnCount → j ∈ ((loadingWith [0, 1]).bank 1).committed) ∧
    (1 < ((loadingWith [0]).bank 1).columnCount ∧ 1 ∉ ((loadingWith [0]).bank 1).committed ∧
      ∀ i, i < 1 → i ∈ ((loadingWith [0]).bank 1).committed) ∧
    (loading.loader.state = .loading 1 addressed.master ∧ (loading.bank 1).state = .loading) ∧
    (let s := fun (owner now : Nat) => ({ loading with
          now := now, loader := { loading.loader with state := .loading 1 owner } } : State);
      arrives addressed (s 4 0) ∧ (4 : Nat) ≠ addressed.master ∧ (1 : Nat) ≠ 0 ∧
        ((s 3 0).bank 0).state = .empty ∧ ((s 4 0).bank 1).state = .loading ∧
        1000 * (s 4 2000001).port.features.loadIdleLimit < (s 4 2000001).now - (s 4 2000001).loader.lastActivity ∧
        (s 4 2000000).now - (s 4 2000000).loader.lastActivity ≤
          1000 * (s 4 2000000).port.features.loadIdleLimit) ∧
    ((verifying 0 0#32).loader.state = .verifying 1 3 ∧ ((verifying 0 0#32).bank 1).state = .verifying) :=
  ⟨⟨addressed_arrives rfl (by decide), by decide⟩, ⟨addressed_arrives rfl (by decide), by decide⟩, by decide,
    by decide, ⟨addressed_arrives rfl (by decide), by decide⟩, by decide⟩

theorem witness_SegmentsReachTheBank :
    (arrives addressed loading ∧ loading.loader.state = .loading 1 addressed.master ∧ (1 : Nat) < 2 ∧
      (loading.bank 1).rowCount ≤ 1024 ∧ (loading.bank 1).columnCount ≤ Config.columns loading.variant) ∧
    (let ms : List Int := [5, -6];
      1 ≤ ms.length ∧ ms.length ≤ 1024 ∧ 1 < (loading.bank 1).columnCount ∧
        0 + ms.length ≤ (loading.bank 1).rowCount ∧ 1 ∉ (loading.bank 1).committed ∧
        ms.length = (loading.bank 1).rowCount ∧ loading.loader.holder 1 = none) ∧
    (let ms : List Int := [9];
      1 + ms.length ≤ (loading.bank 1).rowCount ∧ ms.length < (loading.bank 1).rowCount ∧
        loading.loader.bufferA = none ∧ loading.loader.bufferB = none) ∧
    (let x : Buffer := { column := 1, rows := [1], values := [(1, 9)], touched := 1 };
      let s : State := { loading with loader := { loading.loader with bufferA := some x } };
      s.loader.bufferA = some x ∧ s.loader.bufferB = none ∧ x.column < (s.bank 1).columnCount) :=
  ⟨⟨addressed_arrives rfl (by decide), by decide⟩, by decide, by decide, by decide⟩

theorem witness_LoadIsAbandonedReopenedOrCleared :
    arrives addressed loading ∧ loading.loader.state = .loading 1 addressed.master ∧
      (verifying 0 0#32).loader.state = .verifying 1 addressed.master ∧
      (1 ≤ 1 ∧ (running.bank 1).state = .empty) ∧
      (0 ≤ 1 ∧ (running.bank 0).state ≠ .empty ∧ (running.bank 0).state ≠ .loaded ∧
        (running.bank 0).state ≠ .ready) ∧ 1 < 2 ∧
      (let s : State := { loading with
          loader := Loader.reset
          banks := [(1, { loading.bank 1 with state := .loaded, recordedOwner := some 3 })] };
        0 < (s.bank 1).blockCount ∧ (s.bank 1).state = .loaded ∧ s.loader.state = .idle ∧
          (s.bank 1).recordedOwner = some addressed.master) ∧
      (let s : State := { loading with loader := { loading.loader with reopened := true } };
        (s.bank 1).state = .loading ∧ s.loader.state = .loading 1 addressed.master ∧
          s.loader.reopened = true) :=
  ⟨addressed_arrives rfl (by decide), by decide⟩

/-- A verify pass of 17 columns in blocks of 16. -/
def longVerify (verified : Nat) : State :=
  (verifying verified 0#32).modifyBank 1 (fun r => { r with columns := some 17 })

theorem witness_VerifyReadsOneColumn :
    ((longVerify 14).resetLow = false ∧ (longVerify 14).loader.state = .verifying 1 3 ∧
      ((longVerify 14).bank 1).verified = 14 ∧ 14 + 1 < ((longVerify 14).bank 1).columnCount ∧
      (14 + 1) % ((longVerify 14).bank 1).blockSize ≠ 0) ∧
    (((longVerify 15).bank 1).verified = 15 ∧ 15 + 1 < ((longVerify 15).bank 1).columnCount ∧
      (15 + 1) % ((longVerify 15).bank 1).blockSize = 0) ∧
    ((1 : Nat) < 2 ∧ ((longVerify 16).bank 1).verified = 16 ∧
      16 + 1 = ((longVerify 16).bank 1).columnCount) ∧
    (let crc := ~~~(crc32Feed 0xFFFFFFFF#32 [0x00#8, 0x01#8, 0xFF#8, 0xFE#8]);
      let s := verifying 0 crc;
      (s.bank 1).expectedCrc = some (~~~(crc32Feed s.loader.wholeReg
          ((s.column 1 0 (s.bank 1).rowCount).flatMap beInt16))) ∧
        ((verifying 0 (crc + 1)).bank 1).expectedCrc ≠ some crc) := by decide +kernel

theorem witness_VerifyPassReadsWholeBank :
    let s := verifying 0 0#32
    s.resetLow = false ∧ s.loader.state = .verifying 1 3 ∧ (1 : Nat) < 2 ∧ (s.bank 1).verified = 0 ∧
      0 < (s.bank 1).columnCount ∧ s.loader.wholeReg = 0xFFFFFFFF#32 := by decide

/-- `twoBanks` in a loop state, its second bank in a state. -/
def swapping (l : LoopState) (b : BankState) : State :=
  { inLoop l with
    banks := [(0, smallBank), (1, { smallBank with state := b })]
    lastClosed := some 6#16
    slots := [(0, { Slot.reset 0 with state := .opened, frame := 8#16 })] }

theorem witness_SwapsWaitOrTakeEffect :
    (toAll.payloadFits = true ∧ toAll.master ≠ 0 ∧ addressed.broadcast = false ∧
      ∀ l, (swapping l .ready).resetLow = false ∧ (swapping l .ready).port.address ≠ Config.broadcastAddress) ∧
    (∀ l, (1 : Nat) < 2 ∧ (swapping l .ready).swapPending = false ∧ ((swapping l .ready).bank 1).state = .ready ∧
      ((swapping l .ready).bank 1).rowCount = (swapping l .ready).table.n ∧
      mapFits (swapping l .ready).slopeMap ((swapping l .ready).bank 1).columnCount = true ∧
      (swapping l .ready).activeBank = some 0) ∧
    (let s := { swapping .stopped .ready with banks := [(1, { smallBank with state := .ready })] };
      (s : State).activeBank = none ∧ s.swapPending = false ∧ (s.bank 1).state = .ready) ∧
    (LoopState.hold.running = true ∧ newer 9#16 6#16 = true ∧
      ∀ k, k < 2 → ((swapping .hold .ready).slot k).state = .opened →
        newer 9#16 ((swapping .hold .ready).slot k).frame = true) ∧
    (toAll.broadcast = true ∧ newer 6#16 6#16 = false ∧
      newer 8#16 ((swapping .hold .ready).slot 0).frame = false) ∧
    (swapping .hold .ready).pendingBank = none ∧ (swapping .hold .pending).pendingBank = some 1 := by
  refine ⟨⟨rfl, by decide, rfl, fun l => ⟨rfl, (by decide : (0 : Nat) ≠ 31)⟩⟩,
    fun l => ⟨by decide, rfl, rfl, rfl, rfl, rfl⟩, by decide, by decide, by decide, by decide, by decide⟩

/-- `staged` in flight with a number of edits held. -/
def holding (count : Nat) : State :=
  { staged (.building (stageSeven 400)) with hold := List.replicate count (.mode 1 .held none) }

theorem witness_TableRequestsAreAppliedOrHeld :
    (arrives addressed running ∧ running.inFlight = false) ∧
    (arrives addressed (holding 31) ∧ (holding 31).inFlight = true ∧ (holding 31).hold.length < 32) ∧
    (arrives addressed (holding 32) ∧ 32 ≤ (holding 32).hold.length) ∧
    (7 ≤ 7 ∧ 1024 ≤ Config.actuators running.variant) ∧
    ((inLoop .stopped).swapPending = false ∧ (inLoop .stopped).loop.state = .stopped ∧
      (inLoop .stopped).drive.biasSend = none ∧ countFault (inLoop .stopped) 2 = none) ∧
    (let records := [fields 2000];
      1 ≤ records.length ∧ records.length ≤ 64 ∧ 0 + records.length ≤ Config.actuators running.variant ∧
        recordsFault running running.effective 0 0 records = none ∧
        writeConflict running (running.effective.rewrite 0 records) 0 records.length = none) ∧
    (1023 < Config.actuators running.variant ∧ (running.effective.actuator 1023).lo ≤ 65535 ∧
      65535 ≤ (running.effective.actuator 1023).hi) ∧
    (1 < running.effective.n ∧ running.effective.pairs.length < 3072 ∧
      (∀ p ∈ running.effective.pairs, p.names 0 1 = false) ∧
      (((running.effective.actuator 0).bias : Int) - ((running.effective.actuator 1).bias : Int)).natAbs ≤ 0) ∧
    (let s : State := { running with table := { running.table with pairs := [{ a := 0, b := 1, dmax := 0 }] } };
      ∃ p ∈ s.effective.pairs, p.names 1 0 = true) :=
  ⟨⟨addressed_arrives rfl (by decide), by decide⟩, ⟨addressed_arrives rfl (by decide), by decide⟩,
    ⟨addressed_arrives rfl (by decide), by decide⟩, by decide, by decide, by decide, by decide, by decide,
    by decide⟩

theorem witness_EditsAreTheSameHeldOrNot :
    (running.inFlight = false ∧ running.hold = [] ∧
      ∃ payload clamped t, takeEdit (.mode 1 .held none) running = .ok payload clamped t) ∧
    ((holding 31).inFlight = true ∧
      ∃ payload clamped t, takeEdit (.mode 1 .held none) (holding 31) = .ok payload clamped t) ∧
    ([fields 2000][0]? = some (fields 2000) ∧ 1 = 1 + 0) ∧ (0 < 1 ∧ 1 + [fields 2000].length ≤ 2) :=
  ⟨⟨by decide, rfl, _, _, _, rfl⟩, ⟨by decide, _, _, _, rfl⟩, by decide, by decide⟩

theorem witness_SensorSettings :
    (arrives addressed running ∧ running.hasSlopeLink 4 = false ∧ running.hasSlopeLink 3 = true ∧ 15 ≤ 15 ∧
      15 < 16 ∧ roleOf 1 = some .optional) ∧
    (arrives addressed (inLoop .stopped) ∧ (inLoop .stopped).loop.state.running = false ∧ 2048 ≤ 2048 ∧
      (inLoop .stopped).swapPending = false ∧ (inLoop .stopped).loop.state = .stopped ∧
      ∀ e ∈ (inLoop .stopped).slopeMap, e.sensor = 0 → e.first + e.count ≤ 4) ∧
    (let s := running.setSensor 3 { Sensor.reset 3 with role := .required };
      s.loop.state.running = true ∧ ∃ m, m ≠ 0 ∧ s.hasSlopeLink m = true ∧ (s.sensor m).role = .required) ∧
    (running.loop.state.running = true ∧ Role.optional ≠ .required ∧
      ∀ m, m ≠ 0 → running.hasSlopeLink m = true → (running.sensor m).role ≠ .required) ∧
    (let offsets : List Int := [-32767];
      1 ≤ offsets.length ∧ offsets.length ≤ 1000 ∧ 2047 + offsets.length ≤ 2048 ∧ ∀ v ∈ offsets, v ≠ -32768) ∧
    (let entries : List MapEntry := [{ sensor := 0, first := 3, count := 1, column := 8191 },
        { sensor := 0, first := 0, count := 3, column := 8188 }];
      entries.length ≤ 32 ∧
      (∀ e ∈ entries, (inLoop .stopped).hasSlopeLink e.sensor = true ∧ e.first ≤ 2047 ∧ 1 ≤ e.count ∧
        e.count ≤ 2048 ∧ e.first + e.count ≤ ((inLoop .stopped).sensor e.sensor).slopeCount ∧
        e.column + e.count ≤ Config.columns (inLoop .stopped).variant) ∧
      entries.Pairwise (fun e f => e.column + e.count ≤ f.column ∨ f.column + f.count ≤ e.column)) := by
  refine ⟨⟨addressed_arrives rfl (by decide), by decide⟩, ⟨inLoop_arrives _, by decide⟩, ⟨by decide, 3, by decide⟩,
    ⟨by decide, by decide, fun m hm hl => ?_⟩, by decide, by decide⟩
  revert hm
  exact every_slope_link (P := fun m => m ≠ 0 → (running.sensor m).role ≠ .required) (by decide) m hl

theorem witness_ScanAndTelemetryRequests :
    (arrives addressed running ∧ patternOf 1 = some .pushPull ∧ 1 ≤ 32767 ∧ 1 ≤ 64 ∧ 255 ≤ 255 ∧ 1 ≤ 1 ∧
      1 < running.table.n ∧ running.table.n ≤ Config.actuators running.variant ∧
      running.loop.state = .opened ∧ running.scan.state ≠ .running) ∧
    (arrives addressed scanning ∧ scanning.scan.state = .running ∧ ∃ r, scanning.scan.run = some r) ∧
    ((127#16).toNat < 128) ∧ (1 ≤ 8 ∧ 8 ≤ 8) ∧
    (arrives addressed twoRecords ∧ ∃ r ∈ twoRecords.telem.fifo.take 8, r.capture = some 0) :=
  ⟨⟨addressed_arrives rfl (by decide), by decide⟩, ⟨addressed_arrives rfl (by decide), rfl, _, rfl⟩, by decide,
    by decide, addressed_arrives rfl (by decide), by decide⟩

/-- `running` with a number of records in the FIFO and all kinds selected. -/
def recorded (count : Nat) : State :=
  { running with telem := { Telem.reset with
      fifo := List.replicate count (Record.blank .event .opened), selection := 0x7F#7 } }

theorem witness_OfferedRecordsJoinInOrder :
    running.telem.selects .committed = false ∧ (recorded 0).telem.selects .committed = true ∧
      (recorded 0).telem.overflow = false ∧ (recorded 255).telem.fifo.length = 255 ∧
      (recorded 511).telem.fifo.length < 512 ∧ (recorded 511).telem.fifo.length ≠ 255 ∧
      512 ≤ (recorded 512).telem.fifo.length ∧
      ({ recorded 512 with telem := { (recorded 512).telem with overflow := true } } : State).telem.overflow =
        true := by
  have h : ∀ n, (recorded n).telem.fifo.length = n := fun n => List.length_replicate
  rw [h 255, h 511, h 512]
  exact ⟨by decide, by decide, rfl, rfl, by decide, by decide, by decide, rfl⟩

theorem witness_ScanRunsItsCycles :
    (1023 ≤ 1023 ∧ 1 ≤ 64 ∧ 64 ≤ 64 ∧ 1 ≤ 255 ∧ 255 ≤ 255 ∧ 1023 < 1024) ∧ 0 < 255 * (1023 - 1023 + 1) * 64 * 2 := by
  decide

theorem witness_ReportsChangeNothing :
    arrives addressed twoRecords ∧ twoRecords.hasSlopeLink 3 = true ∧ twoRecords.hasDriveLink 1 = true ∧
      (1 ≤ 1000 ∧ 1048 + 1000 ≤ 2048) ∧ 7192 + 1000 ≤ Config.columns twoRecords.variant ∧
      (1 ≤ 64 ∧ 960 + 64 ≤ Config.actuators twoRecords.variant) ∧
      (0 ≤ 31 ∧ ∃ c, twoRecords.telem.captureSlot 0 = some c ∧ 0 + 6 ≤ c.columns + c.n) ∧ 3 ≤ 3 := by
  refine ⟨addressed_arrives rfl (by decide), by decide, by decide, by decide, by decide, by decide,
    ⟨by decide, _, rfl, by decide⟩, by decide⟩

theorem witness_PortSettingsAndEvents :
    arrives addressed running ∧ running.resetLow = false ∧ (8191#16).toNat < 8192 ∧ 8192 ≤ (8192#16).toNat ∧
      (∃ r, replying.port.reply = some r) ∧ replying.port.resetAfterReply = false ∧
      running.port.reply = none ∧ running.port.resetsAtReplyEnd = 0 ∧
      ({ replying with port := { replying.port with resetAfterReply := true, resetsAtReplyEnd := 1 } } :
        State).port.resetAfterReply = true :=
  ⟨addressed_arrives rfl (by decide), rfl, by decide, by decide, ⟨_, rfl⟩, rfl, rfl, rfl, rfl⟩

theorem witness_SoftResetClearsBlocks :
    (running.resetLow = false ∧ running.port.features.keep = true) ∧
    ({ running with port := { running.port with features :=
      { running.port.features with keep := false } } } : State).port.features.keep = false ∧
    (toAll.broadcast = true ∧ toAll.master ≠ 0 ∧ toAll.payloadFits = true) ∧
    (let s : State := { replying with port := { replying.port with resetAfterReply := true } };
      ∃ r, s.port.reply = some r ∧ s.port.resetAfterReply = true) ∧
    (∀ n, 0 < ({ running with port := { running.port with resetsAtReplyEnd := n + 1 } } :
      State).port.resetsAtReplyEnd) ∧
    running.hasDriveLink 1 = true ∧ running.hasSlopeLink 3 = true ∧ (running.bank 0).state = .active :=
  ⟨by decide, rfl, by decide, ⟨_, rfl, rfl⟩, fun n => Nat.succ_pos n, by decide, by decide, by decide⟩

theorem witness_EveryRequestIsAnswered :
    envelopeOf (.loopStop addressed) = some addressed ∧ codeOf (.loopStop addressed) = some 0x27 ∧
      reaches addressed running ∧ (4 : Nat) ≠ addressed.master :=
  ⟨rfl, rfl, ⟨rfl, by decide, rfl, by decide⟩, by decide⟩

theorem witness_UnsuitableRequestsAreRefused :
    (envelopeOf (.ident toAll) = some toAll ∧ codeOf (.ident toAll) = some 0x34 ∧ toAll.master ≠ 0 ∧
      toAll.broadcast = true ∧ 0x34 ∉ [0x17, 0x18, 0x25, 0x26, 0x27, 0x28, 0x29, 0x3C]) ∧
    (let env : Envelope := { addressed with payloadFits := false };
      envelopeOf (.ident env) = some env ∧ reaches env running ∧ env.payloadFits = false ∧
        ∀ e a b n xs, Instr.ident env ≠ .refWrite e a b n xs) ∧
    (let env : Envelope := { addressed with payloadFits := false };
      envelopeOf (.refWrite env 3 0 1000 [5]) = some env ∧ codeOf (.refWrite env 3 0 1000 [5]) = some 0x08 ∧
        running.hasSlopeLink 3 = true ∧ 1 ≤ 1000 ∧ 1000 ≤ 1000) :=
  ⟨⟨rfl, by decide, by decide, rfl, by decide⟩, ⟨rfl, ⟨rfl, by decide, rfl, by decide⟩, rfl, nofun⟩,
    rfl, by decide⟩

end Sys2Proof.Tests
end

namespace Sys2Proof.Machine

/-! ### Rounding (R1) -/

/-- R1 for n not negative: n lies from half of d below the multiple to less than half of d above it. -/
theorem roundDiv_bounds {n : Int} {d : Nat} (hd : 0 < d) (hn : 0 ≤ n) :
    -(d : Int) ≤ 2 * (n - roundDiv n d * d) ∧ 2 * (n - roundDiv n d * d) < d := by
  have hpos : (0 : Int) < 2 * d := by omega
  have hlow := Int.ediv_mul_le (2 * n + d) hpos.ne'
  have hhigh := Int.lt_ediv_add_one_mul_self (2 * n + d) hpos
  simp only [roundDiv, hn, if_true]
  constructor <;> linarith

/-- The rounding of the negated number is the negated rounding. -/
theorem roundDiv_neg (n : Int) (d : Nat) (hd : 0 < d) : roundDiv (-n) d = -roundDiv n d := by
  have hzero : (d : Int) / (2 * d) = 0 := Int.ediv_eq_zero_of_lt (by omega) (by omega)
  rcases lt_trichotomy n 0 with h | h | h
  · simp [roundDiv, h.le, not_le.mpr h]
  · simp [roundDiv, h, hzero]
  · simp [roundDiv, h.le, not_le.mpr h]

/-- What R1 asks of the integer q as the rounding of n / d, against every other integer m. -/
def NearestAway (n : Int) (d : Nat) (q : Int) : Prop :=
  ∀ m : Int, m ≠ q →
    (n - q * d).natAbs < (n - m * d).natAbs ∨
      ((n - q * d).natAbs = (n - m * d).natAbs ∧ m.natAbs < q.natAbs)

theorem NearestAway.neg {n q : Int} {d : Nat} (h : NearestAway n d q) : NearestAway (-n) d (-q) := by
  intro m hm
  have hflip : ∀ k : Int, (-n - k * d).natAbs = (n - -k * d).natAbs := fun k => by
    rw [← Int.natAbs_neg]; congr 1; ring
  simpa only [hflip, neg_neg, Int.natAbs_neg] using h (-m) (by omega)

/-- R1 for n not negative. -/
theorem roundDiv_nearestAway_of_nonneg {n : Int} {d : Nat} (hd : 0 < d) (hn : 0 ≤ n) :
    NearestAway n d (roundDiv n d) := by
  obtain ⟨hlow, hhigh⟩ := roundDiv_bounds hd hn
  intro m hm
  generalize roundDiv n d = q at *
  rcases lt_or_gt_of_ne hm with hlt | hgt
  · have hgap : (d : Int) ≤ (q - m) * d := le_mul_of_one_le_left (by omega) (by omega)
    have hsplit : n - m * d = (n - q * d) + (q - m) * d := by ring
    rcases eq_or_lt_of_le hgap with htie | hfar
    · have hnext : m = q - 1 := by
        have := (mul_eq_right₀ (by omega : (d : Int) ≠ 0)).mp htie.symm
        omega
      have hq : -(d : Int) = 2 * (n - q * d) → 0 < q := fun h =>
        pos_of_mul_pos_left (by linarith : 0 < q * (d : Int)) (by omega)
      omega
    · left; omega
  · have hgap : (d : Int) ≤ (m - q) * d := le_mul_of_one_le_left (by omega) (by omega)
    have hsplit : n - m * d = (n - q * d) - (m - q) * d := by ring
    left; omega

/-- Settles O12, from the bounds of the rounding of a number that is not negative, and its mirror image. -/
theorem roundingIsToNearestTiesAway : Obligations.RoundingIsToNearestTiesAway := by
  intro n d hd
  rcases le_total 0 n with hn | hn
  · exact roundDiv_nearestAway_of_nonneg hd hn
  · have h := (roundDiv_nearestAway_of_nonneg hd (Int.neg_nonneg_of_nonpos hn)).neg
    rw [neg_neg, roundDiv_neg n d hd, neg_neg] at h
    exact h

/-! ### Saturation (R2) -/

theorem saturate_of_lt {lo hi v : Int} (h : v < lo) : saturate lo hi v = lo := if_pos h

theorem saturate_of_gt {lo hi v : Int} (hle : lo ≤ hi) (h : hi < v) : saturate lo hi v = hi := by
  rw [saturate, if_neg (by omega), if_pos h]

theorem saturate_of_mem {lo hi v : Int} (hlo : lo ≤ v) (hhi : v ≤ hi) : saturate lo hi v = v := by
  rw [saturate, if_neg (by omega), if_neg (by omega)]

theorem saturated_iff {lo hi v : Int} : saturated lo hi v = true ↔ v < lo ∨ hi < v := by
  simp [saturated]

/-- Settles O13, by where the value lies: below, above or within. -/
theorem saturationTakesTheNearerEnd : Obligations.SaturationTakesTheNearerEnd := by
  intro lo hi v hle
  refine ⟨saturate_of_lt, saturate_of_gt hle, saturate_of_mem, ?_⟩
  rw [saturated_iff]
  rcases lt_or_ge v lo with hlo | hlo
  · simp only [saturate_of_lt hlo]; omega
  · rcases lt_or_ge hi v with hhi | hhi
    · simp only [saturate_of_gt hle hhi]; omega
    · simp only [saturate_of_mem hlo hhi]; omega

/-! ### Frame order (R3) -/

theorem newer_iff (f g : Frame) :
    newer f g = true ↔
      1 ≤ (f.toNat + 65536 - g.toNat) % 65536 ∧ (f.toNat + 65536 - g.toNat) % 65536 ≤ 32767 := by
  have hsub : (f - g).toNat = (f.toNat + 65536 - g.toNat) % 65536 := by
    rw [BitVec.toNat_sub]
    congr 1
    omega
  simp [newer, hsub]

theorem older_iff (f g : Frame) : older f g = true ↔ newer f g = false ∧ f ≠ g := by
  simp [older]

/-- Frames half the range apart: neither is newer. -/
theorem older_of_half {f g : Frame} (h : (f.toNat + 65536 - g.toNat) % 65536 = 32768) :
    older f g = true := by
  rw [older_iff, ← Bool.not_eq_true, newer_iff]
  refine ⟨by omega, ?_⟩
  rintro rfl
  omega

/-- Settles O14: a difference of 32,768 is the same both ways. -/
theorem frameOrder : Obligations.FrameOrder := by
  intro f g
  refine ⟨newer_iff f g, older_iff f g, fun h => ⟨older_of_half h, older_of_half ?_⟩⟩
  have hf := f.isLt
  have hg := g.isLt
  omega

/-! ### Settings of the loop and of the links -/

/-- An addressed request that fits is answered with the verdict of its owning block. -/
theorem request_of_verdict {env : Envelope} {s : State} (h : arrives env s) (code : Nat)
    {body : State → Verdict} {v : Verdict} (hv : body (takeFrame env s) = v) :
    request env code body s = .next (conclude env code v) := by
  rw [request_reaches env code body s h.1, hv]

/-- R4: a configuration value is brought to the nearest end of its range. -/
theorem clamp_eq_max_min {lo hi : Nat} (h : lo ≤ hi) (v : Nat) : clamp lo hi v = max lo (min hi v) := by
  unfold clamp
  split
  · omega
  · split <;> omega

/-- R4: a value is changed exactly when it lies outside its range. -/
theorem clamp_ne_iff {lo hi : Nat} (h : lo ≤ hi) (v : Nat) : clamp lo hi v ≠ v ↔ ¬(lo ≤ v ∧ v ≤ hi) := by
  rw [clamp_eq_max_min h]
  omega

theorem loopConfigClamped_eq (deadline missed stroke drive : Nat) :
    loopConfigClamped deadline missed stroke drive =
      !(decide (20 ≤ deadline ∧ deadline ≤ 5000 ∧ 1 ≤ missed ∧ missed ≤ 255 ∧ 1 ≤ stroke ∧
        stroke ≤ 255 ∧ 1 ≤ drive ∧ drive ≤ 255)) := by
  rw [Bool.eq_iff_iff]
  simp only [loopConfigClamped, Bool.or_eq_true, Bool.not_eq_true', decide_eq_true_eq, decide_eq_false_iff_not,
    clamp_ne_iff (show 20 ≤ 5000 by decide), clamp_ne_iff (show 1 ≤ 255 by decide)]
  omega

theorem timersClamped_eq (reply apply window : Nat) :
    timersClamped reply apply window =
      !(decide (5 ≤ reply ∧ reply ≤ 500 ∧ 5 ≤ apply ∧ apply ≤ 2000 ∧ 10 ≤ window ∧ window ≤ 1000)) := by
  rw [Bool.eq_iff_iff]
  simp only [timersClamped, Bool.or_eq_true, Bool.not_eq_true', decide_eq_true_eq, decide_eq_false_iff_not,
    clamp_ne_iff (show 5 ≤ 500 by decide), clamp_ne_iff (show 5 ≤ 2000 by decide),
    clamp_ne_iff (show 10 ≤ 1000 by decide)]
  omega

/-- R162: FLATTEN in STOPPED or SAFE with no bias send in flight. -/
theorem flattenBody_accepted {env : Envelope} {s : State} (hfit : env.payloadFits = true)
    (hrest : s.loop.state.running = false) (hsend : s.drive.biasSend = none) :
    flattenBody env s = .accepted (beginBiasSend s) := by
  simp [flattenBody, whenFits, hfit, hrest, hsend]

/-- R161. -/
theorem loopConfigBody_ok {env : Envelope} (hfit : env.payloadFits = true)
    (deadline missed stroke drive : Nat) (s : State) :
    loopConfigBody env deadline missed stroke drive s =
      .ok [] (loopConfigClamped deadline missed stroke drive)
        { s with loop := { s.loop with
          deadline := max 20 (min 5000 deadline), missedThreshold := max 1 (min 255 missed),
          strokeThreshold := max 1 (min 255 stroke), driveThreshold := max 1 (min 255 drive) } } := by
  rw [loopConfigBody, whenFits_true _ _ _ hfit, clamp_eq_max_min (by decide), clamp_eq_max_min (by decide),
    clamp_eq_max_min (by decide), clamp_eq_max_min (by decide)]

/-- R143: LINK_RESET of a FAULTED link. -/
theorem linkResetBody_faulted {env : Envelope} {l : Nat} {s : State} (hfit : env.payloadFits = true)
    (hlink : s.hasDriveLink l = true) (hstate : (s.driveLink l).state = .faulted) :
    linkResetBody env l s = .done (s.modifyDriveLink l (fun r => { r with state := s.restState l })) := by
  simp [linkResetBody, whenFits, hfit, hlink, hstate]

/-- R144 check 4: every actuator of the link fits below the new M. -/
theorem uncarried_eq_none {t : ActTable} {l m : Nat}
    (h : ∀ a, a < t.n → (t.actuator a).link = l → (t.actuator a).channel < m) :
    uncarried t l m = none := by
  simpa [uncarried, List.find?_eq_none] using h

/-- R144: LINK_CONFIG of a link that can carry its actuators. -/
theorem linkConfigBody_ok {env : Envelope} {l m : Nat} (park reply apply window : Nat) {s : State}
    (hfit : env.payloadFits = true) (hlink : s.hasDriveLink l = true) (hpos : 1 ≤ m)
    (hmax : m ≤ Config.channels s.variant)
    (hstate : m = (s.driveLink l).channels ∨ s.loop.state = .stopped)
    (hcarried : uncarried s.effective l m = none) :
    linkConfigBody env l m park reply apply window s =
      .ok [] (timersClamped reply apply window) (s.modifyDriveLink l (fun r =>
        { r with channels := m, park := park, replyTimeout := max 5 (min 500 reply),
                 applyTimeout := max 5 (min 2000 apply),
                 recoveryWindow := max 10 (min 1000 window) })) := by
  have hwrong : ¬(m ≠ (s.driveLink l).channels ∧ s.loop.state ≠ .stopped) := by tauto
  have hconf : (fun r : DriveLink => r.configure m park reply apply window) = fun r =>
      { r with channels := m, park := park, replyTimeout := max 5 (min 500 reply),
               applyTimeout := max 5 (min 2000 apply), recoveryWindow := max 10 (min 1000 window) } := by
    funext r
    simp only [DriveLink.configure, clamp_eq_max_min (show 5 ≤ 500 by decide),
      clamp_eq_max_min (show 5 ≤ 2000 by decide), clamp_eq_max_min (show 10 ≤ 1000 by decide)]
  rw [linkConfigBody, whenFits_true _ _ _ hfit, if_neg (by simp [hlink]), if_neg (by omega),
    if_neg (by omega), if_neg hwrong, hcarried, hconf]

/-- R15: LINK_COUNTERS_CLEAR of a slope link. -/
theorem linkCountersClearBody_slope {env : Envelope} {n : Nat} {s : State}
    (hfit : env.payloadFits = true) (hlink : s.hasSlopeLink n = true) :
    linkCountersClearBody env 0 n s = .done (s.modifyReceiver n Receiver.clearCounters) := by
  simp [linkCountersClearBody, whenFits, hfit, linkKind, hlink]

/-- R142: LINK_COUNTERS_CLEAR of a drive link. -/
theorem linkCountersClearBody_drive {env : Envelope} {l : Nat} {s : State}
    (hfit : env.payloadFits = true) (hlink : s.hasDriveLink l = true) :
    linkCountersClearBody env 1 l s = .done (s.modifyDriveLink l DriveLink.clearCounters) := by
  simp [linkCountersClearBody, whenFits, hfit, linkKind, hlink]

/-- Settles O43: each request is answered with the verdict of its block (R188, R189). -/
theorem loopAndLinkSettings : Obligations.LoopAndLinkSettings := by
  intro env s h
  have hfit : env.payloadFits = true := h.2
  refine ⟨fun hstate hsend => ?_, fun deadline missed stroke drive => ?_, fun l hlink hstate => ?_,
    fun l m park reply apply window hlink hpos hmax hstate hchannel => ?_, fun n hlink => ?_,
    fun l hlink => ?_⟩
  · have hrest : s.loop.state.running = false := by rcases hstate with e | e <;> rw [e] <;> rfl
    exact request_of_verdict h 0x29 (flattenBody_accepted (s := takeFrame env s) hfit hrest hsend)
  · rw [← loopConfigClamped_eq]
    exact request_of_verdict h 0x2A (loopConfigBody_ok hfit deadline missed stroke drive _)
  · exact request_of_verdict h 0x23 (linkResetBody_faulted (s := takeFrame env s) hfit hlink hstate)
  · rw [← timersClamped_eq]
    exact request_of_verdict h 0x24 (linkConfigBody_ok (s := takeFrame env s) park reply apply window hfit
      hlink hpos hmax hstate (uncarried_eq_none hchannel))
  · exact request_of_verdict h 0x02 (linkCountersClearBody_slope (s := takeFrame env s) hfit hlink)
  · exact request_of_verdict h 0x02 (linkCountersClearBody_drive (s := takeFrame env s) hfit hlink)

section
-- One proof after another: proofs elaborated side by side each take a thread with its own stack,
-- and the many short ones below would together pass the check's memory limit.
set_option Elab.async false

/-! ### The ranges of the actuator table (R95 to R99) -/

/-- Equal in what R95 and R98 bound: N, the fields that ACT_WRITE writes, and the pair list. -/
def ActTable.sameFields (t u : ActTable) : Prop :=
  t.n = u.n ∧ t.pairs = u.pairs ∧ ∀ a, (t.actuator a).fields = (u.actuator a).fields

theorem ActTable.sameFields.trans {t u w : ActTable} (h : t.sameFields u) (g : u.sameFields w) :
    t.sameFields w :=
  ⟨h.1.trans g.1, h.2.1.trans g.2.1, fun a => (h.2.2 a).trans (g.2.2 a)⟩

/-- A record rewritten with the same fields leaves the ranges' subject as it was. -/
theorem ActTable.setActuator_sameFields (t : ActTable) {a : Nat} {r : Actuator}
    (h : r.fields = (t.actuator a).fields) : (t.setActuator a r).sameFields t := by
  refine ⟨rfl, rfl, fun b => ?_⟩
  rw [actuator_setActuator]
  split
  · next hab => rw [← hab, h]
  · rfl

/-- R121: a commit writes x and the last output alone. -/
theorem ActTable.commit_sameFields (t : ActTable) (a : Nat) (xs os : List Nat) :
    (t.commit a xs os).sameFields t := by
  induction xs generalizing t a os with
  | nil => exact ⟨rfl, rfl, fun _ => rfl⟩
  | cons x xs ih =>
    cases os with
    | nil => exact ⟨rfl, rfl, fun _ => rfl⟩
    | cons o os => exact (ih _ _ _).trans (t.setActuator_sameFields rfl)

/-- R140: a bias send's begin writes x alone. -/
theorem ActTable.biasStates_sameFields (t : ActTable) (a : Nat) (bs : List Nat) :
    (t.biasStates a bs).sameFields t := by
  induction bs generalizing t a with
  | nil => exact ⟨rfl, rfl, fun _ => rfl⟩
  | cons b bs ih => exact (ih _ _).trans (t.setActuator_sameFields rfl)

/-- R141: a bias send's pulse writes the last output alone. -/
theorem ActTable.biasOutputs_sameFields (t : ActTable) (a : Nat) (bs : List Nat) :
    (t.biasOutputs a bs).sameFields t := by
  induction bs generalizing t a with
  | nil => exact ⟨rfl, rfl, fun _ => rfl⟩
  | cons b bs ih => exact (ih _ _).trans (t.setActuator_sameFields rfl)

/-- R95, R98: what `ActTable.inRange` says without the length of the pair list, which an edit may change. -/
def ActTable.entriesInRange (v : Variant) (t : ActTable) : Prop :=
  t.n ≤ Config.actuators v ∧ (∀ a, a < Config.actuators v → fieldsInRange v (t.actuator a).fields) ∧
    ∀ p ∈ t.pairs, p.inRange v

theorem ActTable.inRange_iff {v : Variant} {t : ActTable} :
    t.inRange v ↔ t.entriesInRange v ∧ t.pairs.length ≤ Config.pairEntries := by
  unfold inRange entriesInRange
  tauto

theorem ActTable.inRange.of_sameFields {v : Variant} {t u : ActTable} (h : u.inRange v)
    (hsame : t.sameFields u) : t.inRange v := by
  obtain ⟨hn, hp, hf⟩ := hsame
  unfold inRange at h ⊢
  simpa only [hn, hp, hf] using h

theorem ActTable.entriesInRange.setActuator {v : Variant} {t : ActTable} (h : t.entriesInRange v) (a : Nat)
    {r : Actuator} (hr : a < Config.actuators v → fieldsInRange v r.fields) :
    (t.setActuator a r).entriesInRange v := by
  refine ⟨h.1, fun b hb => ?_, h.2.2⟩
  rw [actuator_setActuator]
  split
  · next hab => exact hr (hab ▸ hb)
  · exact h.2.1 b hb

/-- R103: records in range are written. -/
theorem ActTable.entriesInRange.rewrite {v : Variant} {t : ActTable} (h : t.entriesInRange v) (first : Nat)
    {records : List ActFields} (hr : ∀ f ∈ records, fieldsInRange v f) :
    (t.rewrite first records).entriesInRange v := by
  induction records generalizing t first with
  | nil => exact h
  | cons f fs ih =>
    exact ih (h.setActuator first (r := (t.actuator first).rewrite f) fun _ => hr f List.mem_cons_self) _
      fun g hg => hr g (List.mem_cons_of_mem f hg)

theorem Actuator.setMode_fields (r : Actuator) (m : Mode) (value : Option Nat) :
    (r.setMode m value).fields = r.fields := by
  unfold setMode
  split <;> rfl

/-- R103 to R106: an edit in range leaves the entries in range. -/
theorem ActTable.entriesInRange.apply {v : Variant} {t : ActTable} (h : t.entriesInRange v) {e : Edit}
    (he : e.inRange v) : (t.apply e).entriesInRange v := by
  cases e with
  | write first records => exact h.rewrite first he
  | mode a m value =>
    exact h.setActuator a fun ha => by rw [Actuator.setMode_fields]; exact h.2.1 a ha
  | pairAdd p =>
    refine ⟨h.1, h.2.1, fun q hq => ?_⟩
    rcases List.mem_append.mp hq with hq | hq
    · exact h.2.2 q hq
    · exact List.mem_singleton.mp hq ▸ he
  | pairDrop a b => exact ⟨h.1, h.2.1, fun q hq => h.2.2 q (List.mem_of_mem_filter hq)⟩

/-- R99: edits in range, one after the other, leave the entries in range. -/
theorem ActTable.entriesInRange.applyAll {v : Variant} {t : ActTable} (h : t.entriesInRange v)
    {es : List Edit} (hes : ∀ e ∈ es, e.inRange v) : (es.foldl ActTable.apply t).entriesInRange v :=
  List.foldlRecOn es ActTable.apply h fun _ hu e he => hu.apply (hes e he)

@[simp] theorem ActTable.rewrite_pairs (t : ActTable) (first : Nat) (records : List ActFields) :
    (t.rewrite first records).pairs = t.pairs := by
  induction records generalizing t first with
  | nil => rfl
  | cons f fs ih => exact ih _ _

/-- The pair list that an edit leaves depends on the pair list alone. -/
theorem ActTable.apply_pairs_congr {t u : ActTable} (h : t.pairs = u.pairs) (e : Edit) :
    (t.apply e).pairs = (u.apply e).pairs := by
  cases e <;> simp [ActTable.apply, h]

theorem ActTable.applyAll_pairs_congr {t u : ActTable} (h : t.pairs = u.pairs) (es : List Edit) :
    (es.foldl ActTable.apply t).pairs = (es.foldl ActTable.apply u).pairs := by
  induction es generalizing t u with
  | nil => exact h
  | cons e es ih => exact ih (apply_pairs_congr h e)

/-- What keeps N, the fields, the pair list and the held edits keeps the ranges, while a flight goes on or
nothing is held. -/
theorem State.tableInRange.of_same {s t : State} (h : s.tableInRange) (hv : t.variant = s.variant)
    (htable : t.table.sameFields s.table) (hhold : t.hold = s.hold)
    (hflight : t.inFlight = false → s.inFlight = false ∨ s.hold = []) : t.tableInRange := by
  obtain ⟨hrange, hedits, hlength, hheld⟩ := h
  refine ⟨hv ▸ hrange.of_sameFields htable, by rw [hhold, hv]; exact hedits, ?_, fun hf => ?_⟩
  · unfold State.effective at hlength ⊢
    rw [hhold, ActTable.applyAll_pairs_congr htable.2.1]
    exact hlength
  · rw [hhold]
    exact (hflight hf).elim hheld id

/-- R99: the effective table lies in the ranges. -/
theorem State.tableInRange.effective {s : State} (h : s.tableInRange) : s.effective.inRange s.variant := by
  obtain ⟨hrange, hedits, hlength, -⟩ := h
  exact ActTable.inRange_iff.mpr ⟨(ActTable.inRange_iff.mp hrange).1.applyAll hedits, hlength⟩

/-- With nothing held the ranges are those of the table alone. -/
theorem State.tableInRange.of_nothingHeld {t : State} (h : t.table.inRange t.variant) (hhold : t.hold = []) :
    t.tableInRange := by
  refine ⟨h, by simp [hhold], ?_, fun _ => hhold⟩
  rw [effective_nil t hhold]
  exact (ActTable.inRange_iff.mp h).2

/-! ### The configured values of a state -/

/-- R42, R147, R161: the deadline and the three thresholds. -/
def Loop.inRange (l : Loop) : Prop :=
  (20 ≤ l.deadline ∧ l.deadline ≤ 5000) ∧ (1 ≤ l.missedThreshold ∧ l.missedThreshold ≤ 255) ∧
    (1 ≤ l.strokeThreshold ∧ l.strokeThreshold ≤ 255) ∧ (1 ≤ l.driveThreshold ∧ l.driveThreshold ≤ 255)

/-- R195: the load-idle limit. -/
def Features.inRange (f : Features) : Prop := 10 ≤ f.loadIdleLimit ∧ f.loadIdleLimit ≤ 60000

/-- R129, R144: what LINK_CONFIG sets. -/
def DriveLink.inRange (v : Variant) (r : DriveLink) : Prop :=
  (1 ≤ r.channels ∧ r.channels ≤ Config.channels v) ∧ (5 ≤ r.replyTimeout ∧ r.replyTimeout ≤ 500) ∧
    (5 ≤ r.applyTimeout ∧ r.applyTimeout ≤ 2000) ∧ (10 ≤ r.recoveryWindow ∧ r.recoveryWindow ≤ 1000) ∧
    r.park ≤ 65535

/-- `State.configured` with a name for each of its parts. -/
structure State.InRange (s : State) : Prop where
  loop : s.loop.inRange
  features : s.port.features.inRange
  links : ∀ l, (s.driveLink l).inRange s.variant
  sensors : ∀ n, s.hasSlopeLink n = true → (s.sensor n).inRange
  slopeMap : s.slopeMap.length ≤ Config.mapEntries ∧ ∀ e ∈ s.slopeMap, s.entryInRange e
  gains : ∀ k, (s.gain k).gain ≤ 65535 ∧ (s.gain k).leak ≤ 65535
  table : s.tableInRange
  pending : ∀ c ∈ s.pending, c.wellFormed = true

theorem State.configured_iff {s : State} : s.configured ↔ s.InRange :=
  ⟨fun ⟨hdeadline, hmissed, hstroke, hdrive, hlimit, hlinks, hsensors, hmap, hgains, htable, hpending⟩ =>
    ⟨⟨hdeadline, hmissed, hstroke, hdrive⟩, hlimit, hlinks, hsensors, hmap, hgains, htable, hpending⟩,
  fun ⟨⟨hdeadline, hmissed, hstroke, hdrive⟩, hlimit, hlinks, hsensors, hmap, hgains, htable, hpending⟩ =>
    ⟨hdeadline, hmissed, hstroke, hdrive, hlimit, hlinks, hsensors, hmap, hgains, htable, hpending⟩⟩

/-- What leaves every block that holds configuration as it was keeps the ranges. The premises are those that
the `_leaves` lemmas give. -/
theorem State.InRange.of_frame {s t : State} (h : s.InRange) (hvariant : t.variant = s.variant := by simp)
    (hloop : t.loop = s.loop := by simp) (hfeatures : t.port.features = s.port.features := by simp)
    (hdrive : t.drive = s.drive := by simp) (hsensors : t.sensors = s.sensors := by simp)
    (hmap : t.slopeMap = s.slopeMap := by simp) (hgains : t.gains = s.gains := by simp)
    (htable : t.table = s.table := by simp) (hhold : t.hold = s.hold := by simp)
    (hstage : t.stage = s.stage := by simp) (hpending : t.pending = s.pending := by simp) : t.InRange where
  loop := hloop ▸ h.loop
  features := hfeatures ▸ h.features
  links l := by rw [State.driveLink, hvariant, hdrive]; exact h.links l
  sensors n hn := by
    rw [State.sensor, hsensors]
    rw [State.hasSlopeLink, hvariant] at hn
    exact h.sensors n hn
  slopeMap := by
    simp only [hmap, State.entryInRange, State.hasSlopeLink, hvariant]
    exact h.slopeMap
  gains k := by rw [State.gain, hgains]; exact h.gains k
  table := h.table.of_same hvariant (htable ▸ ⟨rfl, rfl, fun _ => rfl⟩) hhold fun hf => by
    rw [State.inFlight, hstage, hdrive] at hf
    exact .inl hf
  pending := hpending ▸ h.pending

section
variable {s : State}

/-! One block at a time. -/

theorem State.InRange.withLoop (h : s.InRange) {l : Loop} (hl : l.inRange) :
    ({ s with loop := l } : State).InRange :=
  ⟨hl, h.features, h.links, h.sensors, h.slopeMap, h.gains, h.table, h.pending⟩

theorem State.InRange.withPort (h : s.InRange) {p : Port} (hp : p.features.inRange) :
    ({ s with port := p } : State).InRange :=
  ⟨h.loop, hp, h.links, h.sensors, h.slopeMap, h.gains, h.table, h.pending⟩

theorem State.InRange.withPending (h : s.InRange) {cs : List Instr}
    (hcs : ∀ c ∈ cs, c.wellFormed = true) : ({ s with pending := cs } : State).InRange :=
  ⟨h.loop, h.features, h.links, h.sensors, h.slopeMap, h.gains, h.table, hcs⟩

theorem State.InRange.withTable (h : s.InRange) {t : ActTable} (ht : t.sameFields s.table) :
    ({ s with table := t } : State).InRange :=
  ⟨h.loop, h.features, h.links, h.sensors, h.slopeMap, h.gains, h.table.of_same rfl ht rfl .inl, h.pending⟩

/-- A stage that becomes IDLE has nothing held. -/
theorem State.InRange.withStage (h : s.InRange) {g : Stage}
    (hg : g.phase = .idle → s.stage.phase = .idle ∨ s.hold = []) :
    ({ s with stage := g } : State).InRange := by
  refine ⟨h.loop, h.features, h.links, h.sensors, h.slopeMap, h.gains,
    h.table.of_same rfl ⟨rfl, rfl, fun _ => rfl⟩ rfl fun hf => ?_, h.pending⟩
  simp only [State.inFlight, Bool.or_eq_false_iff, decide_eq_false_iff_not, not_not] at hf ⊢
  exact (hg hf.1).imp (⟨·, hf.2⟩) id

/-- A bias send that ends has nothing held. -/
theorem State.InRange.withDrive (h : s.InRange) {d : Drive} (hlinks : d.links = s.drive.links)
    (hsend : d.biasSend = none → s.drive.biasSend = none ∨ s.hold = []) :
    ({ s with drive := d } : State).InRange := by
  refine ⟨h.loop, h.features, fun l => ?_, h.sensors, h.slopeMap, h.gains,
    h.table.of_same rfl ⟨rfl, rfl, fun _ => rfl⟩ rfl fun hf => ?_, h.pending⟩
  · rw [State.driveLink, hlinks]
    exact h.links l
  · simp only [State.inFlight, Bool.or_eq_false_iff, Option.isSome_eq_false_iff, Option.isNone_iff_eq_none]
      at hf ⊢
    exact (hsend hf.2).imp (⟨hf.1, ·⟩) id

theorem State.InRange.setDriveLink (h : s.InRange) (l : Nat) {r : DriveLink} (hr : r.inRange s.variant) :
    (s.setDriveLink l r).InRange := by
  refine ⟨h.loop, h.features, fun m => ?_, h.sensors, h.slopeMap, h.gains, h.table, h.pending⟩
  rw [State.driveLink_setDriveLink]
  split
  · exact hr
  · exact h.links m

theorem State.InRange.modifyDriveLink (h : s.InRange) (l : Nat) {f : DriveLink → DriveLink}
    (hf : ∀ r, r.inRange s.variant → (f r).inRange s.variant) : (s.modifyDriveLink l f).InRange :=
  h.setDriveLink l (hf _ (h.links l))

theorem State.InRange.setSensor (h : s.InRange) (n : Nat) {r : Sensor} (hr : r.inRange) :
    (s.setSensor n r).InRange := by
  refine ⟨h.loop, h.features, h.links, fun m hm => ?_, h.slopeMap, h.gains, h.table, h.pending⟩
  rw [State.sensor_setSensor]
  split
  · exact hr
  · exact h.sensors m hm

theorem State.InRange.withSlopeMap (h : s.InRange) {entries : List MapEntry} {store : Table Int}
    (hlength : entries.length ≤ Config.mapEntries) (hentries : ∀ e ∈ entries, s.entryInRange e) :
    ({ s with slopeMap := entries, store := store } : State).InRange :=
  ⟨h.loop, h.features, h.links, h.sensors, ⟨hlength, hentries⟩, h.gains, h.table, h.pending⟩

theorem State.InRange.withGain (h : s.InRange) (k : Nat) {g : Gain} (hgain : g.gain ≤ 65535)
    (hleak : g.leak ≤ 65535) :
    ({ s with gains := Table.set Gain.reset s.gains k g } : State).InRange := by
  refine ⟨h.loop, h.features, h.links, h.sensors, h.slopeMap, fun m => ?_, h.table, h.pending⟩
  rw [State.gain, Table.get_set]
  split
  · exact ⟨hgain, hleak⟩
  · exact h.gains m

/-- R101: a new N leaves the records and the pair list. -/
theorem State.InRange.withCount (h : s.InRange) {n : Nat} (hn : n ≤ Config.actuators s.variant) :
    ({ s with table := { s.table with n := n } } : State).InRange := by
  obtain ⟨⟨-, hrecords, hpairs⟩, hedits, hlength, hheld⟩ := h.table
  refine ⟨h.loop, h.features, h.links, h.sensors, h.slopeMap, h.gains,
    ⟨⟨hn, hrecords, hpairs⟩, hedits, ?_, hheld⟩, h.pending⟩
  have hsame : (s.hold.foldl ActTable.apply { s.table with n := n }).pairs = s.effective.pairs :=
    ActTable.applyAll_pairs_congr (t := { s.table with n := n }) (u := s.table) rfl s.hold
  rw [State.effective, hsame]
  exact hlength

/-- R100: the held edits become part of the table. -/
theorem State.InRange.releaseHold (h : s.InRange) :
    ({ s with table := s.effective, hold := [] } : State).InRange :=
  ⟨h.loop, h.features, h.links, h.sensors, h.slopeMap, h.gains,
    State.tableInRange.of_nothingHeld h.table.effective rfl, h.pending⟩

end

/-! ### The shared operations keep the ranges

One lemma per operation, in the order of the model's files. Operations that leave every block of configuration
need none: `State.InRange.of_frame` takes what Laws/Leaves.lean says of them. -/

section
variable {s : State}

/-! #### Telemetry, links and held edits (Ops) -/

theorem raise_inRange {c : Cause} (h : s.InRange) : (raise c s).InRange :=
  h.of_frame (hfeatures := rfl)

theorem joinFifo_inRange {r : Record} {copy : Option CaptureCopy} (h : s.InRange) :
    (joinFifo r copy s).InRange := by
  have hfeatures : (joinFifo r copy s).port.features = s.port.features := by
    unfold joinFifo
    split
    · rfl
    split
    · rfl
    · dsimp only
      split <;> rfl
  exact h.of_frame (hfeatures := hfeatures)

theorem offer_inRange {r : Record} {copy : Option CaptureCopy} (h : s.InRange) :
    (offer r copy s).InRange := by
  unfold offer
  split
  · exact joinFifo_inRange h
  · exact h

theorem settleLink_inRange {l : Nat} (h : s.InRange) : (settleLink l s).InRange := by
  unfold settleLink
  split
  · exact h.modifyDriveLink l fun _ hr => hr
  · exact h.modifyDriveLink l fun _ hr => hr
  · exact h

theorem settleLinks_inRange (h : s.InRange) : (settleLinks s).InRange :=
  List.foldlRecOn _ (fun t l => settleLink l t) h fun _ hu _ _ => settleLink_inRange hu

theorem applyHold_inRange (h : s.InRange) : (applyHold s).InRange :=
  settleLinks_inRange h.releaseHold

/-! #### Scan, loop state and swaps (Loops) -/

theorem scanAbort_inRange {cause : EndCause} (h : s.InRange) : (scanAbort cause s).InRange := by
  unfold scanAbort
  split
  · exact offer_inRange h.of_frame
  · exact h

theorem scanCommit_inRange {f : Frame} {p : Option Poke} (h : s.InRange) : (scanCommit f p s).InRange := by
  unfold scanCommit
  split
  · split
    · dsimp only
      split
      · exact offer_inRange (raise_inRange h.of_frame)
      · exact h.of_frame
    · exact h
  · exact h

theorem changeLoop_inRange {entered : LoopState} {cause : LoopCause} {f : Option Frame} (h : s.InRange) :
    (changeLoop entered cause f s).InRange :=
  offer_inRange (h.withLoop h.loop)

theorem clearRuns_inRange (h : s.InRange) : (clearRuns s).InRange := h.withLoop h.loop

theorem enterTracking_inRange {target : Target} {cause : LoopCause} {f : Option Frame} (h : s.InRange) :
    (enterTracking target cause f s).InRange :=
  clearRuns_inRange (changeLoop_inRange h)

theorem enterHold_inRange {cause : LoopCause} {f : Option Frame} (h : s.InRange) :
    (enterHold cause f s).InRange := by
  have hc := changeLoop_inRange (entered := .hold) (cause := cause) (f := f) h
  exact scanAbort_inRange (raise_inRange (hc.withLoop hc.loop))

theorem compareRun_inRange {run threshold : Nat} {cause : LoopCause} {f : Option Frame} (h : s.InRange) :
    (compareRun run threshold cause f s).InRange := by
  have hhold := enterHold_inRange (cause := cause) (f := f) h
  unfold compareRun
  split
  · split
    · exact hhold
    · exact h
  · split
    · exact hhold
    · exact h
  · exact h

theorem reportMissed_inRange {f : Frame} (h : s.InRange) : (reportMissed f s).InRange := by
  unfold reportMissed
  dsimp only
  split
  · exact compareRun_inRange (h.withLoop h.loop)
  · exact h

theorem reportUsed_inRange (h : s.InRange) : (reportUsed s).InRange := by
  unfold reportUsed
  split
  · exact h.withLoop h.loop
  · exact h

theorem reportStroke_inRange {f : Frame} (h : s.InRange) : (reportStroke f s).InRange := by
  unfold reportStroke
  dsimp only
  split
  · exact compareRun_inRange (h.withLoop h.loop)
  · exact h

theorem reportPassed_inRange (h : s.InRange) : (reportPassed s).InRange := by
  unfold reportPassed
  split
  · exact h.withLoop h.loop
  · exact h

theorem reportDrive_inRange {f : Option Frame} (h : s.InRange) : (reportDrive f s).InRange := by
  unfold reportDrive
  dsimp only
  split
  · exact compareRun_inRange (h.withLoop h.loop)
  · exact h

theorem reportCommitted_inRange (h : s.InRange) : (reportCommitted s).InRange := by
  unfold reportCommitted
  split
  · exact h.withLoop h.loop
  · exact h

theorem testScheduled_inRange {g : Frame} (h : s.InRange) : (testScheduled g s).InRange := by
  unfold testScheduled
  split
  · exact h
  · next p _ =>
    have hcleared := h.withLoop (l := { s.loop with pendingTransition := none }) h.loop
    split
    · dsimp only
      split
      · split
        · exact hcleared
        · exact enterTracking_inRange hcleared
      · split
        · exact hcleared
        · exact enterTracking_inRange hcleared
    · exact h

theorem applySwap_inRange {g : Frame} (h : s.InRange) : (applySwap g s).InRange := by
  unfold applySwap
  split
  · exact h
  · next b _ =>
    have hactive : (activate b s).InRange := h.of_frame
    split
    · refine offer_inRange (raise_inRange ?_)
      split
      · exact hactive
      · exact hactive.of_frame
    · exact h

theorem cancelSwap_inRange (h : s.InRange) : (cancelSwap s).InRange := by
  unfold cancelSwap
  split
  · exact h
  · exact raise_inRange h.of_frame

/-! #### The frame assembler (Assembly) -/

theorem freeSlot_inRange {k : Nat} (h : s.InRange) : (freeSlot k s).InRange := h.of_frame

theorem abandonSlot_inRange {k : Nat} (h : s.InRange) : (abandonSlot k s).InRange :=
  offer_inRange (freeSlot_inRange h)

theorem decideMissed_inRange {k : Nat} (h : s.InRange) : (decideMissed k s).InRange := by
  unfold decideMissed
  dsimp only
  split
  · exact reportMissed_inRange (offer_inRange (freeSlot_inRange h))
  · exact reportUsed_inRange h.of_frame

theorem closeSlot_inRange {k : Nat} {cause : CloseCause} (h : s.InRange) :
    (closeSlot k cause s).InRange := by
  unfold closeSlot
  dsimp only
  split
  · refine decideMissed_inRange ?_
    split
    · exact abandonSlot_inRange h.of_frame
    · exact h.of_frame
  · exact h

theorem openSlot_inRange {k : Nat} {f : Frame} (h : s.InRange) : (openSlot k f s).InRange :=
  (applySwap_inRange h).of_frame (hfeatures := rfl)

theorem beginSegment_inRange {k n : Nat} {seg : Segment} (h : s.InRange) :
    (beginSegment k n seg s).InRange := h.of_frame

theorem acceptSegment_inRange {k n : Nat} {seg : Segment} (h : s.InRange) :
    (acceptSegment k n seg s).InRange := by
  have hclosed : ∀ {p : Prop} [Decidable p] {u : State}, u.InRange →
      (if p then closeSlot k .allComplete u else u).InRange := fun hu => by
    split
    · exact closeSlot_inRange hu
    · exact hu
  have hplaced := fun r => h.of_frame (t := s.setSlot k r)
  unfold acceptSegment
  extract_lets slot before after s1 s2
  have h2 : s2.InRange := hclosed (hplaced _)
  split
  · exact h2
  · exact beginSegment_inRange h2

theorem placeHead_inRange {k n : Nat} {seg : Segment} (h : s.InRange) :
    (placeHead k n seg s).InRange := by
  unfold placeHead
  dsimp only
  split
  · exact h.of_frame
  · exact acceptSegment_inRange h.of_frame

theorem waitHead_inRange {n : Nat} (h : s.InRange) : (waitHead n s).InRange := by
  unfold waitHead
  dsimp only
  split
  · exact closeSlot_inRange h.of_frame
  · exact h.of_frame

theorem decideHead_inRange {n : Nat} {seg : Segment} (h : s.InRange) : (decideHead n seg s).InRange := by
  unfold decideHead
  split
  · exact h.of_frame
  split
  · exact h.of_frame
  split
  · exact placeHead_inRange h
  split
  · exact placeHead_inRange (openSlot_inRange h)
  · exact waitHead_inRange h

/-! #### The arbiter and the engine (EngineOps) -/

theorem offerHead_inRange {n : Nat} (h : s.InRange) : (offerHead n s).InRange := by
  unfold offerHead
  dsimp only
  split
  · exact h.of_frame
  · exact decideHead_inRange h.of_frame

theorem arbitrate_inRange {fuel : Nat} (h : s.InRange) : (arbitrate fuel s).InRange := by
  induction fuel generalizing s with
  | zero => exact h
  | succ more ih =>
    unfold arbitrate
    split
    · split
      · exact h.of_frame
      split
      · exact ih (offerHead_inRange h)
      · exact h
    · exact h

theorem addColumn_inRange {k j : Nat} {v : Int} {uncorrectable : Bool} (h : s.InRange) :
    (addColumn k j v uncorrectable s).InRange := by
  unfold addColumn
  split
  · exact h
  split
  · exact raise_inRange h.of_frame
  · exact h.of_frame

theorem workSlope_inRange {k : Nat} {slope ref : Int} {scale : Nat} {columns uncorrectable : List Nat} (h : s.InRange) :
    (workSlope k slope ref scale columns uncorrectable s).InRange := by
  unfold workSlope
  split
  · exact h.of_frame
  · refine List.foldlRecOn columns _ h.of_frame fun u hu j _ => addColumn_inRange ?_
    exact hu.of_frame

theorem fillColumn_inRange {w : FillWork} {j : Nat} {uncorrectable : Bool} (h : s.InRange) :
    (fillColumn w j uncorrectable s).InRange :=
  addColumn_inRange h.of_frame

/-! #### The command stage (StageOps) -/

theorem endStage_inRange {k : Nat} (h : s.InRange) : (endStage k s).InRange :=
  freeSlot_inRange ((applyHold_inRange h).withStage fun _ => .inr (applyHold_hold s))

theorem beginBuilding_inRange {k : Nat} (h : s.InRange) : (beginBuilding k s).InRange :=
  h.withStage nofun

theorem holdPath_inRange {k : Nat} (h : s.InRange) : (holdPath k s).InRange :=
  endStage_inRange ((offer_inRange h).withStage .inl)

theorem enterCommand_inRange {k : Nat} (h : s.InRange) : (enterCommand k s).InRange := by
  unfold enterCommand
  dsimp only
  have hs := h.of_frame (t := s.modifySlot k fun r => { r with state := .command })
  split
  · exact holdPath_inRange (testScheduled_inRange hs)
  · exact beginBuilding_inRange (testScheduled_inRange hs)

theorem enterCommands_inRange {fuel : Nat} (h : s.InRange) : (enterCommands fuel s).InRange := by
  induction fuel generalizing s with
  | zero => exact h
  | succ more ih =>
    unfold enterCommands
    split
    · split
      · exact ih (enterCommand_inRange h)
      · exact h
    · exact h

theorem settle_inRange (h : s.InRange) : (settle s).InRange :=
  arbitrate_inRange (enterCommands_inRange h)

theorem strokeDrop_inRange {w : StageFrame} {shape : Shape} (h : s.InRange) :
    (strokeDrop w shape s).InRange :=
  endStage_inRange (reportStroke_inRange ((offer_inRange h).withStage .inl))

theorem handOver_inRange {w : StageFrame} {shape : Shape} (h : s.InRange) :
    (handOver w shape s).InRange :=
  ((reportPassed_inRange h).withStage (g := { (reportPassed s).stage with phase := .sending w shape })
    nofun).withDrive rfl .inl

theorem commitFrame_inRange {uncorrectable : List Nat} (h : s.InRange) :
    (commitFrame uncorrectable s).InRange := by
  unfold commitFrame
  split
  · next w shape _ =>
    have htable := h.withTable (s.table.commit_sameFields 0 shape.states shape.outputs)
    exact endStage_inRange ((offer_inRange
      (scanCommit_inRange (reportCommitted_inRange htable))).withStage .inl)
  · exact h

theorem driveDrop_inRange {reason : DropReason} (h : s.InRange) : (driveDrop reason s).InRange := by
  unfold driveDrop
  split
  · refine endStage_inRange ?_
    split
    · exact reportDrive_inRange ((offer_inRange h).withStage .inl)
    · exact (offer_inRange h).withStage .inl
  · exact h

theorem abandonStage_inRange (h : s.InRange) : (abandonStage s).InRange := by
  unfold abandonStage
  split
  · exact h
  · have hcut := h.withStage (g := { s.stage with cut := s.stage.cut + 1 }) .inl
    exact (applyHold_inRange hcut).withStage fun _ => .inr (applyHold_hold _)

/-! #### Transactions and bias sends (DriveOps) -/

theorem sendLoad_inRange {tx : Transaction} {p : TxLink} (h : s.InRange) : (sendLoad tx p s).InRange :=
  h.modifyDriveLink _ fun _ hr => hr

theorem startLink_inRange {tx : Transaction} {idle : Nat → Bool} {p : TxLink} (h : s.InRange) :
    (startLink tx idle s p).InRange := by
  have ht := h.modifyDriveLink p.link (f := fun r => { r with outstanding := some tx.ref }) fun _ hr => hr
  unfold startLink
  dsimp only
  split
  · exact sendLoad_inRange ht
  · exact ht.modifyDriveLink _ fun _ hr => hr

/-- R141: the edits held during the send are applied as it ends. -/
theorem endBiasSend_inRange {tx : Transaction} (h : s.InRange) : (endBiasSend tx s).InRange := by
  have hloop := h.withLoop (l := { s.loop with safeConfirmed := biasConfirmed tx s }) h.loop
  exact settleLinks_inRange (hloop.releaseHold.withDrive rfl fun _ => .inr rfl)

theorem endTransaction_inRange {tx : Transaction} (h : s.InRange) : (endTransaction tx s).InRange := by
  have hcleared : (tx.links.foldl clearOutstanding s).InRange :=
    List.foldlRecOn tx.links clearOutstanding h fun _ hu _ _ => hu.modifyDriveLink _ fun _ hr => hr
  have hended := hcleared.withDrive
    (d := { (tx.links.foldl clearOutstanding s).drive with current := none }) rfl .inl
  unfold endTransaction
  dsimp only
  split
  · exact hended
  · exact endBiasSend_inRange hended

theorem checkEnd_inRange (h : s.InRange) : (checkEnd s).InRange := by
  unfold checkEnd
  split
  · exact h
  split
  · exact h
  · exact endTransaction_inRange h

theorem beginTransaction_inRange {request : TxRequest} {idle : Nat → Bool} (h : s.InRange) :
    (beginTransaction request idle s).InRange :=
  checkEnd_inRange (List.foldlRecOn _ _ (h.withDrive rfl .inl) fun _ hu _ _ => startLink_inRange hu)

theorem releaseLink_inRange {p : TxLink} (h : s.InRange) : (releaseLink s p).InRange := by
  unfold releaseLink
  split
  · exact h.modifyDriveLink _ fun _ hr => hr
  · exact h.modifyDriveLink _ fun _ hr => hr
  · exact h

theorem releaseTransaction_inRange {tx : Transaction} (h : s.InRange) :
    (releaseTransaction tx s).InRange :=
  List.foldlRecOn tx.links releaseLink (h.withDrive rfl .inl) fun _ hu _ _ => releaseLink_inRange hu

theorem dropTransaction_inRange {reason : DropReason} (h : s.InRange) :
    (dropTransaction reason s).InRange := by
  unfold dropTransaction
  split
  · exact h
  split
  · exact h
  dsimp only
  split
  · exact checkEnd_inRange (driveDrop_inRange (releaseTransaction_inRange h))
  · exact checkEnd_inRange (releaseTransaction_inRange h)

/-- R139 on a state whose SHAPE request has been withdrawn. -/
theorem abandonShape_inRange (h : s.InRange) : (abandonShape s).InRange := by
  have hcurrent : ∀ u : State, u.InRange → (match u.drive.current with
      | none => u
      | some tx =>
        if tx.kind = TxKind.shape ∧ tx.pulsed = false ∧ tx.dropped = false then
          checkEnd (releaseTransaction tx u)
        else u).InRange := fun u hu => by
    split
    · exact hu
    split
    · exact checkEnd_inRange (releaseTransaction_inRange hu)
    · exact hu
  unfold abandonShape
  refine hcurrent _ ?_
  split
  · split
    · exact h.withDrive rfl .inl
    · exact h
  · exact h

theorem pulseBias_inRange (h : s.InRange) : (pulseBias s).InRange := by
  unfold pulseBias
  split
  · exact h
  · exact h.withTable (s.table.biasOutputs_sameFields 0 _)

theorem updatePulse_inRange {tx : Transaction} {uncorrectable : List Nat} (h : s.InRange) :
    (updatePulse tx uncorrectable s).InRange := by
  have happly : ∀ u : State, u.InRange → (tx.links.foldl applyLink u).InRange := fun u hu =>
    List.foldlRecOn tx.links applyLink hu fun _ hw _ _ => hw.modifyDriveLink _ fun _ hr => hr
  have hpulsed := happly _ (h.withDrive (d := { s.drive with
    updateLine := .pulsing, pulses := s.drive.pulses + 1, current := some { tx with pulsed := true } }) rfl .inl)
  unfold updatePulse
  dsimp only
  split
  · exact (commitFrame_inRange hpulsed).withDrive rfl .inl
  · exact (pulseBias_inRange hpulsed).withDrive rfl .inl

theorem pulseIfLoaded_inRange {uncorrectable : List Nat} (h : s.InRange) :
    (pulseIfLoaded uncorrectable s).InRange := by
  unfold pulseIfLoaded
  split
  · exact h
  split
  · exact updatePulse_inRange h
  · exact h

theorem beginBiasSend_inRange (h : s.InRange) : (beginBiasSend s).InRange :=
  ((h.withTable (s.table.biasStates_sameFields 0 _)).withLoop
    (l := { s.loop with safeConfirmed := false }) h.loop).withDrive rfl nofun

theorem strayReply_inRange {l : Nat} (h : s.InRange) : (strayReply l s).InRange :=
  h.modifyDriveLink l fun _ hr => hr

/-! #### Entry to STOPPED and SAFE (LoopEntry) -/

theorem emptySlots_inRange (h : s.InRange) : (emptyQueues (freeSlots s)).InRange := h.of_frame

theorem enterRest_inRange {entered : LoopState} {cause : LoopCause} {f : Option Frame}
    {scanCause : EndCause} (h : s.InRange) : (enterRest entered cause f scanCause s).InRange := by
  unfold enterRest
  extract_lets s1 _ s2 s3
  have h1 : s1.InRange := clearRuns_inRange (changeLoop_inRange h)
  have h2 : s2.InRange := scanAbort_inRange (h1.withLoop h1.loop)
  have h3 : s3.InRange := abandonStage_inRange (cancelSwap_inRange h2)
  exact abandonShape_inRange (emptySlots_inRange h3)

theorem countSafeEntry_inRange (h : s.InRange) :
    ({ s with loop := { s.loop with safeEntries := s.loop.safeEntries + 1 } } : State).InRange :=
  h.withLoop h.loop

theorem enterSafe_inRange {cause : LoopCause} {f : Option Frame} (h : s.InRange) :
    (enterSafe cause f s).InRange := by
  unfold enterSafe
  split
  · exact h
  extract_lets s1 _ s2
  have h1 : s1.InRange := raise_inRange (enterRest_inRange h)
  have h2 : s2.InRange := countSafeEntry_inRange h1
  split
  · exact h2
  · exact beginBiasSend_inRange h2

theorem dropAndSafe_inRange {order : SafeOrder} {reason : DropReason} {cause : LoopCause}
    {f : Option Frame} {between : State → State} (h : s.InRange)
    (hb : ∀ u : State, u.InRange → (between u).InRange) :
    (dropAndSafe order reason cause f between s).InRange := by
  cases order with
  | dropFirst =>
    exact enterSafe_inRange (hb _ (settle_inRange (dropTransaction_inRange h)))
  | safeFirst => exact dropTransaction_inRange (enterSafe_inRange (hb _ h))

end

/-! ### The events of the links, the engine and the stage keep the ranges -/

section
variable {s : State}

theorem onReceiver_inRange {n : Nat} {f : State → State} (h : s.InRange) (hf : (f s).InRange) :
    (onReceiver n f s).InRange := by
  unfold onReceiver
  split
  · exact hf
  · exact h

theorem onDriveLink_inRange {l : Nat} {f : State → State} (h : s.InRange) (hf : (f s).InRange) :
    (onDriveLink l f s).InRange := by
  unfold onDriveLink
  split
  · exact hf
  · exact h

theorem lineDown_inRange {n : Nat} (h : s.InRange) : (lineDown n s).InRange := by
  unfold lineDown
  split
  · exact raise_inRange h.of_frame
  · exact h

theorem arrive_inRange {n : Nat} {bytes : List Byte} (h : s.InRange) : (arrive n bytes s).InRange := by
  unfold arrive
  split
  · have hbegun := h.of_frame (t := s.modifyReceiver n fun r => { r with reception := none })
    dsimp only
    split
    · exact hbegun.of_frame
    · exact hbegun.of_frame
    · exact hbegun.of_frame
    · exact settle_inRange hbegun.of_frame
  · exact h

theorem workNextSlope_inRange {w : SegmentWork} {slope : Int} {rest : List Int} {uncorrectable : List Nat}
    (h : s.InRange) : (workNextSlope w slope rest uncorrectable s).InRange := by
  unfold workNextSlope
  extract_lets number s1 s2
  have h1 : s1.InRange := workSlope_inRange h
  have h2 : (segmentStep w rest s1).InRange := h1.of_frame
  split
  · exact settle_inRange h2
  · exact h2

theorem checkShape_inRange {w : StageFrame} (h : s.InRange) : (checkShape w s).InRange := by
  unfold checkShape
  dsimp only
  split
  · exact handOver_inRange h
  · exact settle_inRange (strokeDrop_inRange h)

theorem verifyColumn_inRange {b owner : Nat} {uncorrectable : Bool} (h : s.InRange) :
    (verifyColumn b owner uncorrectable s).InRange := by
  unfold verifyColumn
  dsimp only
  split
  · exact h
  split
  · exact raise_inRange h.of_frame
  split
  · exact raise_inRange h.of_frame
  · exact h.of_frame

/-! #### Drive links -/

theorem recoverLink_inRange {l : Nat} (h : s.InRange) : (recoverLink l s).InRange := by
  unfold recoverLink
  split
  · exact sendLoad_inRange (h.modifyDriveLink l fun _ hr => hr)
  · exact h

theorem stickLink_inRange {l : Nat} {order : SafeOrder} {between : State → State} (h : s.InRange)
    (hb : ∀ u : State, u.InRange → (between u).InRange) : (stickLink l order between s).InRange := by
  unfold stickLink
  split
  · exact dropAndSafe_inRange (h.modifyDriveLink l fun _ hr => hr) hb
  · exact h

theorem takeTaken_inRange {l : Nat} {number : Byte} {uncorrectable : List Nat} (h : s.InRange) :
    (takeTaken l number uncorrectable s).InRange := by
  unfold takeTaken
  extract_lets r late s1
  have h1 : s1.InRange := h.modifyDriveLink l fun _ hr => hr
  split
  · refine settle_inRange ?_
    split
    · exact checkEnd_inRange h1
    · exact pulseIfLoaded_inRange h1
  · exact strayReply_inRange h

/-- R133: a REFUSED reply keeps the link's configuration. -/
theorem refuse_inRange {v : Variant} {r : DriveLink} (h : r.inRange v) (rest : DriveState)
    (reason : RefuseReason) : (r.refuse rest reason).inRange v := by
  cases reason <;> exact h

theorem refusedOutcome_inRange {reason : RefuseReason} {order : SafeOrder} {f : Option Frame}
    {between : State → State} (h : s.InRange) (hb : ∀ u : State, u.InRange → (between u).InRange) :
    (refusedOutcome reason order f between s).InRange := by
  unfold refusedOutcome
  split
  · exact settle_inRange (dropTransaction_inRange h)
  · exact settle_inRange (dropTransaction_inRange h)
  · exact dropAndSafe_inRange h hb

theorem lateRefused_inRange {reason : RefuseReason} {f : Option Frame} {between : State → State}
    (h : s.InRange) (hb : ∀ u : State, u.InRange → (between u).InRange) :
    (lateRefused reason f between s).InRange := by
  unfold lateRefused
  dsimp only
  split
  · exact enterSafe_inRange (hb _ (checkEnd_inRange h))
  · exact checkEnd_inRange h

theorem takeRefused_inRange {l : Nat} {number : Byte} {reason : RefuseReason} {order : SafeOrder}
    {between : State → State} (h : s.InRange) (hb : ∀ u : State, u.InRange → (between u).InRange) :
    (takeRefused l number reason order between s).InRange := by
  have hrefused := h.setDriveLink l (refuse_inRange (h.links l) (s.restState l) reason)
  unfold takeRefused
  dsimp only
  split
  · split
    · exact lateRefused_inRange hrefused hb
    · exact refusedOutcome_inRange hrefused hb
  · exact strayReply_inRange h

theorem expireReply_inRange {l : Nat} (h : s.InRange) : (expireReply l s).InRange := by
  unfold expireReply
  dsimp only
  split
  · have hexpired := fun state timer status count => h.setDriveLink l (r := { s.driveLink l with
      state := state, timer := timer, status := status, replyTimeouts := count }) (h.links l)
    split
    · exact checkEnd_inRange (hexpired _ _ _ _)
    · exact settle_inRange (dropTransaction_inRange (hexpired _ _ _ _))
  · exact h

theorem noteApplied_inRange {l : Nat} (h : s.InRange) : (noteApplied l s).InRange := by
  unfold noteApplied
  split
  · exact h
  · exact h.withDrive rfl .inl

theorem takeApplied_inRange {l : Nat} {number : Byte} (h : s.InRange) :
    (takeApplied l number s).InRange := by
  unfold takeApplied
  split
  · exact checkEnd_inRange (noteApplied_inRange (h.modifyDriveLink l fun _ hr => hr))
  · exact strayReply_inRange h

theorem reportApplyTimeout_inRange (h : s.InRange) : (reportApplyTimeout s).InRange := by
  unfold reportApplyTimeout
  split
  · exact h
  split
  · exact reportDrive_inRange (h.withDrive rfl .inl)
  · exact h

theorem expireApply_inRange {l : Nat} (h : s.InRange) : (expireApply l s).InRange := by
  unfold expireApply
  split
  · exact checkEnd_inRange (reportApplyTimeout_inRange (raise_inRange
      (h.modifyDriveLink l fun _ hr => hr)))
  · exact h

theorem leaveTransaction_inRange {l : Nat} (h : s.InRange) : (leaveTransaction l s).InRange :=
  h.modifyDriveLink l fun _ hr => hr

theorem withdrawApplied_inRange {l : Nat} {tx : Transaction} (h : s.InRange) :
    (withdrawApplied l tx s).InRange := h.withDrive rfl .inl

theorem takeFault_inRange {l : Nat} {order : SafeOrder} {between : State → State} (h : s.InRange)
    (hb : ∀ u : State, u.InRange → (between u).InRange) : (takeFault l order between s).InRange := by
  have hfault : (faultLink l s).InRange := raise_inRange (h.modifyDriveLink l fun _ hr => hr)
  have hleft : (leaveTransaction l (faultLink l s)).InRange := leaveTransaction_inRange hfault
  unfold takeFault afterFault
  dsimp only
  split
  · exact enterSafe_inRange (hb _ hfault)
  split
  · exact enterSafe_inRange (hb _ (checkEnd_inRange (withdrawApplied_inRange hfault)))
  split
  · exact enterSafe_inRange (hb _ (checkEnd_inRange hleft))
  split
  · exact enterSafe_inRange (hb _ hleft)
  · exact dropAndSafe_inRange hleft hb

end

/-! ### The resets keep the ranges (R200, R201) -/

section
variable {s : State}

theorem ActTable.reset_inRange (v : Variant) : ActTable.reset.inRange v := by
  refine ⟨Nat.zero_le _, fun a ha => ?_, Nat.zero_le _, nofun⟩
  cases v
  · exact ⟨Nat.zero_lt_two, ha, by simp [actuator, reset, Table.get, Actuator.fields, Actuator.reset]⟩
  · exact ⟨Nat.zero_lt_one, ha, by simp [actuator, reset, Table.get, Actuator.fields, Actuator.reset]⟩

theorem DriveLink.reset_inRange (v : Variant) (l : Nat) : (DriveLink.reset v l).inRange v := by
  cases v <;> simp [inRange, reset, Config.channels]

theorem Loop.reset_inRange : Loop.reset.inRange := by unfold inRange; decide

theorem Features.reset_inRange : Features.reset.inRange := by unfold inRange; decide

/-- R33: the tag of a sensor is its number. -/
theorem Sensor.reset_inRange {n : Nat} (hn : n ≤ 15) : (Sensor.reset n).inRange :=
  ⟨Nat.zero_le _, hn, by simp [reset], fun _ => by simp [reset, Table.get, zeroes]⟩

theorem slopeLink_le {v : Variant} {n : Nat} (hn : n < Config.slopeLinks v) : n ≤ 15 := by
  cases v <;> simp only [Config.slopeLinks] at hn <;> omega

theorem hardReset_inRange (h : s.InRange) : (hardReset s).InRange where
  loop := Loop.reset_inRange
  features := Features.reset_inRange
  links := DriveLink.reset_inRange s.variant
  sensors _ hn := Sensor.reset_inRange (slopeLink_le (v := s.variant) (of_decide_eq_true hn))
  slopeMap := ⟨Nat.zero_le _, nofun⟩
  gains _ := ⟨Nat.zero_le _, Nat.zero_le _⟩
  table := .of_nothingHeld (ActTable.reset_inRange s.variant) rfl
  pending := h.pending

theorem releaseReset_inRange {straps : Nat} (h : s.InRange) : (releaseReset straps s).InRange := by
  unfold releaseReset
  split
  · exact (h.of_frame (t := { s with resetLow := false })).withPort Features.reset_inRange
  · exact h

/-- R33, R109: the held edits join the table, or the tables are as at the hard reset. -/
theorem softTables_inRange {keep : Bool} (h : s.InRange) : (softTables keep s).InRange := by
  unfold softTables
  split
  · exact h.releaseHold
  · exact
      { loop := h.loop
        features := h.features
        links := h.links
        sensors := fun n hn =>
          Sensor.reset_inRange (slopeLink_le (v := s.variant) (of_decide_eq_true hn))
        slopeMap := ⟨Nat.zero_le _, nofun⟩
        gains := fun _ => ⟨Nat.zero_le _, Nat.zero_le _⟩
        table := .of_nothingHeld (ActTable.reset_inRange s.variant) rfl
        pending := h.pending }

theorem softTables_hold (keep : Bool) (s : State) : (softTables keep s).hold = [] := by
  unfold softTables
  split <;> rfl

theorem softLoop_inRange {keep : Bool} {l : Loop} (h : l.inRange) : (softLoop keep l).inRange := by
  unfold softLoop
  split
  · exact h
  · exact Loop.reset_inRange

theorem softDriveLink_inRange {v : Variant} {keep : Bool} {l : Nat} {enabled : Bool} {r : DriveLink}
    (h : r.inRange v) : (softDriveLink v keep l enabled r).inRange v := by
  cases keep with
  | true => exact h
  | false => exact DriveLink.reset_inRange v l

theorem softDrive_inRange {keep : Bool} (h : s.InRange) (hhold : s.hold = []) :
    (softDrive keep s).InRange :=
  List.foldlRecOn _ (softenDriveLink keep) (h.withDrive rfl fun _ => .inr hhold)
    fun _ hu l _ => hu.modifyDriveLink l fun _ hr => softDriveLink_inRange hr

theorem softBanks_inRange {keep : Bool} (h : s.InRange) : (softBanks keep s).InRange := h.of_frame

theorem softReceivers_inRange (h : s.InRange) : (s.forReceivers Receiver.soften).InRange := h.of_frame

/-- R51, R67, R128, R166, R173, R184: with nothing held the blocks of the frame path begin anew. -/
theorem softBlocks_inRange {keep : Bool} (h : s.InRange) (hhold : s.hold = []) :
    ({ s with slots := [], lastClosed := none, engine := Engine.reset, stage := Stage.reset,
              loop := softLoop keep s.loop, scan := Scan.reset, telem := softTelem keep s.telem } :
      State).InRange := by
  have hloop := h.withLoop (softLoop_inRange (keep := keep) h.loop)
  exact (hloop.withStage (g := Stage.reset) fun _ => .inr hhold).of_frame

theorem softReset_inRange (h : s.InRange) : (softReset s).InRange := by
  unfold softReset
  extract_lets keep cancelled s1 s2 s3 s4
  have h1 : s1.InRange := softBanks_inRange (softTables_inRange (h.withPort h.features))
  have hhold : s2.hold = [] := by simp [s2, s1, softTables_hold]
  have h4 : s4.InRange := softDrive_inRange (softBlocks_inRange (softReceivers_inRange h1) hhold) hhold
  split
  · exact raise_inRange h4
  · exact h4

end

/-! ### The requests keep the ranges -/

/-- The state that the owning block leaves. -/
def Verdict.after : Verdict → State
  | .ok _ _ s => s
  | .accepted s => s
  | .refused _ _ _ _ _ s => s

section
variable {s : State}

@[simp] theorem Verdict.done_after (t : State) : (Verdict.done t).after = t := rfl
@[simp] theorem Verdict.report_after (payload : List Byte) (t : State) :
    (Verdict.report payload t).after = t := rfl
@[simp] theorem Verdict.ok_after (payload : List Byte) (clamped : Bool) (t : State) :
    (Verdict.ok payload clamped t).after = t := rfl
@[simp] theorem refuse_after (status : Status) (position : Nat) (t : State) :
    (refuse status position t).after = t := rfl
@[simp] theorem refuseValue_after (status : Status) (position : Nat) (value : Int) (t : State) :
    (refuseValue status position value t).after = t := rfl
@[simp] theorem refuseOwner_after (status : Status) (position : Nat) (owner : Option Nat) (t : State) :
    (refuseOwner status position owner t).after = t := rfl

theorem done_inRange (h : s.InRange) : (Verdict.done s).after.InRange := h

theorem accepted_inRange (h : s.InRange) : (Verdict.accepted s).after.InRange := h

theorem ok_inRange {payload : List Byte} {clamped : Bool} (h : s.InRange) :
    (Verdict.ok payload clamped s).after.InRange := h

/-! #### Taking and answering (PortOps) -/

theorem takeFrame_inRange {env : Envelope} (h : s.InRange) : (takeFrame env s).InRange := h.of_frame

theorem replyWith_inRange {env : Envelope} {status : Status} {clamped : Bool} {payload : List Byte}
    (h : s.InRange) : (replyWith env status clamped payload s).InRange := by
  unfold replyWith
  split
  · exact h
  · exact h.withPort h.features

theorem reportRefusal_inRange {env : Envelope} {code : Nat} {status : Status} (h : s.InRange) :
    (reportRefusal env code status s).InRange := by
  unfold reportRefusal
  split
  · dsimp only
    split
    · exact raise_inRange (raise_inRange h)
    · exact raise_inRange h
  · exact h

theorem enterFault_inRange {env : Envelope} {code : Nat} {status : Status} {position : Nat} {detail : Detail}
    {value : Option Int} {owner : Option Nat} (h : s.InRange) :
    (enterFault env code status position detail value owner s).InRange :=
  h.withPort h.features

theorem conclude_inRange {env : Envelope} {code : Nat} {v : Verdict} (h : v.after.InRange) :
    (conclude env code v).InRange := by
  cases v with
  | ok payload clamped t => exact replyWith_inRange h
  | accepted t => exact replyWith_inRange h
  | refused status position detail value owner t =>
    exact replyWith_inRange (reportRefusal_inRange (enterFault_inRange h))

theorem takeRequest_inRange {env : Envelope} {code : Nat} {body : State → Verdict} (h : s.InRange)
    (hbody : ∀ u : State, u.InRange → (body u).after.InRange) :
    (takeRequest env code body s).InRange := by
  unfold takeRequest
  split
  · exact h.withPort h.features
  split
  · exact h
  · refine conclude_inRange ?_
    unfold verdictOf
    split
    · exact takeFrame_inRange h
    · exact hbody _ (takeFrame_inRange h)

/-- A payload that does not match its fields changes nothing (R205). -/
theorem whenFits_inRange {env : Envelope} {body : Verdict} (h : s.InRange)
    (hbody : env.payloadFits = true → body.after.InRange) : (whenFits env s body).after.InRange := by
  unfold whenFits
  split
  · next hfit => exact hbody hfit
  · exact h

/-! #### Sensors and the slope map (R18 to R29) -/

theorem sensorRoleBody_inRange {env : Envelope} {n role : Nat} (h : s.InRange) :
    (sensorRoleBody env n role s).after.InRange := by
  refine whenFits_inRange h fun _ => ?_
  iterate 3
    split
    · exact h
  · next hlink _ _ _ _ => exact h.setSensor n (h.sensors n (by simpa using hlink))

theorem sensorTagBody_inRange {env : Envelope} {n tag : Nat} (h : s.InRange) :
    (sensorTagBody env n tag s).after.InRange := by
  refine whenFits_inRange h fun _ => ?_
  split
  · exact h
  split
  · exact h
  · next hlink htag =>
    obtain ⟨hcount, -, hscale, hrefs⟩ := h.sensors n (by simpa using hlink)
    exact h.setSensor n ⟨hcount, Nat.le_of_not_lt htag, hscale, hrefs⟩

theorem markChanged_inRange {n : Nat} (h : s.InRange) : (markChanged n s).InRange := h.of_frame

theorem sensorScaleBody_inRange {env : Envelope} {n scale : Nat} (h : s.InRange) (hscale : scale ≤ 65535) :
    (sensorScaleBody env n scale s).after.InRange := by
  refine whenFits_inRange h fun _ => ?_
  split
  · exact h
  · next hlink =>
    obtain ⟨hcount, htag, -, hrefs⟩ := h.sensors n (by simpa using hlink)
    exact markChanged_inRange (h.setSensor n ⟨hcount, htag, hscale, hrefs⟩)

theorem sensorCountBody_inRange {env : Envelope} {n count : Nat} (h : s.InRange) :
    (sensorCountBody env n count s).after.InRange := by
  refine whenFits_inRange h fun _ => ?_
  iterate 5
    split
    · exact h
  · next hlink hcount _ _ _ _ =>
    obtain ⟨-, htag, hscale, hrefs⟩ := h.sensors n (by simpa using hlink)
    exact h.setSensor n ⟨Nat.le_of_not_lt hcount, htag, hscale, hrefs⟩

/-- R23: an offset on the wire that is not the invalid marker lies in the range of an offset. -/
theorem refWriteBody_inRange {env : Envelope} {n first count : Nat} {offsets : List Int} (h : s.InRange)
    (hoffsets : ∀ i ∈ offsets, -32768 ≤ i ∧ i ≤ 32767) :
    (refWriteBody env n first count offsets s).after.InRange := by
  unfold refWriteBody
  iterate 5
    split
    · exact h
  · next hlink _ _ _ _ hmarker =>
    obtain ⟨hcount, htag, hscale, hrefs⟩ := h.sensors n (by simpa using hlink)
    refine markChanged_inRange (h.setSensor n ⟨hcount, htag, hscale, fun i => ?_⟩)
    rw [Table.get_setList]
    split
    · cases hv : offsets[i - first]? with
      | none => exact hrefs i
      | some v =>
        have hmem : v ∈ offsets := List.mem_of_getElem? hv
        have hne : v ≠ -32768 := of_decide_eq_false (List.findIdx?_eq_none_iff.mp hmarker v hmem)
        have hwire := hoffsets v hmem
        show -32767 ≤ v ∧ v ≤ 32767
        omega
    · exact hrefs i

/-- R29 check 4: an entry that passes lies in the ranges of R28. -/
theorem entryInRange_of_passes {earlier : List MapEntry} {e : MapEntry} (h : entryFault s earlier e = none) :
    s.entryInRange e := by
  unfold entryFault at h
  split at h
  · cases h
  split at h
  · cases h
  split at h
  · cases h
  split at h
  · cases h
  · next hlink hrange _ hcolumn =>
    exact ⟨by simpa using hlink, by omega, by omega, by omega, Nat.le_of_not_lt hcolumn⟩

theorem entriesInRange_of_pass {earlier entries : List MapEntry} (h : mapFault s earlier entries = none) :
    ∀ e ∈ entries, s.entryInRange e := by
  induction entries generalizing earlier with
  | nil => nofun
  | cons e rest ih =>
    unfold mapFault at h
    split at h
    · cases h
    · next hpass => exact List.forall_mem_cons.mpr ⟨entryInRange_of_passes hpass, ih h⟩

theorem mapWriteBody_inRange {env : Envelope} {entries : List MapEntry} (h : s.InRange) :
    (mapWriteBody env entries s).after.InRange := by
  refine whenFits_inRange h fun _ => ?_
  iterate 4
    split
    · exact h
  · next hlength _ _ _ hpass =>
    exact h.withSlopeMap (Nat.le_of_not_lt hlength) (entriesInRange_of_pass hpass)

/-! #### The actuator table (R95 to R106) -/

/-- R99: an edit in range that leaves the effective pair list within its length is applied, or held. -/
theorem takeEdit_inRange {e : Edit} (h : s.InRange) (he : e.inRange s.variant)
    (hlength : (s.effective.apply e).pairs.length ≤ Config.pairEntries) :
    (takeEdit e s).after.InRange := by
  obtain ⟨hrange, hedits, -, hheld⟩ := h.table
  unfold takeEdit
  split
  · next hflight =>
    split
    · exact h
    · refine { h with table := ⟨hrange, fun f hf => ?_, ?_, fun hf => ?_⟩ }
      · rcases List.mem_append.mp hf with hf | hf
        · exact hedits f hf
        · exact List.mem_singleton.mp hf ▸ he
      · simpa [State.effective, Verdict.after, Verdict.done] using hlength
      · exact absurd hflight (ne_true_of_eq_false hf)
  · next hflight =>
    have hhold : s.hold = [] := hheld (eq_false_of_ne_true hflight)
    rw [effective_nil s hhold] at hlength
    have hentries := (ActTable.inRange_iff.mp hrange).1.apply he
    exact settleLinks_inRange { h with
      table := .of_nothingHeld (ActTable.inRange_iff.mpr ⟨hentries, hlength⟩) hhold }

/-- R101: the new N is at most the actuator maximum. -/
theorem actCountBody_inRange {env : Envelope} {n : Nat} (h : s.InRange) :
    (actCountBody env n s).after.InRange := by
  refine whenFits_inRange h fun _ => ?_
  iterate 5
    split
    · exact h
  · next hmax _ _ _ _ _ => exact settleLinks_inRange (h.withCount (Nat.le_of_not_lt hmax))

/-- R102 check 3: a record that passes lies in the ranges of R95. -/
theorem fieldsInRange_of_passes {t : ActTable} {a : Nat} {f : ActFields} (h : recordFault s t a f = none)
    (hhi : f.hi ≤ 65535) : fieldsInRange s.variant f := by
  unfold recordFault at h
  split at h
  · cases h
  split at h
  · cases h
  split at h
  · cases h
  split at h
  · cases h
  · next hlink hchannel hgain hlimits =>
    have hlink : f.link < Config.driveLinks s.variant := by simpa [State.hasDriveLink] using hlink
    exact ⟨hlink, Nat.lt_of_not_le hchannel, by omega, by omega, hhi, Nat.le_of_not_lt hgain⟩

theorem fieldsInRange_of_pass {t : ActTable} {first position : Nat} {records : List ActFields}
    (h : recordsFault s t first position records = none) (hhi : ∀ f ∈ records, f.hi ≤ 65535) :
    ∀ f ∈ records, fieldsInRange s.variant f := by
  induction records generalizing position with
  | nil => nofun
  | cons f rest ih =>
    obtain ⟨hf, hrest⟩ := List.forall_mem_cons.mp hhi
    unfold recordsFault at h
    split at h
    · cases h
    · next hpass => exact List.forall_mem_cons.mpr ⟨fieldsInRange_of_passes hpass hf, ih h hrest⟩

theorem actWriteBody_inRange {env : Envelope} {first : Nat} {records : List ActFields} (h : s.InRange)
    (hhi : ∀ f ∈ records, f.hi ≤ 65535) : (actWriteBody env first records s).after.InRange := by
  refine whenFits_inRange h fun _ => ?_
  iterate 4
    split
    · exact h
  · next _ _ _ hpass _ _ =>
    refine takeEdit_inRange h (fieldsInRange_of_pass hpass hhi) ?_
    simpa [ActTable.apply] using h.table.2.2.1

theorem actModeBody_inRange {env : Envelope} {a mode : Nat} {value : Option Nat} (h : s.InRange) :
    (actModeBody env a mode value s).after.InRange := by
  have hedit : ∀ m v, (takeEdit (.mode a m v) s).after.InRange := fun m v =>
    takeEdit_inRange h trivial h.table.2.2.1
  refine whenFits_inRange h fun _ => ?_
  split
  · exact h
  split
  · exact h
  · exact h
  · dsimp only
    split
    · exact h
    · exact hedit _ _
  · exact h
  · exact hedit _ _

theorem gainWriteBody_inRange {env : Envelope} {k gain leak : Nat} (h : s.InRange)
    (hgain : gain ≤ 65535) (hleak : leak ≤ 65535) : (gainWriteBody env k gain leak s).after.InRange := by
  refine whenFits_inRange h fun _ => ?_
  split
  · exact h
  · exact h.withGain k hgain hleak

theorem pairWriteBody_inRange {env : Envelope} {a b dmax : Nat} (h : s.InRange) (hdmax : dmax ≤ 65535) :
    (pairWriteBody env a b dmax s).after.InRange := by
  refine whenFits_inRange h fun _ => ?_
  dsimp only
  iterate 8
    split
    · exact h
  · next ha hb hab _ _ _ _ _ hfull =>
    refine takeEdit_inRange h ⟨Nat.lt_of_not_le ha, Nat.lt_of_not_le hb, hab, hdmax⟩ ?_
    simpa [ActTable.apply] using Nat.lt_of_not_le hfull

theorem pairRemoveBody_inRange {env : Envelope} {a b : Nat} (h : s.InRange) :
    (pairRemoveBody env a b s).after.InRange := by
  refine whenFits_inRange h fun _ => ?_
  iterate 3
    split
    · exact h
  · exact takeEdit_inRange h trivial ((List.length_filter_le _ _).trans h.table.2.2.1)

/-! #### Banks, drive links, the loop, the scan and the port -/

/-- R69: what the owner in LOADING may make. -/
theorem whenLoading_inRange {env : Envelope} {act : Nat → Nat → Verdict} (h : s.InRange)
    (hact : ∀ b owner, (act b owner).after.InRange) : (whenLoading env s act).after.InRange := by
  unfold whenLoading
  split
  · exact h
  · split
    · exact hact _ _
    · exact h
  · split
    · exact h
    · exact h

theorem openLoad_inRange {b rows columns shift block owner : Nat} (h : s.InRange) :
    (openLoad b rows columns shift block owner s).InRange := h.of_frame

theorem loadOpenTest_inRange {b rows columns shift block owner : Nat} (h : s.InRange) :
    (loadOpenTest b rows columns shift block owner s).after.InRange := by
  unfold loadOpenTest
  split
  · split
    · exact done_inRange (openLoad_inRange h)
    · exact h
  · split
    · exact done_inRange (openLoad_inRange h)
    split
    · exact done_inRange (openLoad_inRange h.of_frame)
    · exact h
  · exact h

theorem loadOpenBody_inRange {env : Envelope} {bank rows columns shift block : Nat} (h : s.InRange) :
    (loadOpenBody env bank rows columns shift block s).after.InRange := by
  refine whenFits_inRange h fun _ => ?_
  iterate 8
    split
    · exact h
  · exact loadOpenTest_inRange h

theorem loadSegmentBody_inRange {env : Envelope} {column firstRow : Nat} {coefficients : List Int}
    (h : s.InRange) : (loadSegmentBody env column firstRow coefficients s).after.InRange := by
  refine whenFits_inRange h fun _ => ?_
  split
  · exact h
  split
  · exact h
  refine whenLoading_inRange h fun b _ => ?_
  iterate 3
    split
    · exact h
  · exact h.of_frame (t := placeCoefficients b column firstRow coefficients (touchLoader s))

theorem flushed_inRange {b : Nat} (h : s.InRange) : (touchLoader (flushBoth b s)).InRange := h.of_frame

theorem loadFlushBody_inRange {env : Envelope} (h : s.InRange) : (loadFlushBody env s).after.InRange :=
  whenFits_inRange h fun _ => whenLoading_inRange h fun _ _ => flushed_inRange h

theorem loadCloseBody_inRange {env : Envelope} {expected : BitVec 32} (h : s.InRange) :
    (loadCloseBody env expected s).after.InRange := by
  refine whenFits_inRange h fun _ => whenLoading_inRange h fun b owner => ?_
  have hflushed := flushed_inRange (b := b) h
  dsimp only
  split
  · exact hflushed
  · exact hflushed.of_frame (t := beginVerify b owner expected (touchLoader (flushBoth b s)))

theorem blockReopenBody_inRange {env : Envelope} {bank block : Nat} (h : s.InRange) :
    (blockReopenBody env bank block s).after.InRange := by
  refine whenFits_inRange h fun _ => ?_
  split
  · exact h
  dsimp only
  split
  · split
    · exact h
    split
    · exact h
    split
    · exact h
    · exact h.of_frame (t := reopenLoaded bank block env.master s)
  · split
    · exact h
    split
    · exact h
    split
    · exact h
    · exact h.of_frame (t := markReopened (uncommitBlock bank block s))
  · exact h

theorem swapBody_inRange {env : Envelope} {bank : Nat} {atFrame : Option Frame} (h : s.InRange) :
    (swapBody env bank atFrame s).after.InRange := by
  have hactive : ∀ u : State, u.InRange → (activate bank u).InRange := fun _ hu => hu.of_frame
  refine whenFits_inRange h fun _ => ?_
  iterate 6
    split
    · exact h
  split
  · refine offer_inRange (raise_inRange (hactive _ ?_))
    split
    · exact h
    · exact h.of_frame
  split
  · exact h
  · exact h.of_frame (t := swapLater bank atFrame s)

theorem clamp_range {lo hi : Nat} (h : lo ≤ hi) (v : Nat) : lo ≤ clamp lo hi v ∧ clamp lo hi v ≤ hi := by
  rw [clamp_eq_max_min h]
  omega

theorem linkConfigBody_inRange {env : Envelope} {l m park reply apply window : Nat} (h : s.InRange)
    (hpark : park ≤ 65535) : (linkConfigBody env l m park reply apply window s).after.InRange := by
  refine whenFits_inRange h fun _ => ?_
  iterate 5
    split
    · exact h
  · next hzero hmax _ _ _ =>
    refine ok_inRange (h.modifyDriveLink l fun _ _ => ?_)
    exact ⟨⟨Nat.pos_of_ne_zero hzero, Nat.le_of_not_lt hmax⟩,
      clamp_range (by decide) reply, clamp_range (by decide) apply, clamp_range (by decide) window, hpark⟩

theorem linkResetBody_inRange {env : Envelope} {l : Nat} (h : s.InRange) :
    (linkResetBody env l s).after.InRange := by
  refine whenFits_inRange h fun _ => ?_
  split
  · exact h
  split
  · exact h
  · exact done_inRange (h.modifyDriveLink l fun _ hr => hr)

theorem linkCountersClearBody_inRange {env : Envelope} {kind n : Nat} (h : s.InRange) :
    (linkCountersClearBody env kind n s).after.InRange := by
  refine whenFits_inRange h fun _ => ?_
  split
  · exact h
  · split
    · exact h.of_frame (t := s.modifyReceiver n Receiver.clearCounters)
    · exact h
  · split
    · exact done_inRange (h.modifyDriveLink n fun _ hr => hr)
    · exact h

theorem openNow_inRange (h : s.InRange) : (openNow s).after.InRange := by
  unfold openNow
  split
  · unfold openFromStopped
    iterate 6
      split
      · exact h
    · exact done_inRange (enterTracking_inRange h)
  · exact h
  · exact done_inRange (enterTracking_inRange h)
  · unfold leaveHold
    split
    · exact h
    · exact done_inRange (enterTracking_inRange h)
  · exact h

theorem closeNow_inRange (h : s.InRange) : (closeNow s).after.InRange := by
  unfold closeNow
  split
  · exact h
  · exact done_inRange (enterTracking_inRange h)
  · exact h
  · unfold leaveHold
    split
    · exact h
    · exact done_inRange (enterTracking_inRange h)
  · exact h

theorem schedule_inRange {env : Envelope} {target : Target} {f : Frame} (h : s.InRange) :
    (schedule env target f s).after.InRange := by
  unfold schedule
  split
  · exact h
  split
  · exact h
  split
  · split
    · exact h.withLoop h.loop
    · exact h
  · exact h.withLoop h.loop

theorem loopOpenBody_inRange {env : Envelope} {atFrame : Option Frame} (h : s.InRange) :
    (loopOpenBody env atFrame s).after.InRange := by
  refine whenFits_inRange h fun _ => ?_
  split
  · exact openNow_inRange h
  · exact schedule_inRange h

theorem loopCloseBody_inRange {env : Envelope} {atFrame : Option Frame} (h : s.InRange) :
    (loopCloseBody env atFrame s).after.InRange := by
  refine whenFits_inRange h fun _ => ?_
  split
  · exact closeNow_inRange h
  · exact schedule_inRange h

theorem loopStopBody_inRange {env : Envelope} (h : s.InRange) : (loopStopBody env s).after.InRange := by
  refine whenFits_inRange h fun _ => ?_
  split
  · exact h
  · exact done_inRange (enterRest_inRange h)

theorem flattenBody_inRange {env : Envelope} (h : s.InRange) : (flattenBody env s).after.InRange := by
  refine whenFits_inRange h fun _ => ?_
  split
  · exact h
  split
  · exact h
  · exact accepted_inRange (beginBiasSend_inRange h)

theorem loopConfigBody_inRange {env : Envelope} {deadline missed stroke drive : Nat} (h : s.InRange) :
    (loopConfigBody env deadline missed stroke drive s).after.InRange :=
  whenFits_inRange h fun _ => h.withLoop ⟨clamp_range (by decide) deadline, clamp_range (by decide) missed,
    clamp_range (by decide) stroke, clamp_range (by decide) drive⟩

theorem setFeature_inRange {feature value : Nat} {f g : Features} (hf : f.inRange)
    (h : setFeature feature value f = some g) : g.inRange := by
  unfold setFeature at h
  split at h
  · obtain ⟨_, -, rfl⟩ := Option.map_eq_some_iff.mp h
    exact hf
  · obtain ⟨_, -, rfl⟩ := Option.map_eq_some_iff.mp h
    exact hf
  · obtain ⟨_, -, rfl⟩ := Option.map_eq_some_iff.mp h
    exact hf
  · cases h
    exact clamp_range (by decide) value
  · cases h

theorem featureSetBody_inRange {env : Envelope} {feature value : Nat} (h : s.InRange) :
    (featureSetBody env feature value s).after.InRange := by
  refine whenFits_inRange h fun _ => ?_
  split
  · exact h
  split
  · exact h
  · next hset => exact h.withPort (setFeature_inRange h.features hset)

theorem resetSoftBody_inRange {env : Envelope} (h : s.InRange) : (resetSoftBody env s).after.InRange := by
  refine whenFits_inRange h fun _ => ?_
  split
  · exact softReset_inRange h
  · exact h.withPort h.features

end

/-! ### Every command keeps the ranges -/

/-- What the part does not check of a request, because the field on the wire cannot hold more (R205): the scale,
the offsets, the upper limits, the gains, Dmax and the park value. -/
def fieldsFit : Instr → Prop
  | .sensorScale _ _ scale => scale ≤ 65535
  | .refWrite _ _ _ _ offsets => ∀ i ∈ offsets, -32768 ≤ i ∧ i ≤ 32767
  | .actWrite _ _ records => ∀ f ∈ records, f.hi ≤ 65535
  | .gainWrite _ _ gain leak => gain ≤ 65535 ∧ leak ≤ 65535
  | .pairWrite _ _ _ dmax => dmax ≤ 65535
  | .linkConfig _ _ _ park _ _ _ => park ≤ 65535
  | _ => True

theorem le_of_fits16 {n : Nat} (h : fits16 n = true) : n ≤ 65535 :=
  Nat.le_of_lt_succ (of_decide_eq_true h)

theorem fieldsFit_of_wellFormed {i : Instr} (h : i.wellFormed = true) : fieldsFit i := by
  cases i
  case sensorScale =>
    simp only [Instr.wellFormed, Bool.and_eq_true] at h
    exact le_of_fits16 h.2
  case refWrite =>
    simp only [Instr.wellFormed, Bool.and_eq_true, List.all_eq_true] at h
    obtain ⟨⟨⟨-, hoffsets⟩, -⟩, -⟩ := h
    exact fun i hi => by simpa [fitsInt16] using hoffsets i hi
  case actWrite =>
    simp only [Instr.wellFormed, ActFields.wellFormed, Bool.and_eq_true, List.all_eq_true] at h
    obtain ⟨⟨-, hrecords⟩, -⟩ := h
    exact fun f hf => le_of_fits16 (hrecords f hf).1.2
  case gainWrite =>
    simp only [Instr.wellFormed, Bool.and_eq_true] at h
    obtain ⟨⟨-, hgain⟩, hleak⟩ := h
    exact ⟨le_of_fits16 hgain, le_of_fits16 hleak⟩
  case pairWrite =>
    simp only [Instr.wellFormed, Bool.and_eq_true] at h
    exact le_of_fits16 h.2
  case linkConfig =>
    simp only [Instr.wellFormed, Bool.and_eq_true] at h
    obtain ⟨⟨⟨⟨-, hpark⟩, -⟩, -⟩, -⟩ := h
    exact le_of_fits16 hpark
  all_goals trivial

/-- A field of `width` bytes holds less than 256 to the power of the width. -/
theorem beNat_lt (bs : List Byte) (offset width : Nat) : beNat bs offset width < 256 ^ width := by
  induction width with
  | zero => exact Nat.one_pos
  | succ width ih =>
    have hbyte := (bs.getD (offset + width) 0#8).isLt
    rw [beNat, Nat.pow_succ]
    omega

theorem beNat_two_le (bs : List Byte) (offset : Nat) : beNat bs offset 2 ≤ 65535 :=
  Nat.le_of_lt_succ (beNat_lt bs offset 2)

theorem beInt16s_range (bs : List Byte) (offset count : Nat) :
    ∀ i ∈ beInt16s bs offset count, -32768 ≤ i ∧ i ≤ 32767 := by
  intro i hi
  obtain ⟨k, -, rfl⟩ := List.mem_map.mp hi
  have hlow := BitVec.le_toInt (BitVec.ofNat 16 (beNat bs (offset + 2 * k) 2))
  have hhigh := BitVec.toInt_lt (x := BitVec.ofNat 16 (beNat bs (offset + 2 * k) 2))
  unfold beToInt16
  omega

/-- R205: what a frame spells fits its fields. The cases are numbered by their codes. -/
theorem fieldsFit_of_requestOf {code column row : Nat} {env : Envelope} {p : List Byte}
    {uncorrectable : List Nat} {i : Instr} (h : requestOf code env column row p uncorrectable = some i) :
    fieldsFit i := by
  unfold requestOf at h
  split at h
  case h_5 => cases h; exact beNat_two_le p 1
  case h_8 => cases h; exact beInt16s_range p 5 _
  case h_26 =>
    cases h
    intro f hf
    obtain ⟨k, -, rfl⟩ := List.mem_map.mp hf
    exact beNat_two_le p _
  case h_29 => cases h; exact ⟨beNat_two_le p 1, beNat_two_le p 3⟩
  case h_31 => cases h; exact beNat_two_le p 4
  case h_36 => cases h; exact beNat_two_le p 3
  case h_55 => split at h <;> cases h <;> trivial
  all_goals cases h <;> trivial

/-- Every next state that an outcome gives has its configured values in range. -/
def leadsInRange (o : Host.Outcome State Fault Refusal) : Prop := ∀ t, o = .next t → t.InRange

section
variable {s : State}

theorem next_leadsInRange (h : s.InRange) : leadsInRange (.next s) := by
  rintro t ⟨⟩
  exact h

theorem awake_leadsInRange {f : State → State} (h : s.InRange) (hf : (f s).InRange) :
    leadsInRange (awake s f) := by
  refine next_leadsInRange ?_
  split
  · exact h
  · exact hf

theorem request_leadsInRange {env : Envelope} {code : Nat} {body : State → Verdict} (h : s.InRange)
    (hbody : ∀ u : State, u.InRange → (body u).after.InRange) : leadsInRange (request env code body s) :=
  awake_leadsInRange h (takeRequest_inRange h hbody)

/-- Every request that fits its fields keeps the ranges; an event is no request. -/
theorem runRequest_leadsInRange {i : Instr} (h : s.InRange) (hi : fieldsFit i) :
    leadsInRange (runRequest i s) := by
  cases i
  case linkCountersClear => exact request_leadsInRange h fun _ hu => linkCountersClearBody_inRange hu
  case sensorRole => exact request_leadsInRange h fun _ hu => sensorRoleBody_inRange hu
  case sensorTag => exact request_leadsInRange h fun _ hu => sensorTagBody_inRange hu
  case sensorScale => exact request_leadsInRange h fun _ hu => sensorScaleBody_inRange hu hi
  case sensorCount => exact request_leadsInRange h fun _ hu => sensorCountBody_inRange hu
  case refWrite => exact request_leadsInRange h fun _ hu => refWriteBody_inRange hu hi
  case mapWrite => exact request_leadsInRange h fun _ hu => mapWriteBody_inRange hu
  case swap => exact request_leadsInRange h fun _ hu => swapBody_inRange hu
  case swapCancel =>
    exact request_leadsInRange h fun _ hu => whenFits_inRange hu fun _ => done_inRange (cancelSwap_inRange hu)
  case actCount => exact request_leadsInRange h fun _ hu => actCountBody_inRange hu
  case actWrite => exact request_leadsInRange h fun _ hu => actWriteBody_inRange hu hi
  case actMode => exact request_leadsInRange h fun _ hu => actModeBody_inRange hu
  case gainWrite => exact request_leadsInRange h fun _ hu => gainWriteBody_inRange hu hi.1 hi.2
  case pairWrite => exact request_leadsInRange h fun _ hu => pairWriteBody_inRange hu hi
  case pairRemove => exact request_leadsInRange h fun _ hu => pairRemoveBody_inRange hu
  case linkReset => exact request_leadsInRange h fun _ hu => linkResetBody_inRange hu
  case linkConfig => exact request_leadsInRange h fun _ hu => linkConfigBody_inRange hu hi
  case loopOpen => exact request_leadsInRange h fun _ hu => loopOpenBody_inRange hu
  case loopClose => exact request_leadsInRange h fun _ hu => loopCloseBody_inRange hu
  case loopStop => exact request_leadsInRange h fun _ hu => loopStopBody_inRange hu
  case loopSafe =>
    exact request_leadsInRange h fun _ hu => whenFits_inRange hu fun _ => done_inRange (enterSafe_inRange hu)
  case flatten => exact request_leadsInRange h fun _ hu => flattenBody_inRange hu
  case loopConfig => exact request_leadsInRange h fun _ hu => loopConfigBody_inRange hu
  case scanStop =>
    exact request_leadsInRange h fun _ hu => whenFits_inRange hu fun _ => done_inRange (scanAbort_inRange hu)
  case featureSet => exact request_leadsInRange h fun _ hu => featureSetBody_inRange hu
  case resetSoft => exact request_leadsInRange h fun _ hu => resetSoftBody_inRange hu
  case loadOpen => exact request_leadsInRange h fun _ hu => loadOpenBody_inRange hu
  case loadSegment => exact request_leadsInRange h fun _ hu => loadSegmentBody_inRange hu
  case loadFlush => exact request_leadsInRange h fun _ hu => loadFlushBody_inRange hu
  case blockReopen => exact request_leadsInRange h fun _ hu => blockReopenBody_inRange hu
  case loadClose => exact request_leadsInRange h fun _ hu => loadCloseBody_inRange hu
  case mapRead | slotStatus | engineStatus | gainRead | stageStatus | loopStatus | scanStatus | telemStatus |
      ident | portStatus | faultDetail | attnRead =>
    exact request_leadsInRange h fun _ hu => whenFits_inRange hu fun _ => hu
  case linkStatus | sensorRead | refRead | storeRead | loadAbort | bankClear | loadStatus |
      actRead | pairRead | scanStart | telemSelect | telemPop | captureRead | telemReset | featureGet |
      attnMask | attnAck =>
    refine request_leadsInRange h fun _ hu => whenFits_inRange hu fun _ => ?_
    repeat' split
    all_goals exact hu.of_frame
  all_goals exact next_leadsInRange h

/-! #### Complete frames (R186 to R188) -/

theorem takeSound_leadsInRange {bytes : List Byte} {uncorrectable : List Nat} (h : s.InRange) :
    leadsInRange (takeSound bytes uncorrectable s) := by
  unfold takeSound
  split
  · next hspelt => exact runRequest_leadsInRange h (fieldsFit_of_requestOf hspelt)
  · exact next_leadsInRange (conclude_inRange (takeFrame_inRange h))

theorem requestFrame_leadsInRange {bytes : List Byte} {uncorrectable : List Nat} (h : s.InRange) :
    leadsInRange (execRequestFrameComplete bytes uncorrectable s) := by
  have hbegun := h.withPort (p := { s.port with reception := none }) h.features
  unfold execRequestFrameComplete
  split
  · exact next_leadsInRange h
  unfold checkFrame
  dsimp only
  split
  · exact next_leadsInRange (hbegun.withPort h.features)
  split
  · exact next_leadsInRange (hbegun.withPort h.features)
  unfold checkSound
  split
  · exact next_leadsInRange (hbegun.withPort h.features)
  split
  · exact takeSound_leadsInRange hbegun
  · exact next_leadsInRange hbegun

/-- R154: what a frame does between the act of a link and the entry to SAFE. -/
theorem takeBetween_inRange (between : Option BusFrame) (u : State) (h : u.InRange) :
    (takeBetween between u).InRange := by
  cases between with
  | none => exact h
  | some f =>
    rcases takeBetween_frame f u with hnext | hsame
    · exact requestFrame_leadsInRange h _ hnext
    · rw [hsame]
      exact h

/-! #### Replies that are sent, lost or over (R189, R200) -/

theorem replyDone_inRange (h : s.InRange) : (replyDone s).InRange := by
  unfold replyDone
  split
  · split
    · exact softReset_inRange (h.withPort h.features)
    · exact h.withPort h.features
  · exact h

theorem replyGone_inRange (h : s.InRange) : (replyGone s).InRange := by
  unfold replyGone
  split
  · exact h.withPort h.features
  · exact h

theorem replyEnded_inRange (h : s.InRange) : (replyEnded s).InRange := by
  unfold replyEnded
  split
  · exact softReset_inRange (h.withPort h.features)
  · exact h

/-! #### The dispatch -/

/-- Every command that fits its fields keeps the ranges: the events one by one, then the requests. -/
theorem exec_leadsInRange {i : Instr} (h : s.InRange) (hi : fieldsFit i) : leadsInRange (exec i s) := by
  cases i
  case lockAchieved =>
    exact awake_leadsInRange h (onReceiver_inRange h h.of_frame)
  case lossOfLock => exact awake_leadsInRange h (onReceiver_inRange h (lineDown_inRange h))
  case silenceTimerExpiry =>
    refine awake_leadsInRange h (onReceiver_inRange h ?_)
    split
    · exact lineDown_inRange h
    · exact h
  case startDelimiter | idleFillCut | excessByte =>
    exact awake_leadsInRange h (onReceiver_inRange h h.of_frame)
  case segmentArrival => exact awake_leadsInRange h (onReceiver_inRange h (arrive_inRange h))
  case slopeWork =>
    unfold exec execSlopeWork
    refine awake_leadsInRange h ?_
    split
    · split
      · exact h
      · exact workNextSlope_inRange h
    · exact h
  case deadlineExpiry =>
    refine awake_leadsInRange h ?_
    split
    · exact settle_inRange (closeSlot_inRange h)
    · exact h
  case fillInColumn =>
    unfold exec execFillInColumn
    refine awake_leadsInRange h ?_
    split
    · split
      · next w _ _ e _ =>
        exact (fillColumn_inRange (w := w) (j := e.1) h).of_frame (hfeatures := rfl)
      · exact h
    · exact h
  case residualsDone =>
    unfold exec execResidualsDone
    refine awake_leadsInRange h ?_
    split
    · split
      · exact h
      · exact settle_inRange h.of_frame
    · exact h
  case shapeChecked =>
    unfold exec execShapeChecked
    refine awake_leadsInRange h ?_
    split
    · exact checkShape_inRange h
    · exact h
  case transactionBegin =>
    unfold exec execTransactionBegin
    refine awake_leadsInRange h ?_
    split
    · exact h
    split
    · exact h
    · exact beginTransaction_inRange h
  case recoveryLineIdle => exact awake_leadsInRange h (onDriveLink_inRange h (recoverLink_inRange h))
  case recoveryWindowExpiry =>
    exact awake_leadsInRange h (onDriveLink_inRange h (stickLink_inRange h (takeBetween_inRange _)))
  case takenReply => exact awake_leadsInRange h (onDriveLink_inRange h (takeTaken_inRange h))
  case refusedReply =>
    exact awake_leadsInRange h (onDriveLink_inRange h (takeRefused_inRange h (takeBetween_inRange _)))
  case replyTimerExpiry => exact awake_leadsInRange h (onDriveLink_inRange h (expireReply_inRange h))
  case returnFrameDiscard =>
    refine awake_leadsInRange h (onDriveLink_inRange h ?_)
    split
    · exact h.modifyDriveLink _ fun _ hr => hr
    · exact h
  case appliedReply => exact awake_leadsInRange h (onDriveLink_inRange h (takeApplied_inRange h))
  case applyTimerExpiry => exact awake_leadsInRange h (onDriveLink_inRange h (expireApply_inRange h))
  case faultReport =>
    exact awake_leadsInRange h (onDriveLink_inRange h (takeFault_inRange h (takeBetween_inRange _)))
  case verifyColumnRead =>
    unfold exec execVerifyColumnRead
    refine awake_leadsInRange h ?_
    split
    · exact verifyColumn_inRange h
    · exact h
  case busSilenceGap =>
    unfold exec execBusSilenceGap
    exact awake_leadsInRange h (h.withPort h.features)
  case overlengthHeader =>
    unfold exec execOverlengthHeader
    exact awake_leadsInRange h (h.withPort h.features)
  case requestFrameComplete => exact requestFrame_leadsInRange h
  case replySent => exact awake_leadsInRange h (replyDone_inRange h)
  case replyLost => exact awake_leadsInRange h (replyGone_inRange h)
  case replyWouldHaveEnded => exact awake_leadsInRange h (replyEnded_inRange h)
  case hardReset => exact next_leadsInRange (hardReset_inRange h)
  case resetRelease => exact next_leadsInRange (releaseReset_inRange h)
  all_goals exact runRequest_leadsInRange h hi

/-- A step runs the front command, whose fields fit, or lets the part time pass. -/
theorem step_leadsInRange (h : s.InRange) : leadsInRange (step s) := by
  unfold step
  split
  · exact next_leadsInRange (h.of_frame (t := tick s) rfl rfl rfl rfl rfl rfl rfl rfl rfl rfl rfl)
  · next c rest hpending =>
    obtain ⟨hc, hrest⟩ := List.forall_mem_cons.mp (hpending ▸ h.pending)
    exact exec_leadsInRange (h.withPending hrest) (fieldsFit_of_wellFormed hc)

end

/-- Settles O10: the ranges hold of what every operation of the part writes, so every command keeps them. -/
theorem configurationStaysInRange : Obligations.ConfigurationStaysInRange := fun _ t h hstep =>
  State.configured_iff.mpr (step_leadsInRange (State.configured_iff.mp h) t hstep)

end

end Sys2Proof.Machine

namespace Sys2Proof.Machine

section
set_option Elab.async false

/-! ### What a command can do to the stores, the banks and the slots

Every command is a chain of the moves below. What holds of a state after each of them holds after every
command (`exec_moves`), so that an invariant of the stores or of the banks is one case per move. -/

/-- Equal in the blocks that the moves change. -/
structure State.SameStores (s t : State) : Prop where
  variant : t.variant = s.variant
  receivers : t.receivers = s.receivers
  slots : t.slots = s.slots
  lastClosed : t.lastClosed = s.lastClosed
  banks : t.banks = s.banks
  loader : t.loader = s.loader
  dram : t.dram = s.dram
  store : t.store = s.store
  hold : t.hold = s.hold
  fifo : t.telem.fifo = s.telem.fifo
  loop : t.loop.state = s.loop.state
  transition : t.loop.pendingTransition = s.loop.pendingTransition
  scan : t.scan.state = s.scan.state

/-- R69: a loader that agrees with the state of bank b, with empty buffers where a load begins. -/
def Loader.agrees (l : Loader) (b : Nat) (state : BankState) : Prop :=
  match l.state with
  | .idle => state.replaceable = true
  | .loading c _ => c = b ∧ state = .loading ∧ l.bufferA = none ∧ l.bufferB = none
  | .verifying c _ => c = b ∧ state = .verifying

/-- A bank's sizes are those it had, or lie in the bounds of the larger variant. -/
def Bank.sized (r old : Bank) : Prop :=
  (r.rows = old.rows ∧ r.columns = old.columns) ∨ (r.rowCount ≤ 1024 ∧ r.columnCount ≤ 8192)

/-- The states that chains of moves lead to. -/
inductive Moves (s₀ : State) : State → Prop
  | start : Moves s₀ s₀
  | same {s t : State} (h : Moves s₀ s) (hsame : s.SameStores t) : Moves s₀ t
  /-- A receiver changes and keeps its queue, or loses the head (R11). -/
  | receiver {s : State} (h : Moves s₀ s) (n : Nat) (r : Receiver)
      (hqueue : r.queue = (s.receiver n).queue ∨ r.queue = (s.receiver n).queue.tail) :
      Moves s₀ (s.setReceiver n r)
  | join {s : State} (h : Moves s₀ s) (n : Nat) (segment : Segment) : Moves s₀ (joinQueue n segment s)
  | offer {s : State} (h : Moves s₀ s) (r : Record) (copy : Option CaptureCopy) : Moves s₀ (offer r copy s)
  /-- Records leave the FIFO (R180, R183). -/
  | telem {s : State} (h : Moves s₀ s) (m : Telem) (hfifo : m.fifo.length ≤ s.telem.fifo.length) :
      Moves s₀ { s with telem := m }
  | store {s : State} (h : Moves s₀ s) (m : Table Int)
      (hm : Table.wf zeroes s.store = true → Table.wf zeroes m = true) : Moves s₀ { s with store := m }
  | dram {s : State} (h : Moves s₀ s) (m : Table Int)
      (hm : Table.wf zeroes s.dram = true → Table.wf zeroes m = true) : Moves s₀ { s with dram := m }
  /-- R99, R100. -/
  | hold {s : State} (h : Moves s₀ s) (es : List Edit) (hes : es.length ≤ Config.holdEdits) :
      Moves s₀ { s with hold := es }
  /-- A slot changes, but neither its bank nor whether it is FREE. -/
  | slot {s : State} (h : Moves s₀ s) (k : Nat) (r : Slot) (hbank : r.bank = (s.slot k).bank)
      (hfree : r.state = .free ↔ (s.slot k).state = .free) : Moves s₀ (s.setSlot k r)
  | free {s : State} (h : Moves s₀ s) (k : Nat) : Moves s₀ (freeSlot k s)
  | swap {s : State} (h : Moves s₀ s) (f : Frame) (hrun : s.loop.state.running = true) :
      Moves s₀ (applySwap f s)
  /-- R38: a FREE slot opens with the ACTIVE bank of a running loop. -/
  | opens {s : State} (h : Moves s₀ s) (k : Nat) (r : Slot) (hrun : s.loop.state.running = true)
      (hfree : (s.slot k).state = .free) (hbank : r.bank = s.activeBank.getD 0) : Moves s₀ (s.setSlot k r)
  /-- R43: the frame of a slot that is not FREE becomes L. -/
  | closes {s : State} (h : Moves s₀ s) (f : Frame) {k : Nat} (hk : k < 2)
      (hslot : (s.slot k).state ≠ .free) : Moves s₀ { s with lastClosed := some f }
  /-- R148: the loop goes on running, or begins to with an ACTIVE bank (R150). -/
  | loop {s : State} (h : Moves s₀ s) (l : Loop)
      (hrun : s.loop.state.running = true ∨ s.activeBank.isSome = true) (hl : l.state.running = true) :
      Moves s₀ { s with loop := l }
  /-- A scan begins to run only in a running loop (R168). -/
  | scan {s : State} (h : Moves s₀ s) (c : Scan)
      (hrun : s.loop.state.running = true ∨ s.scan.state = .running ∨ c.state ≠ .running) :
      Moves s₀ { s with scan := c }
  | cancel {s : State} (h : Moves s₀ s) : Moves s₀ (cancelSwap s)
  | swapNow {s : State} (h : Moves s₀ s) {b : Nat} (hb : b < 2) (hready : (s.bank b).state = .ready)
      (hstop : s.loop.state.running = false) : Moves s₀ (swapNow b s)
  | swapLater {s : State} (h : Moves s₀ s) {b : Nat} (at? : Option Frame) (hb : b < 2)
      (hready : (s.bank b).state = .ready) (hrun : s.loop.state.running = true)
      (hnone : s.swapPending = false) : Moves s₀ (swapLater b at? s)
  /-- A descriptor changes, but neither the bank's state nor its sizes. -/
  | bank {s : State} (h : Moves s₀ s) (b : Nat) (r : Bank) (hstate : r.state = (s.bank b).state)
      (hrows : r.rows = (s.bank b).rows) (hcolumns : r.columns = (s.bank b).columns) :
      Moves s₀ (s.setBank b r)
  /-- R84. -/
  | clear {s : State} (h : Moves s₀ s) (b : Nat) (hb : (s.bank b).state.replaceable = true) :
      Moves s₀ (s.setBank b (Bank.reset b))
  /-- R69: the load moves on: the loader and the bank that it names, or takes up, change together. -/
  | load {s : State} (h : Moves s₀ s) {b : Nat} (r : Bank) (l : Loader)
      (hold : (s.loader.state = .idle ∧ b < 2 ∧ (s.bank b).state.inUse = false) ∨
        s.loader.state.bank = some b)
      (hsize : r.sized (s.bank b)) (hnew : l.agrees b r.state) : Moves s₀ { s.setBank b r with loader := l }
  /-- R74, R75: the buffers hold columns that they held, or a column of the load. -/
  | loader {s : State} (h : Moves s₀ s) (l : Loader) (hstate : l.state = s.loader.state)
      (hbuffer : ∀ name x, l.buffer name = some x →
        (∃ y, s.loader.buffer name = some y ∧ y.column = x.column) ∨
          ∃ b owner, s.loader.state = .loading b owner ∧ x.column < (s.bank b).columnCount) :
      Moves s₀ { s with loader := l }
  /-- R156. -/
  | rest {s : State} (h : Moves s₀ s) {entered : LoopState} (hrest : entered.running = false)
      (cause : LoopCause) (frame : Option Frame) (scanCause : EndCause) :
      Moves s₀ (enterRest entered cause frame scanCause s)
  | softReset {s : State} (h : Moves s₀ s) : Moves s₀ (softReset s)
  | hardReset {s : State} (h : Moves s₀ s) : Moves s₀ (hardReset s)

section
variable {s₀ s t : State}

/-- What leaves the blocks that the moves change is a move. The premises are those that the `_leaves` lemmas
give. -/
theorem Moves.of_frame (h : Moves s₀ s) (variant : t.variant = s.variant := by simp)
    (receivers : t.receivers = s.receivers := by simp) (slots : t.slots = s.slots := by simp)
    (lastClosed : t.lastClosed = s.lastClosed := by simp) (banks : t.banks = s.banks := by simp)
    (loader : t.loader = s.loader := by simp) (dram : t.dram = s.dram := by simp)
    (store : t.store = s.store := by simp) (hold : t.hold = s.hold := by simp)
    (fifo : t.telem.fifo = s.telem.fifo := by simp) (loop : t.loop.state = s.loop.state := by simp)
    (transition : t.loop.pendingTransition = s.loop.pendingTransition := by simp)
    (scan : t.scan.state = s.scan.state := by simp) : Moves s₀ t :=
  h.same ⟨variant, receivers, slots, lastClosed, banks, loader, dram, store, hold, fifo, loop, transition, scan⟩

end
end
end Sys2Proof.Machine

namespace Sys2Proof.Machine

section
set_option Elab.async false
variable {s₀ s : State}

/-! #### Blocks that no move is about -/

theorem Moves.withStage (h : Moves s₀ s) (g : Stage) : Moves s₀ { s with stage := g } := h.of_frame

theorem Moves.withDrive (h : Moves s₀ s) (d : Drive) : Moves s₀ { s with drive := d } := h.of_frame

theorem Moves.withEngine (h : Moves s₀ s) (e : Engine) : Moves s₀ { s with engine := e } := h.of_frame

theorem Moves.withTable (h : Moves s₀ s) (t : ActTable) : Moves s₀ { s with table := t } := h.of_frame

theorem Moves.withPort (h : Moves s₀ s) (p : Port) : Moves s₀ { s with port := p } := h.of_frame

theorem Moves.setImage (h : Moves s₀ s) (k : Nat) (i : Option (Table Int)) : Moves s₀ (s.setImage k i) :=
  h.of_frame

theorem Moves.setDriveLink (h : Moves s₀ s) (l : Nat) (r : DriveLink) : Moves s₀ (s.setDriveLink l r) :=
  h.of_frame

theorem Moves.modifyDriveLink (h : Moves s₀ s) (l : Nat) (f : DriveLink → DriveLink) :
    Moves s₀ (s.modifyDriveLink l f) := h.of_frame

/-- The loop stays in its state, with the transition that is pending. -/
theorem Moves.withLoop (h : Moves s₀ s) (l : Loop) (hstate : l.state = s.loop.state)
    (htransition : l.pendingTransition = s.loop.pendingTransition) : Moves s₀ { s with loop := l } :=
  h.of_frame (loop := hstate) (transition := htransition)

/-! #### Records changed in place -/

theorem Moves.modifyReceiver (h : Moves s₀ s) (n : Nat) {f : Receiver → Receiver}
    (hf : ∀ r, (f r).queue = r.queue ∨ (f r).queue = r.queue.tail) : Moves s₀ (s.modifyReceiver n f) :=
  h.receiver n _ (hf _)

theorem Moves.forReceivers (h : Moves s₀ s) {f : Receiver → Receiver} (hf : ∀ r, (f r).queue = r.queue) :
    Moves s₀ (s.forReceivers f) :=
  List.foldlRecOn _ _ h fun _ hu n _ => hu.modifyReceiver n fun r => .inl (hf r)

theorem Moves.modifySlot (h : Moves s₀ s) (k : Nat) {f : Slot → Slot} (hbank : ∀ r, (f r).bank = r.bank)
    (hfree : (f (s.slot k)).state = .free ↔ (s.slot k).state = .free) : Moves s₀ (s.modifySlot k f) :=
  h.slot k _ (hbank _) hfree

/-- A bank's descriptor changes, but neither its state nor its sizes. -/
theorem Moves.modifyBank (h : Moves s₀ s) (b : Nat) {f : Bank → Bank} (hstate : ∀ r, (f r).state = r.state)
    (hrows : ∀ r, (f r).rows = r.rows) (hcolumns : ∀ r, (f r).columns = r.columns) :
    Moves s₀ (s.modifyBank b f) :=
  h.bank b _ (hstate _) (hrows _) (hcolumns _)

/-! #### Held edits (Ops) -/

theorem settleLinks_moves (h : Moves s₀ s) : Moves s₀ (settleLinks s) := h.of_frame

theorem applyHold_moves (h : Moves s₀ s) : Moves s₀ (applyHold s) :=
  (h.hold [] (Nat.zero_le _)).of_frame (hold := applyHold_hold s)

/-! #### Scan and loop state (Loops) -/

theorem raise_moves {c : Cause} (h : Moves s₀ s) : Moves s₀ (raise c s) := h.of_frame

theorem scanAbort_moves {cause : EndCause} (h : Moves s₀ s) : Moves s₀ (scanAbort cause s) := by
  unfold scanAbort
  split
  · exact (h.scan _ (.inr (.inr (by simp)))).offer _ _
  · exact h

theorem scanCommit_moves {f : Frame} {p : Option Poke} (h : Moves s₀ s) : Moves s₀ (scanCommit f p s) := by
  unfold scanCommit
  split
  · next hscan _ =>
    split
    · dsimp only
      have hadvanced := fun c => h.scan c (.inr (.inl hscan))
      split
      · exact (raise_moves (hadvanced _)).offer _ _
      · exact hadvanced _
    · exact h
  · exact h

theorem changeLoop_moves {entered : LoopState} {cause : LoopCause} {f : Option Frame} (h : Moves s₀ s)
    (hrun : s.loop.state.running = true ∨ s.activeBank.isSome = true) (he : entered.running = true) :
    Moves s₀ (changeLoop entered cause f s) :=
  (h.loop { s.loop with state := entered, lastTransition := some ⟨entered, cause, f⟩ } hrun he).offer _ _

theorem clearRuns_moves (h : Moves s₀ s) : Moves s₀ (clearRuns s) := h.withLoop _ rfl rfl

theorem enterTracking_moves {target : Target} {cause : LoopCause} {f : Option Frame} (h : Moves s₀ s)
    (hrun : s.loop.state.running = true ∨ s.activeBank.isSome = true) :
    Moves s₀ (enterTracking target cause f s) :=
  clearRuns_moves (changeLoop_moves h hrun (by cases target <;> rfl))

theorem changeLoop_state (entered : LoopState) (cause : LoopCause) (f : Option Frame) (s : State) :
    (changeLoop entered cause f s).loop.state = entered := by simp [changeLoop]

theorem enterHold_moves {cause : LoopCause} {f : Option Frame} (h : Moves s₀ s)
    (hrun : s.loop.state.running = true) : Moves s₀ (enterHold cause f s) := by
  have hc := changeLoop_moves (entered := .hold) (cause := cause) (f := f) h (.inl hrun) rfl
  have hhold : (changeLoop .hold cause f s).loop.state.running = true := by rw [changeLoop_state]; rfl
  exact scanAbort_moves (raise_moves (hc.loop { (changeLoop .hold cause f s).loop with
    holdEntries := (changeLoop .hold cause f s).loop.holdEntries + 1, pendingTransition := none }
    (.inl hhold) hhold))

theorem compareRun_moves {run threshold : Nat} {cause : LoopCause} {f : Option Frame} (h : Moves s₀ s) :
    Moves s₀ (compareRun run threshold cause f s) := by
  have hhold : s.loop.state.running = true → Moves s₀ (enterHold cause f s) := enterHold_moves h
  unfold compareRun
  split
  · next hstate =>
    split
    · exact hhold (by rw [hstate]; rfl)
    · exact h
  · next hstate =>
    split
    · exact hhold (by rw [hstate]; rfl)
    · exact h
  · exact h

theorem reportMissed_moves {f : Frame} (h : Moves s₀ s) : Moves s₀ (reportMissed f s) := by
  unfold reportMissed
  dsimp only
  split
  · exact compareRun_moves (h.withLoop _ rfl rfl)
  · exact h

theorem reportUsed_moves (h : Moves s₀ s) : Moves s₀ (reportUsed s) := by
  unfold reportUsed
  split
  · exact h.withLoop _ rfl rfl
  · exact h

theorem reportStroke_moves {f : Frame} (h : Moves s₀ s) : Moves s₀ (reportStroke f s) := by
  unfold reportStroke
  dsimp only
  split
  · exact compareRun_moves (h.withLoop _ rfl rfl)
  · exact h

theorem reportPassed_moves (h : Moves s₀ s) : Moves s₀ (reportPassed s) := by
  unfold reportPassed
  split
  · exact h.withLoop _ rfl rfl
  · exact h

theorem reportDrive_moves {f : Option Frame} (h : Moves s₀ s) : Moves s₀ (reportDrive f s) := by
  unfold reportDrive
  dsimp only
  split
  · exact compareRun_moves (h.withLoop _ rfl rfl)
  · exact h

theorem reportCommitted_moves (h : Moves s₀ s) : Moves s₀ (reportCommitted s) := by
  unfold reportCommitted
  split
  · exact h.withLoop _ rfl rfl
  · exact h

theorem testScheduled_moves {g : Frame} (h : Moves s₀ s) (hrun : s.loop.state.running = true) :
    Moves s₀ (testScheduled g s) := by
  unfold testScheduled
  split
  · exact h
  · next p _ =>
    have hcleared := h.loop { s.loop with pendingTransition := none } (.inl hrun) hrun
    split
    · dsimp only
      split
      · split
        · exact hcleared
        · exact enterTracking_moves hcleared (.inl hrun)
      · split
        · exact hcleared
        · exact enterTracking_moves hcleared (.inl hrun)
    · exact h

/-! #### The frame assembler (Assembly) -/

/-- A slot that becomes FREE leaves the others as they were. -/
theorem freeSlot_slot_ne {k m : Nat} (hne : k ≠ m) (s : State) : (freeSlot k s).slot m = s.slot m := by
  unfold freeSlot
  split
  · rfl
  · simp [State.slot, State.setSlot, Table.get_set_ne _ _ _ _ _ hne]

theorem abandonSlot_slot_ne {k m : Nat} (hne : k ≠ m) (s : State) : (abandonSlot k s).slot m = s.slot m := by
  rw [← freeSlot_slot_ne hne s]
  simp [abandonSlot, State.slot]

theorem abandonSlot_moves {k : Nat} (h : Moves s₀ s) : Moves s₀ (abandonSlot k s) := (h.free k).offer _ _

theorem decideMissed_moves {k : Nat} (h : Moves s₀ s) (hk : (s.slot k).state ≠ .free) :
    Moves s₀ (decideMissed k s) := by
  unfold decideMissed
  dsimp only
  split
  · exact reportMissed_moves ((h.free k).offer _ _)
  · exact reportUsed_moves (h.modifySlot k (fun _ => rfl) (by simp [hk]))

theorem closeSlot_moves {k : Nat} {cause : CloseCause} (h : Moves s₀ s) (hk : k < 2) :
    Moves s₀ (closeSlot k cause s) := by
  unfold closeSlot
  split
  · next hopen =>
    extract_lets f s1 s2 o s3
    have h1 : Moves s₀ s1 := h.modifySlot k (fun _ => rfl) Iff.rfl
    have hopen1 : (s1.slot k).state = .opened := by simp [s1, hopen]
    have h2 : Moves s₀ s2 := h1.closes f hk (by simp [hopen1])
    have hne : otherSlot k ≠ k := by unfold otherSlot; omega
    have h3 : Moves s₀ s3 ∧ (s3.slot k).state = .opened := by
      simp only [s3]
      split
      · exact ⟨abandonSlot_moves h2, by rw [abandonSlot_slot_ne hne]; exact hopen1⟩
      · exact ⟨h2, hopen1⟩
    exact decideMissed_moves h3.1 (by simp [h3.2])
  · exact h

theorem openSlot_moves {k : Nat} {f : Frame} (h : Moves s₀ s) (hrun : s.loop.state.running = true)
    (hfree : (s.slot k).state = .free) : Moves s₀ (openSlot k f s) := by
  have hfree' : ((applySwap f s).slot k).state = .free := by simpa [State.slot] using hfree
  exact ((h.swap f hrun).opens k _ (by simpa using hrun) hfree' rfl).setImage k _

theorem popHead_moves {n : Nat} (h : Moves s₀ s) : Moves s₀ (popHead n s) :=
  h.modifyReceiver n fun _ => .inr rfl

theorem beginSegment_moves {k n : Nat} {seg : Segment} (h : Moves s₀ s) :
    Moves s₀ (beginSegment k n seg s) :=
  (h.modifySlot k (f := fun r => { r with
    mixed := r.mixed || r.changed.contains seg.sensor, conditioned := NatSet.add r.conditioned seg.sensor })
    (fun _ => rfl) Iff.rfl).withEngine _

theorem acceptSegment_moves {k n : Nat} {seg : Segment} (h : Moves s₀ s) (hk : k < 2) :
    Moves s₀ (acceptSegment k n seg s) := by
  unfold acceptSegment
  extract_lets slot before after s1 s2
  have h1 : Moves s₀ s1 := h.slot k _ rfl Iff.rfl
  have h2 : Moves s₀ s2 := by
    simp only [s2]
    split
    · exact closeSlot_moves h1 hk
    · exact h1
  split
  · exact h2
  · exact beginSegment_moves h2

theorem placeHead_moves {k n : Nat} {seg : Segment} (h : Moves s₀ s) (hk : k < 2) :
    Moves s₀ (placeHead k n seg s) := by
  unfold placeHead
  dsimp only
  split
  · exact (popHead_moves h).modifyReceiver n fun _ => .inl rfl
  · exact acceptSegment_moves (popHead_moves h) hk

theorem oldestOpen_lt {k : Nat} (hk : oldestOpen s = some k) : k < 2 := by
  unfold oldestOpen at hk
  dsimp only at hk
  repeat' split at hk
  all_goals simp_all
  all_goals omega

theorem slotOpenFor_lt {f : Frame} {k : Nat} (hk : slotOpenFor s f = some k) : k < 2 := by
  have := List.mem_of_find?_eq_some hk
  simp at this
  omega

theorem slotFree_lt {k : Nat} (hk : slotFree s = some k) : k < 2 := by
  have := List.mem_of_find?_eq_some hk
  simp at this
  omega

theorem slotFree_free {k : Nat} (hk : slotFree s = some k) : (s.slot k).state = .free := by
  simpa using List.find?_some hk

theorem waitHead_moves {n : Nat} (h : Moves s₀ s) : Moves s₀ (waitHead n s) := by
  unfold waitHead
  dsimp only
  have hwaits := h.modifyReceiver n (f := fun r => { r with headWaiting := true }) fun _ => .inl rfl
  split
  · next hk => exact closeSlot_moves hwaits (oldestOpen_lt hk)
  · exact hwaits

theorem decideHead_moves {n : Nat} {seg : Segment} (h : Moves s₀ s) (hrun : s.loop.state.running = true) :
    Moves s₀ (decideHead n seg s) := by
  unfold decideHead
  split
  · exact popHead_moves h
  split
  · exact (popHead_moves h).modifyReceiver n fun _ => .inl rfl
  split
  · next hk => exact placeHead_moves h (slotOpenFor_lt hk)
  split
  · next hk => exact placeHead_moves (openSlot_moves h hrun (slotFree_free hk)) (slotFree_lt hk)
  · exact waitHead_moves h

/-! #### The arbiter and the engine (EngineOps) -/

theorem offerHead_moves {n : Nat} (h : Moves s₀ s) (hrun : s.loop.state.running = true) :
    Moves s₀ (offerHead n s) := by
  unfold offerHead
  dsimp only
  split
  · exact h.withEngine _
  · exact decideHead_moves (h.withEngine _) hrun

theorem arbitrate_moves {fuel : Nat} (h : Moves s₀ s) : Moves s₀ (arbitrate fuel s) := by
  induction fuel generalizing s with
  | zero => exact h
  | succ more ih =>
    unfold arbitrate
    split
    · next hidle =>
      split
      · exact h.of_frame
      split
      · exact ih (offerHead_moves h hidle.2)
      · exact h
    · exact h

theorem uncorrectableRead_moves {k : Nat} (h : Moves s₀ s) : Moves s₀ (uncorrectableRead k s) :=
  raise_moves ((h.modifySlot k (f := fun r => { r with degraded := true }) (fun _ => rfl) Iff.rfl).modifyBank _
    (fun _ => rfl) (fun _ => rfl) fun _ => rfl)

theorem addColumn_moves {k j : Nat} {v : Int} {uncorrectable : Bool} (h : Moves s₀ s) :
    Moves s₀ (addColumn k j v uncorrectable s) := by
  unfold addColumn
  split
  · exact h
  split
  · exact uncorrectableRead_moves h
  · exact h.modifySlot k (fun _ => rfl) Iff.rfl

theorem writeImage_moves {k j : Nat} {v : Int} (h : Moves s₀ s) : Moves s₀ (writeImage k j v s) := by
  unfold writeImage
  split
  · exact h
  · exact h.of_frame

theorem workColumn_moves {k j : Nat} {c : Int} {uncorrectable : List Nat} (h : Moves s₀ s) :
    Moves s₀ (workColumn k c uncorrectable s j) :=
  addColumn_moves (writeImage_moves (h.store _ fun hwf => Table.wf_set zeroes s.store j c hwf))

theorem workSlope_moves {k : Nat} {slope ref : Int} {scale : Nat} {columns uncorrectable : List Nat}
    (h : Moves s₀ s) : Moves s₀ (workSlope k slope ref scale columns uncorrectable s) := by
  unfold workSlope
  split
  · exact List.foldlRecOn columns _ (h.modifySlot k (fun _ => rfl) Iff.rfl) fun _ hu _ _ =>
      writeImage_moves hu
  · exact List.foldlRecOn columns _ (h.modifySlot k (fun _ => rfl) Iff.rfl) fun _ hu _ _ =>
      workColumn_moves hu

theorem fillColumn_moves {w : FillWork} {j : Nat} {uncorrectable : Bool} (h : Moves s₀ s) :
    Moves s₀ (fillColumn w j uncorrectable s) :=
  addColumn_moves (writeImage_moves (h.modifySlot _ (fun _ => rfl) Iff.rfl))

/-- R63: a slot in FILL becomes READY. -/
theorem finishPass_moves {k : Nat} (h : Moves s₀ s) (hk : (s.slot k).state ≠ .free) :
    Moves s₀ (finishPass k s) := by
  exact (h.modifySlot k (f := fun r => { r with state := .ready, acc := _, peak := _ }) (fun _ => rfl)
    (by simp [hk])).withEngine _

/-! #### The command stage (StageOps) -/

theorem endStage_moves {k : Nat} (h : Moves s₀ s) : Moves s₀ (endStage k s) :=
  ((applyHold_moves h).withStage _).free k

theorem holdPath_moves {k : Nat} (h : Moves s₀ s) : Moves s₀ (holdPath k s) :=
  endStage_moves ((h.offer _ _).withStage _)

theorem enterCommand_moves {k : Nat} (h : Moves s₀ s) (hrun : s.loop.state.running = true)
    (hk : (s.slot k).state ≠ .free) : Moves s₀ (enterCommand k s) := by
  have hs := h.modifySlot k (f := fun r => { r with state := .command }) (fun _ => rfl) (by simp [hk])
  have htested := testScheduled_moves (g := ((s.modifySlot k fun r =>
    { r with state := .command }).slot k).frame) hs hrun
  unfold enterCommand
  dsimp only
  split
  · exact holdPath_moves htested
  · exact htested.of_frame

theorem readyCandidate_ready {k : Nat} (hk : readyCandidate s = some k) : (s.slot k).state = .ready := by
  unfold readyCandidate at hk
  dsimp only at hk
  repeat' split at hk
  all_goals simp_all

theorem enterCommands_moves {fuel : Nat} (h : Moves s₀ s) : Moves s₀ (enterCommands fuel s) := by
  induction fuel generalizing s with
  | zero => exact h
  | succ more ih =>
    unfold enterCommands
    split
    · next hidle =>
      split
      · next hk => exact ih (enterCommand_moves h hidle.1 (by simp [readyCandidate_ready hk]))
      · exact h
    · exact h

theorem settle_moves (h : Moves s₀ s) : Moves s₀ (settle s) := arbitrate_moves (enterCommands_moves h)

theorem strokeDrop_moves {w : StageFrame} {shape : Shape} (h : Moves s₀ s) :
    Moves s₀ (strokeDrop w shape s) :=
  endStage_moves (reportStroke_moves ((h.offer _ _).withStage _))

theorem handOver_moves {w : StageFrame} {shape : Shape} (h : Moves s₀ s) : Moves s₀ (handOver w shape s) :=
  ((reportPassed_moves h).withStage { (reportPassed s).stage with phase := .sending w shape }).withDrive _

theorem commitFrame_moves {uncorrectable : List Nat} (h : Moves s₀ s) :
    Moves s₀ (commitFrame uncorrectable s) := by
  unfold commitFrame
  split
  · next w shape _ =>
    have htable := h.withTable (s.table.commit 0 shape.states shape.outputs)
    exact endStage_moves (((scanCommit_moves (reportCommitted_moves htable)).offer _ _).withStage _)
  · exact h

theorem driveDrop_moves {reason : DropReason} (h : Moves s₀ s) : Moves s₀ (driveDrop reason s) := by
  unfold driveDrop
  split
  · refine endStage_moves ?_
    split
    · exact reportDrive_moves ((h.offer _ _).withStage _)
    · exact (h.offer _ _).withStage _
  · exact h

/-! #### Transactions and bias sends (DriveOps) -/

theorem endBiasSend_moves {tx : Transaction} (h : Moves s₀ s) : Moves s₀ (endBiasSend tx s) :=
  applyHold_moves ((h.withLoop { s.loop with safeConfirmed := biasConfirmed tx s } rfl rfl).withDrive
    { s.drive with biasSend := none })

theorem endTransaction_moves {tx : Transaction} (h : Moves s₀ s) : Moves s₀ (endTransaction tx s) := by
  have hcleared : Moves s₀ (tx.links.foldl clearOutstanding s) := h.of_frame
  have hended := hcleared.withDrive { (tx.links.foldl clearOutstanding s).drive with current := none }
  unfold endTransaction
  dsimp only
  split
  · exact hended
  · exact endBiasSend_moves hended

theorem checkEnd_moves (h : Moves s₀ s) : Moves s₀ (checkEnd s) := by
  unfold checkEnd
  split
  · exact h
  split
  · exact h
  · exact endTransaction_moves h

theorem beginTransaction_moves {request : TxRequest} {idle : Nat → Bool} (h : Moves s₀ s) :
    Moves s₀ (beginTransaction request idle s) :=
  checkEnd_moves (List.foldlRecOn _ _ (h.withDrive _) fun _ hu _ _ => hu.of_frame)

theorem dropTransaction_moves {reason : DropReason} (h : Moves s₀ s) :
    Moves s₀ (dropTransaction reason s) := by
  unfold dropTransaction
  split
  · exact h
  next tx _ =>
  have hreleased : Moves s₀ (releaseTransaction tx s) := h.of_frame
  split
  · exact h
  dsimp only
  split
  · exact checkEnd_moves (driveDrop_moves hreleased)
  · exact checkEnd_moves hreleased

theorem updatePulse_moves {tx : Transaction} {uncorrectable : List Nat} (h : Moves s₀ s) :
    Moves s₀ (updatePulse tx uncorrectable s) := by
  have hpulsed := h.withDrive { s.drive with
    updateLine := .pulsing, pulses := s.drive.pulses + 1, current := some { tx with pulsed := true } }
  have happlied : ∀ u, Moves s₀ u → Moves s₀ (tx.links.foldl applyLink u) := fun _ hu => hu.of_frame
  have hbias : ∀ u, Moves s₀ u → Moves s₀ (pulseBias u) := fun _ hu => hu.of_frame
  unfold updatePulse
  dsimp only
  split
  · exact (commitFrame_moves (happlied _ hpulsed)).withDrive _
  · exact (hbias _ (happlied _ hpulsed)).withDrive _

theorem pulseIfLoaded_moves {uncorrectable : List Nat} (h : Moves s₀ s) :
    Moves s₀ (pulseIfLoaded uncorrectable s) := by
  unfold pulseIfLoaded
  split
  · exact h
  split
  · exact updatePulse_moves h
  · exact h

theorem beginBiasSend_moves (h : Moves s₀ s) : Moves s₀ (beginBiasSend s) :=
  ((h.withTable (s.table.biasStates 0 s.table.biases)).withLoop { s.loop with safeConfirmed := false } rfl rfl).withDrive _

/-! #### Entry to STOPPED and SAFE (LoopEntry) -/

theorem enterStopped_moves (h : Moves s₀ s) : Moves s₀ (enterStopped s) := h.rest (entered := .stopped) rfl _ _ _

theorem countSafeEntry_moves (h : Moves s₀ s) :
    Moves s₀ { s with loop := { s.loop with safeEntries := s.loop.safeEntries + 1 } } :=
  h.withLoop _ rfl rfl

theorem enterSafe_moves {cause : LoopCause} {f : Option Frame} (h : Moves s₀ s) :
    Moves s₀ (enterSafe cause f s) := by
  unfold enterSafe
  split
  · exact h
  extract_lets s1 _ s2
  have h1 : Moves s₀ s1 := raise_moves (h.rest (entered := .safe) rfl cause f .safe)
  have h2 : Moves s₀ s2 := countSafeEntry_moves h1
  split
  · exact h2
  · exact beginBiasSend_moves h2

theorem dropAndSafe_moves {order : SafeOrder} {reason : DropReason} {cause : LoopCause}
    {f : Option Frame} {between : State → State} (h : Moves s₀ s)
    (hb : ∀ u : State, Moves s₀ u → Moves s₀ (between u)) :
    Moves s₀ (dropAndSafe order reason cause f between s) := by
  cases order with
  | dropFirst => exact enterSafe_moves (hb _ (settle_moves (dropTransaction_moves h)))
  | safeFirst => exact dropTransaction_moves (enterSafe_moves (hb _ h))

end
end Sys2Proof.Machine

namespace Sys2Proof.Machine

section
set_option Elab.async false
variable {s₀ s : State}

/-! #### The loader (LoaderOps) -/

/-- The loader's own fields change, but neither its state nor its buffers. -/
theorem Moves.loaderNote (h : Moves s₀ s) (l : Loader) (hstate : l.state = s.loader.state)
    (ha : l.bufferA = s.loader.bufferA) (hb : l.bufferB = s.loader.bufferB) :
    Moves s₀ { s with loader := l } := by
  refine h.loader l hstate fun name x hx => .inl ⟨x, ?_, rfl⟩
  cases name with
  | a => exact ha.symm.trans hx
  | b => exact hb.symm.trans hx

@[simp] theorem Loader.buffer_setBuffer (l : Loader) (name m : BufferName) (v : Option Buffer) :
    (l.setBuffer name v).buffer m = if name = m then v else l.buffer m := by
  cases name <;> cases m <;> rfl

@[simp] theorem Loader.setBuffer_state (l : Loader) (name : BufferName) (v : Option Buffer) :
    (l.setBuffer name v).state = l.state := by cases name <;> rfl

theorem touchLoader_moves (h : Moves s₀ s) : Moves s₀ (touchLoader s) := h.loaderNote _ rfl rfl rfl

theorem commitColumn_moves {b column : Nat} {values : List Int} (h : Moves s₀ s) :
    Moves s₀ (commitColumn b column values s) :=
  (h.dram _ fun hwf => Table.wf_setList zeroes values s.dram _ hwf).modifyBank b (fun _ => rfl)
    (fun _ => rfl) fun _ => rfl

/-- R75: a buffer that becomes empty. -/
theorem emptyBuffer_moves {name : BufferName} (h : Moves s₀ s) :
    Moves s₀ { s with loader := s.loader.setBuffer name none } := by
  refine h.loader _ (by simp) fun m x hx => .inl ⟨x, ?_, rfl⟩
  rw [Loader.buffer_setBuffer] at hx
  split at hx
  · cases hx
  · exact hx

theorem flushBuffer_moves {b : Nat} {name : BufferName} (h : Moves s₀ s) :
    Moves s₀ (flushBuffer b name s) := by
  unfold flushBuffer
  split
  · exact h
  · refine emptyBuffer_moves ?_
    split
    · exact (commitColumn_moves h).modifyBank b (fun _ => rfl) (fun _ => rfl) fun _ => rfl
    · exact commitColumn_moves h

theorem flushBoth_moves {b : Nat} (h : Moves s₀ s) : Moves s₀ (flushBoth b s) :=
  flushBuffer_moves (flushBuffer_moves h)

/-- R75: a flush leaves the loader in its state. -/
@[simp] theorem flushBuffer_loader_state (b : Nat) (name : BufferName) (s : State) :
    (flushBuffer b name s).loader.state = s.loader.state := by
  unfold flushBuffer
  split
  · rfl
  · dsimp only
    split <;> simp

@[simp] theorem flushBoth_loader_state (b : Nat) (s : State) :
    (flushBoth b s).loader.state = s.loader.state := by simp [flushBoth]

theorem columnCount_modifyBank {f : Bank → Bank} (hf : ∀ r, (f r).columnCount = r.columnCount) (s : State)
    (b c : Nat) : ((s.modifyBank b f).bank c).columnCount = (s.bank c).columnCount := by
  rw [State.bank_modifyBank]
  split
  · next hbc => rw [hf, hbc]
  · rfl

/-- R75: a flush leaves every bank its columns. -/
@[simp] theorem flushBuffer_columnCount (b c : Nat) (name : BufferName) (s : State) :
    ((flushBuffer b name s).bank c).columnCount = (s.bank c).columnCount := by
  unfold flushBuffer
  split
  · rfl
  next x _ =>
  have hcommit := columnCount_modifyBank (f := fun r => { r with committed := NatSet.add r.committed x.column })
    (fun _ => rfl) (s.writeColumn b x.column (x.column0 (s.bankRows b))) b c
  dsimp only
  split
  · exact (columnCount_modifyBank (f := fun r => { r with zeroFilled := r.zeroFilled + 1 }) (fun _ => rfl)
      (commitColumn b x.column (x.column0 (s.bankRows b)) s) b c).trans hcommit
  · exact hcommit

theorem commitIfWhole_moves {b : Nat} {name : BufferName} (h : Moves s₀ s) :
    Moves s₀ (commitIfWhole b name s) := by
  unfold commitIfWhole
  split
  · exact h
  split
  · exact emptyBuffer_moves (commitColumn_moves h)
  · exact h

/-- R74: coefficients go into a buffer for a column that it holds, or for a column of the load. -/
theorem fillBuffer_moves {b firstRow : Nat} {name : BufferName} {x : Buffer} {coefficients : List Int}
    (h : Moves s₀ s)
    (hx : (∃ y, s.loader.buffer name = some y ∧ y.column = x.column) ∨
      ∃ c owner, s.loader.state = .loading c owner ∧ x.column < (s.bank c).columnCount) :
    Moves s₀ (fillBuffer b name x firstRow coefficients s) := by
  refine commitIfWhole_moves (h.loader _ (by simp) fun m y hy => ?_)
  change (s.loader.setBuffer name _).buffer m = some y at hy
  rw [Loader.buffer_setBuffer] at hy
  split at hy
  · next hm =>
    subst hm
    cases hy
    exact hx
  · exact .inl ⟨y, hy, rfl⟩

theorem placeCoefficients_moves {b owner column firstRow : Nat} {coefficients : List Int} (h : Moves s₀ s)
    (hload : s.loader.state = .loading b owner) (hcolumn : column < (s.bank b).columnCount) :
    Moves s₀ (placeCoefficients b column firstRow coefficients s) := by
  unfold placeCoefficients
  split
  · split
    · next x hx => exact fillBuffer_moves h (.inl ⟨x, hx, rfl⟩)
    · exact h
  · split
    · exact commitColumn_moves h
    · exact fillBuffer_moves (flushBuffer_moves h) (.inr ⟨b, owner, by simpa using hload, by simpa using hcolumn⟩)

/-- R71: a load opens in a bank that is in no use. -/
theorem openLoad_moves {b rows columns shift block owner : Nat} (h : Moves s₀ s)
    (hold : (s.loader.state = .idle ∧ b < 2 ∧ (s.bank b).state.inUse = false) ∨
      s.loader.state.bank = some b)
    (hrows : rows ≤ 1024) (hcolumns : columns ≤ 8192) :
    Moves s₀ (openLoad b rows columns shift block owner s) :=
  h.load (openedBank rows columns shift block) _ hold (.inr ⟨hrows, hcolumns⟩) ⟨rfl, rfl, rfl, rfl⟩

theorem abortLoad_moves {b : Nat} (h : Moves s₀ s) (hload : s.loader.state.bank = some b) :
    Moves s₀ (abortLoad b s) :=
  h.load (Bank.reset b) _ (.inr hload) (.inr ⟨Nat.zero_le _, Nat.zero_le _⟩) rfl

/-- R72: a load that takes over begins as if the old one had been abandoned. -/
theorem openLoad_emptyOldLoad (old b rows columns shift block owner : Nat) (s : State) :
    openLoad b rows columns shift block owner (emptyOldLoad old s) =
      openLoad b rows columns shift block owner (abortLoad old s) := rfl

theorem beginVerify_moves {b owner : Nat} {expected : BitVec 32} (h : Moves s₀ s)
    (hload : s.loader.state.bank = some b) : Moves s₀ (beginVerify b owner expected s) :=
  h.load { s.bank b with
    state := .verifying, expectedCrc := some expected, verified := 0, outcome := none, wholeCrc := none,
    blockCrcs := [], failingColumn := none, unverified := none } _ (.inr hload) (.inl ⟨rfl, rfl⟩) ⟨rfl, rfl⟩

/-- R79, R80: the verify pass ends with the bank LOADED or READY. -/
theorem leaveVerify_moves {b : Nat} {f : Bank → Bank} (h : Moves s₀ s)
    (hload : s.loader.state.bank = some b) (hstate : ∀ r, (f r).state.replaceable = true)
    (hrows : ∀ r, (f r).rows = r.rows) (hcolumns : ∀ r, (f r).columns = r.columns) :
    Moves s₀ (raise .loadDone (idleLoader (s.modifyBank b f))) :=
  raise_moves (h.load (f (s.bank b)) _ (.inr hload) (.inl ⟨hrows _, hcolumns _⟩) (hstate _))

theorem endVerify_moves {b owner : Nat} (h : Moves s₀ s) (hload : s.loader.state.bank = some b) :
    Moves s₀ (endVerify b owner s) := by
  refine leaveVerify_moves h hload (fun r => ?_) (fun r => ?_) fun r => ?_ <;> split <;> rfl

theorem failVerify_moves {b owner j : Nat} (h : Moves s₀ s) (hload : s.loader.state.bank = some b) :
    Moves s₀ (failVerify b owner j s) :=
  leaveVerify_moves h hload (fun _ => rfl) (fun _ => rfl) fun _ => rfl

theorem readColumn_moves {b j : Nat} (h : Moves s₀ s) : Moves s₀ (readColumn b j s) := by
  refine Moves.loaderNote (s := s.setBank b _) (h.bank b _ ?_ ?_ ?_) _ ?_ ?_ ?_ <;> rfl

theorem verifyColumn_moves {b owner : Nat} {uncorrectable : Bool} (h : Moves s₀ s)
    (hload : s.loader.state.bank = some b) : Moves s₀ (verifyColumn b owner uncorrectable s) := by
  unfold verifyColumn
  dsimp only
  split
  · exact h
  split
  · exact failVerify_moves h hload
  split
  · exact endVerify_moves (readColumn_moves h) hload
  · exact readColumn_moves h

theorem uncommitBlock_moves {b block : Nat} (h : Moves s₀ s) : Moves s₀ (uncommitBlock b block s) :=
  h.modifyBank b (fun _ => rfl) (fun _ => rfl) fun _ => rfl

theorem markReopened_moves (h : Moves s₀ s) : Moves s₀ (markReopened s) :=
  touchLoader_moves (h.loaderNote { s.loader with reopened := true } rfl rfl rfl)

/-- R83: a LOADED bank is loaded again. -/
theorem reopenLoaded_moves {b block owner : Nat} (h : Moves s₀ s) (hidle : s.loader.state = .idle)
    (hb : b < 2) (hloaded : (s.bank b).state = .loaded) : Moves s₀ (reopenLoaded b block owner s) := by
  have hstate : ((uncommitBlock b block s).bank b).state = .loaded := by simp [uncommitBlock, hloaded]
  refine markReopened_moves ((uncommitBlock_moves (b := b) (block := block) h).load
    { (uncommitBlock b block s).bank b with state := .loading, recordedOwner := none }
    { s.loader with state := .loading b owner, bufferA := none, bufferB := none }
    (.inl ⟨by simpa using hidle, hb, by rw [hstate]; rfl⟩) (.inl ⟨rfl, rfl⟩) ⟨rfl, rfl, rfl, rfl⟩)

/-! #### The links and the engine's events -/

theorem onReceiver_moves {n : Nat} {f : State → State} (h : Moves s₀ s) (hf : Moves s₀ (f s)) :
    Moves s₀ (onReceiver n f s) := by
  unfold onReceiver
  split
  · exact hf
  · exact h

theorem onDriveLink_moves {l : Nat} {f : State → State} (h : Moves s₀ s) (hf : Moves s₀ (f s)) :
    Moves s₀ (onDriveLink l f s) := by
  unfold onDriveLink
  split
  · exact hf
  · exact h

theorem lineDown_moves {n : Nat} (h : Moves s₀ s) : Moves s₀ (lineDown n s) := by
  unfold lineDown
  split
  · exact raise_moves (h.modifyReceiver n fun _ => .inl rfl)
  · exact h

theorem lockGained_moves {n : Nat} (h : Moves s₀ s) : Moves s₀ (lockGained n s) := by
  unfold lockGained
  split
  · exact h.modifyReceiver n fun _ => .inl rfl
  · exact h

theorem cutReception_moves {n : Nat} (h : Moves s₀ s) : Moves s₀ (cutReception n s) := by
  unfold cutReception
  split
  · exact h.modifyReceiver n fun _ => .inl rfl
  · exact h

theorem Receiver.gather_queue (r : Receiver) (bytes : List Byte) : (r.gather bytes).queue = r.queue := by
  unfold gather
  split <;> rfl

theorem beginReception_moves {n : Nat} {gathered : List Byte} (h : Moves s₀ s) :
    Moves s₀ (beginReception n gathered s) := by
  unfold beginReception
  split
  · exact (cutReception_moves h).modifyReceiver n fun r => .inl (r.gather_queue gathered)
  · exact h

theorem arrive_moves {n : Nat} {bytes : List Byte} (h : Moves s₀ s) : Moves s₀ (arrive n bytes s) := by
  unfold arrive
  split
  · have hended := h.modifyReceiver n (f := fun r => { r with reception := none }) fun _ => .inl rfl
    dsimp only
    split
    · exact hended.modifyReceiver n fun _ => .inl rfl
    · exact hended.modifyReceiver n fun _ => .inl rfl
    · exact hended.modifyReceiver n fun _ => .inl rfl
    · exact settle_moves (hended.join n _)
  · exact h

theorem workNextSlope_moves {w : SegmentWork} {slope : Int} {rest : List Int} {uncorrectable : List Nat}
    (h : Moves s₀ s) : Moves s₀ (workNextSlope w slope rest uncorrectable s) := by
  unfold workNextSlope
  extract_lets number s1 s2
  have h1 : Moves s₀ s1 := workSlope_moves h
  have h2 : Moves s₀ (segmentStep w rest s1) := h1.of_frame
  split
  · exact settle_moves h2
  · exact h2

theorem checkShape_moves {w : StageFrame} (h : Moves s₀ s) : Moves s₀ (checkShape w s) := by
  unfold checkShape
  dsimp only
  split
  · exact handOver_moves h
  · exact settle_moves (strokeDrop_moves h)

/-! #### The drive links' events -/

theorem stickLink_moves {l : Nat} {order : SafeOrder} {between : State → State} (h : Moves s₀ s)
    (hb : ∀ u : State, Moves s₀ u → Moves s₀ (between u)) : Moves s₀ (stickLink l order between s) := by
  unfold stickLink
  split
  · exact dropAndSafe_moves (h.modifyDriveLink _ _) hb
  · exact h

theorem takeTaken_moves {l : Nat} {number : Byte} {uncorrectable : List Nat} (h : Moves s₀ s) :
    Moves s₀ (takeTaken l number uncorrectable s) := by
  unfold takeTaken
  extract_lets r late s1
  have h1 : Moves s₀ s1 := h.modifyDriveLink l _
  split
  · refine settle_moves ?_
    split
    · exact checkEnd_moves h1
    · exact pulseIfLoaded_moves h1
  · exact h.of_frame

theorem refusedOutcome_moves {reason : RefuseReason} {order : SafeOrder} {f : Option Frame}
    {between : State → State} (h : Moves s₀ s) (hb : ∀ u : State, Moves s₀ u → Moves s₀ (between u)) :
    Moves s₀ (refusedOutcome reason order f between s) := by
  cases reason with
  | crc | length => exact settle_moves (dropTransaction_moves h)
  | channelFault => exact dropAndSafe_moves h hb

theorem lateRefused_moves {reason : RefuseReason} {f : Option Frame} {between : State → State}
    (h : Moves s₀ s) (hb : ∀ u : State, Moves s₀ u → Moves s₀ (between u)) :
    Moves s₀ (lateRefused reason f between s) := by
  cases reason with
  | crc | length => exact checkEnd_moves h
  | channelFault => exact enterSafe_moves (hb _ (checkEnd_moves h))

theorem takeRefused_moves {l : Nat} {number : Byte} {reason : RefuseReason} {order : SafeOrder}
    {between : State → State} (h : Moves s₀ s) (hb : ∀ u : State, Moves s₀ u → Moves s₀ (between u)) :
    Moves s₀ (takeRefused l number reason order between s) := by
  unfold takeRefused
  dsimp only
  split
  · split
    · exact lateRefused_moves (h.setDriveLink _ _) hb
    · exact refusedOutcome_moves (h.setDriveLink _ _) hb
  · exact h.of_frame

theorem expireReply_moves {l : Nat} (h : Moves s₀ s) : Moves s₀ (expireReply l s) := by
  unfold expireReply
  dsimp only
  split
  · split
    · exact checkEnd_moves (h.setDriveLink _ _)
    · exact settle_moves (dropTransaction_moves (h.setDriveLink _ _))
  · exact h

theorem noteApplied_moves {l : Nat} (h : Moves s₀ s) : Moves s₀ (noteApplied l s) := h.of_frame

theorem takeApplied_moves {l : Nat} {number : Byte} (h : Moves s₀ s) :
    Moves s₀ (takeApplied l number s) := by
  unfold takeApplied
  split
  · exact checkEnd_moves (noteApplied_moves (h.modifyDriveLink _ _))
  · exact h.of_frame

theorem reportApplyTimeout_moves (h : Moves s₀ s) : Moves s₀ (reportApplyTimeout s) := by
  unfold reportApplyTimeout
  split
  · exact h
  split
  · exact reportDrive_moves (h.withDrive _)
  · exact h

theorem expireApply_moves {l : Nat} (h : Moves s₀ s) : Moves s₀ (expireApply l s) := by
  unfold expireApply
  split
  · exact checkEnd_moves (reportApplyTimeout_moves (raise_moves (h.modifyDriveLink _ _)))
  · exact h

theorem takeFault_moves {l : Nat} {order : SafeOrder} {between : State → State} (h : Moves s₀ s)
    (hb : ∀ u : State, Moves s₀ u → Moves s₀ (between u)) : Moves s₀ (takeFault l order between s) := by
  have hfault : Moves s₀ (faultLink l s) := raise_moves (h.modifyDriveLink _ _)
  have hleft : Moves s₀ (leaveTransaction l (faultLink l s)) := hfault.of_frame
  unfold takeFault afterFault
  dsimp only
  split
  · exact enterSafe_moves (hb _ hfault)
  split
  · exact enterSafe_moves (hb _ (checkEnd_moves (hfault.withDrive _)))
  split
  · exact enterSafe_moves (hb _ (checkEnd_moves hleft))
  split
  · exact enterSafe_moves (hb _ hleft)
  · exact dropAndSafe_moves hleft hb

/-! #### Requests: taking and answering -/

theorem takeFrame_moves {env : Envelope} (h : Moves s₀ s) : Moves s₀ (takeFrame env s) := h.of_frame

theorem conclude_moves {env : Envelope} {code : Nat} {v : Verdict} (h : Moves s₀ v.after) :
    Moves s₀ (conclude env code v) := by
  have hreply : ∀ {u : State} {status clamped payload}, Moves s₀ u →
      Moves s₀ (replyWith env status clamped payload u) := fun hu => hu.of_frame
  have hrefusal : ∀ {u : State} {status}, Moves s₀ u → Moves s₀ (reportRefusal env code status u) :=
    fun hu => hu.of_frame
  cases v with
  | ok payload clamped t => exact hreply h
  | accepted t => exact hreply h
  | refused status position detail value owner t => exact hreply (hrefusal (h.withPort _))

theorem takeRequest_moves {env : Envelope} {code : Nat} {body : State → Verdict} (h : Moves s₀ s)
    (hbody : ∀ u : State, Moves s₀ u → Moves s₀ (body u).after) :
    Moves s₀ (takeRequest env code body s) := by
  unfold takeRequest
  split
  · exact h.withPort _
  split
  · exact h
  · refine conclude_moves ?_
    unfold verdictOf
    split
    · exact takeFrame_moves h
    · exact hbody _ (takeFrame_moves h)

/-- A payload that does not match its fields changes nothing (R205). -/
theorem whenFits_moves {env : Envelope} {body : Verdict} (h : Moves s₀ s) (hbody : Moves s₀ body.after) :
    Moves s₀ (whenFits env s body).after := by
  unfold whenFits
  split
  · exact hbody
  · exact h

/-! #### Requests: tables, links and sensors -/

theorem takeEdit_moves {e : Edit} (h : Moves s₀ s) : Moves s₀ (takeEdit e s).after := by
  unfold takeEdit
  split
  · split
    · exact h
    · next hroom => exact h.hold _ (by simpa using Nat.lt_of_not_le hroom)
  · exact settleLinks_moves (h.withTable _)

theorem actCountBody_moves {env : Envelope} {n : Nat} (h : Moves s₀ s) :
    Moves s₀ (actCountBody env n s).after := by
  refine whenFits_moves h ?_
  iterate 5
    split
    · exact h
  · exact settleLinks_moves (h.withTable _)

theorem actWriteBody_moves {env : Envelope} {first : Nat} {records : List ActFields} (h : Moves s₀ s) :
    Moves s₀ (actWriteBody env first records s).after := by
  refine whenFits_moves h ?_
  iterate 4
    split
    · exact h
  · exact takeEdit_moves h

theorem actModeBody_moves {env : Envelope} {a mode : Nat} {value : Option Nat} (h : Moves s₀ s) :
    Moves s₀ (actModeBody env a mode value s).after := by
  refine whenFits_moves h ?_
  split
  · exact h
  split
  · exact h
  · exact h
  · dsimp only
    split
    · exact h
    · exact takeEdit_moves h
  · exact h
  · exact takeEdit_moves h

theorem pairWriteBody_moves {env : Envelope} {a b dmax : Nat} (h : Moves s₀ s) :
    Moves s₀ (pairWriteBody env a b dmax s).after := by
  refine whenFits_moves h ?_
  dsimp only
  iterate 8
    split
    · exact h
  · exact takeEdit_moves h

theorem pairRemoveBody_moves {env : Envelope} {a b : Nat} (h : Moves s₀ s) :
    Moves s₀ (pairRemoveBody env a b s).after := by
  refine whenFits_moves h ?_
  iterate 3
    split
    · exact h
  · exact takeEdit_moves h

theorem Moves.setSensor (h : Moves s₀ s) (n : Nat) (r : Sensor) : Moves s₀ (s.setSensor n r) := h.of_frame

/-- R27: the changed marks. -/
theorem markSlot_moves {n k : Nat} (h : Moves s₀ s) : Moves s₀ (markSlot n k s) := by
  unfold markSlot
  split
  · exact h.modifySlot k (fun _ => rfl) Iff.rfl
  · exact h

theorem markChanged_moves {n : Nat} (h : Moves s₀ s) : Moves s₀ (markChanged n s) :=
  markSlot_moves (markSlot_moves h)

theorem sensorScaleBody_moves {env : Envelope} {n scale : Nat} (h : Moves s₀ s) :
    Moves s₀ (sensorScaleBody env n scale s).after := by
  refine whenFits_moves h ?_
  split
  · exact h
  · exact markChanged_moves (h.setSensor _ _)

theorem refWriteBody_moves {env : Envelope} {n first count : Nat} {offsets : List Int} (h : Moves s₀ s) :
    Moves s₀ (refWriteBody env n first count offsets s).after := by
  unfold refWriteBody
  iterate 5
    split
    · exact h
  · exact markChanged_moves (h.setSensor _ _)

theorem mapWriteBody_moves {env : Envelope} {entries : List MapEntry} (h : Moves s₀ s) :
    Moves s₀ (mapWriteBody env entries s).after := by
  refine whenFits_moves h ?_
  iterate 4
    split
    · exact h
  · exact (h.store [] fun _ => rfl).of_frame (t := { s with slopeMap := entries, store := [] })

theorem linkCountersClearBody_moves {env : Envelope} {kind n : Nat} (h : Moves s₀ s) :
    Moves s₀ (linkCountersClearBody env kind n s).after := by
  refine whenFits_moves h ?_
  split
  · exact h
  · split
    · exact h.modifyReceiver n fun _ => .inl rfl
    · exact h
  · split
    · exact h.of_frame
    · exact h

/-! #### Requests: the loader and the swaps -/

theorem loadOpenTest_moves {b rows columns shift block master : Nat} (h : Moves s₀ s) (hb : b < 2)
    (hrows : rows ≤ 1024) (hcolumns : columns ≤ 8192) (huse : (s.bank b).state.inUse = false) :
    Moves s₀ (loadOpenTest b rows columns shift block master s).after := by
  unfold loadOpenTest
  split
  · next hidle =>
    split
    · exact openLoad_moves h (.inl ⟨hidle, hb, huse⟩) hrows hcolumns
    · exact h
  · next old owner hload =>
    split
    · next hown => exact openLoad_moves h (.inr (by rw [hload, hown.1]; rfl)) hrows hcolumns
    split
    · have hempty : ((abortLoad old s).bank b).state.inUse = false := by
        show ((s.setBank old (Bank.reset old)).bank b).state.inUse = false
        rw [State.bank_setBank]
        split
        · rfl
        · exact huse
      rw [openLoad_emptyOldLoad]
      exact openLoad_moves (abortLoad_moves h (by rw [hload]; rfl)) (.inl ⟨rfl, hb, hempty⟩) hrows hcolumns
    · exact h
  · exact h

theorem actuators_le (v : Variant) : Config.actuators v ≤ 1024 := by cases v <;> decide

theorem columns_le (v : Variant) : Config.columns v ≤ 8192 := by cases v <;> decide

theorem loadOpenBody_moves {env : Envelope} {bank rows columns shift block : Nat} (h : Moves s₀ s) :
    Moves s₀ (loadOpenBody env bank rows columns shift block s).after := by
  refine whenFits_moves h ?_
  iterate 8
    split
    · exact h
  · next hbank _ _ _ _ hrows hcolumns huse =>
    exact loadOpenTest_moves h (by omega) ((Nat.le_of_not_lt hrows).trans (actuators_le _))
      ((Nat.le_of_not_lt hcolumns).trans (columns_le _)) (by simpa using huse)

theorem whenLoading_moves {env : Envelope} {act : Nat → Nat → Verdict} (h : Moves s₀ s)
    (hact : ∀ b owner, s.loader.state = .loading b owner → Moves s₀ (act b owner).after) :
    Moves s₀ (whenLoading env s act).after := by
  unfold whenLoading
  split
  · exact h
  · next hload =>
    split
    · exact hact _ _ hload
    · exact h
  · split
    · exact h
    · exact h

theorem loadSegmentBody_moves {env : Envelope} {column firstRow : Nat} {coefficients : List Int}
    (h : Moves s₀ s) : Moves s₀ (loadSegmentBody env column firstRow coefficients s).after := by
  refine whenFits_moves h ?_
  iterate 2
    split
    · exact h
  refine whenLoading_moves h fun b owner hload => ?_
  iterate 3
    split
    · exact h
  · next hcolumn _ _ =>
    exact placeCoefficients_moves (touchLoader_moves h) hload (Nat.lt_of_not_le hcolumn)

theorem loadFlushBody_moves {env : Envelope} (h : Moves s₀ s) : Moves s₀ (loadFlushBody env s).after :=
  whenFits_moves h (whenLoading_moves h fun _ _ _ => touchLoader_moves (flushBoth_moves h))

theorem loadCloseBody_moves {env : Envelope} {expected : BitVec 32} (h : Moves s₀ s) :
    Moves s₀ (loadCloseBody env expected s).after := by
  refine whenFits_moves h (whenLoading_moves h fun b owner hload => ?_)
  have hflushed : Moves s₀ (touchLoader (flushBoth b s)) := touchLoader_moves (flushBoth_moves h)
  have hbank : (touchLoader (flushBoth b s)).loader.state.bank = some b := by
    simp [touchLoader, hload, LoaderState.bank]
  dsimp only
  split
  · exact hflushed
  · exact beginVerify_moves hflushed hbank

theorem loadAbortBody_moves {env : Envelope} (h : Moves s₀ s) : Moves s₀ (loadAbortBody env s).after := by
  refine whenFits_moves h ?_
  split
  · exact h
  all_goals
    next hload =>
    split
    · exact abortLoad_moves h (by rw [hload]; rfl)
    · exact h

theorem blockReopenBody_moves {env : Envelope} {bank block : Nat} (h : Moves s₀ s) :
    Moves s₀ (blockReopenBody env bank block s).after := by
  refine whenFits_moves h ?_
  split
  · exact h
  next hbank =>
  dsimp only
  split
  · next hloaded =>
    iterate 3
      split
      · exact h
    · next hidle _ _ => exact reopenLoaded_moves h (by simpa using hidle) (by omega) hloaded
  · iterate 3
      split
      · exact h
    · exact markReopened_moves (uncommitBlock_moves h)
  · exact h

theorem bankClearBody_moves {env : Envelope} {bank : Nat} (h : Moves s₀ s) :
    Moves s₀ (bankClearBody env bank s).after := by
  refine whenFits_moves h ?_
  split
  · exact h
  split
  · next hbank => exact h.clear bank hbank
  · exact h

theorem running_eq_false_iff {l : LoopState} : l.running = false ↔ l = .stopped ∨ l = .safe := by
  cases l <;> simp [LoopState.running]

theorem swapBody_moves {env : Envelope} {bank : Nat} {atFrame : Option Frame} (h : Moves s₀ s) :
    Moves s₀ (swapBody env bank atFrame s).after := by
  refine whenFits_moves h ?_
  iterate 6
    split
    · exact h
  next hbank hsafe hpending hready _ _ =>
  rw [not_not] at hready
  split
  · next hstop => exact h.swapNow (by omega) hready (by rw [hstop]; rfl)
  · next hstop =>
    have hrun : s.loop.state.running = true := by
      rw [← Bool.not_eq_false, running_eq_false_iff]
      exact fun hrest => hrest.elim hstop hsafe
    split
    · exact h
    · exact h.swapLater atFrame (by omega) hready hrun (by simpa using hpending)

/-! #### Requests: the loop -/

theorem done_moves {t : State} (h : Moves s₀ t) : Moves s₀ (Verdict.done t).after := h

theorem tracking_moves {target : Target} {cause : LoopCause} {f : Option Frame} (h : Moves s₀ s)
    (hrun : s.loop.state.running = true ∨ s.activeBank.isSome = true) :
    Moves s₀ (Verdict.done (enterTracking target cause f s)).after := enterTracking_moves h hrun

theorem leaveHold_moves {target : Target} {cause : LoopCause} (h : Moves s₀ s)
    (hrun : s.loop.state.running = true) : Moves s₀ (leaveHold target cause s).after := by
  unfold leaveHold
  split
  · exact h
  · exact tracking_moves h (.inl hrun)

theorem openFromStopped_moves (h : Moves s₀ s) : Moves s₀ (openFromStopped s).after := by
  unfold openFromStopped
  split
  · exact h
  split
  · exact h
  next hactive =>
  iterate 4
    split
    · exact h
  · exact tracking_moves h (.inr (by simp [hactive]))

theorem openNow_moves (h : Moves s₀ s) : Moves s₀ (openNow s).after := by
  unfold openNow
  split
  · exact openFromStopped_moves h
  · exact h
  · next hstate => exact tracking_moves h (.inl (by rw [hstate]; rfl))
  · next hstate => exact leaveHold_moves h (by rw [hstate]; rfl)
  · exact h

theorem closeNow_moves (h : Moves s₀ s) : Moves s₀ (closeNow s).after := by
  unfold closeNow
  split
  · exact h
  · next hstate => exact tracking_moves h (.inl (by rw [hstate]; rfl))
  · exact h
  · next hstate => exact leaveHold_moves h (by rw [hstate]; rfl)
  · exact h

theorem schedule_moves {env : Envelope} {target : Target} {f : Frame} (h : Moves s₀ s) :
    Moves s₀ (schedule env target f s).after := by
  unfold schedule
  split
  · exact h
  next htracking =>
  have hrun : s.loop.state.running = true := by
    cases hstate : s.loop.state <;> simp_all [LoopState.running]
  have hwaiting := fun p => h.loop { s.loop with pendingTransition := some p } (.inl hrun) hrun
  split
  · exact h
  split
  · split
    · exact hwaiting _
    · exact h
  · exact hwaiting _

theorem loopOpenBody_moves {env : Envelope} {atFrame : Option Frame} (h : Moves s₀ s) :
    Moves s₀ (loopOpenBody env atFrame s).after := by
  refine whenFits_moves h ?_
  cases atFrame with
  | none => exact openNow_moves h
  | some f => exact schedule_moves h

theorem loopCloseBody_moves {env : Envelope} {atFrame : Option Frame} (h : Moves s₀ s) :
    Moves s₀ (loopCloseBody env atFrame s).after := by
  refine whenFits_moves h ?_
  cases atFrame with
  | none => exact closeNow_moves h
  | some f => exact schedule_moves h

theorem loopStopBody_moves {env : Envelope} (h : Moves s₀ s) : Moves s₀ (loopStopBody env s).after := by
  refine whenFits_moves h ?_
  split
  · exact h
  · exact done_moves (enterStopped_moves h)

theorem flattenBody_moves {env : Envelope} (h : Moves s₀ s) : Moves s₀ (flattenBody env s).after := by
  refine whenFits_moves h ?_
  iterate 2
    split
    · exact h
  · exact beginBiasSend_moves h

theorem loopConfigBody_moves {env : Envelope} {deadline missed stroke drive : Nat} (h : Moves s₀ s) :
    Moves s₀ (loopConfigBody env deadline missed stroke drive s).after :=
  whenFits_moves h (h.withLoop { s.loop with
    deadline := clamp 20 5000 deadline, missedThreshold := clamp 1 255 missed,
    strokeThreshold := clamp 1 255 stroke, driveThreshold := clamp 1 255 drive } rfl rfl)

/-! #### Requests: scan, telemetry and the port -/

theorem scanStartBody_moves {env : Envelope} {low high amplitude dwell pattern cycles : Nat}
    (h : Moves s₀ s) : Moves s₀ (scanStartBody env low high amplitude dwell pattern cycles s).after := by
  refine whenFits_moves h ?_
  iterate 3
    split
    · exact h
  split
  · exact h
  next hstate =>
  rw [not_not] at hstate
  iterate 2
    split
    · exact h
  · exact h.scan _ (.inl (by rw [hstate]; rfl))

theorem telemPopBody_moves {env : Envelope} {count : Nat} (h : Moves s₀ s) :
    Moves s₀ (telemPopBody env count s).after := by
  refine whenFits_moves h ?_
  split
  · exact h
  · exact h.telem _ (by simp)

theorem resetSoftBody_moves {env : Envelope} (h : Moves s₀ s) : Moves s₀ (resetSoftBody env s).after := by
  refine whenFits_moves h ?_
  split
  · exact h.softReset
  · exact h.withPort _

/-! ### Every command is a chain of moves -/

/-- Every next state that an outcome gives is one that moves lead to. -/
def leadsByMoves (s₀ : State) (o : Host.Outcome State Fault Refusal) : Prop := ∀ t, o = .next t → Moves s₀ t

theorem next_leadsByMoves (h : Moves s₀ s) : leadsByMoves s₀ (.next s) := by
  rintro t ⟨⟩
  exact h

theorem awake_leadsByMoves {f : State → State} (h : Moves s₀ s) (hf : Moves s₀ (f s)) :
    leadsByMoves s₀ (awake s f) := by
  refine next_leadsByMoves ?_
  split
  · exact h
  · exact hf

theorem request_leadsByMoves {env : Envelope} {code : Nat} {body : State → Verdict} (h : Moves s₀ s)
    (hbody : ∀ u : State, Moves s₀ u → Moves s₀ (body u).after) :
    leadsByMoves s₀ (request env code body s) :=
  awake_leadsByMoves h (takeRequest_moves h hbody)

/-- Every request is a chain of moves; an event is no request. -/
theorem runRequest_leadsByMoves {i : Instr} (h : Moves s₀ s) : leadsByMoves s₀ (runRequest i s) := by
  cases i
  case linkCountersClear => exact request_leadsByMoves h fun _ hu => linkCountersClearBody_moves hu
  case sensorScale => exact request_leadsByMoves h fun _ hu => sensorScaleBody_moves hu
  case refWrite => exact request_leadsByMoves h fun _ hu => refWriteBody_moves hu
  case mapWrite => exact request_leadsByMoves h fun _ hu => mapWriteBody_moves hu
  case loadOpen => exact request_leadsByMoves h fun _ hu => loadOpenBody_moves hu
  case loadSegment => exact request_leadsByMoves h fun _ hu => loadSegmentBody_moves hu
  case loadFlush => exact request_leadsByMoves h fun _ hu => loadFlushBody_moves hu
  case loadClose => exact request_leadsByMoves h fun _ hu => loadCloseBody_moves hu
  case loadAbort => exact request_leadsByMoves h fun _ hu => loadAbortBody_moves hu
  case blockReopen => exact request_leadsByMoves h fun _ hu => blockReopenBody_moves hu
  case bankClear => exact request_leadsByMoves h fun _ hu => bankClearBody_moves hu
  case swap => exact request_leadsByMoves h fun _ hu => swapBody_moves hu
  case swapCancel => exact request_leadsByMoves h fun _ hu => whenFits_moves hu hu.cancel
  case actCount => exact request_leadsByMoves h fun _ hu => actCountBody_moves hu
  case actWrite => exact request_leadsByMoves h fun _ hu => actWriteBody_moves hu
  case actMode => exact request_leadsByMoves h fun _ hu => actModeBody_moves hu
  case pairWrite => exact request_leadsByMoves h fun _ hu => pairWriteBody_moves hu
  case pairRemove => exact request_leadsByMoves h fun _ hu => pairRemoveBody_moves hu
  case loopOpen => exact request_leadsByMoves h fun _ hu => loopOpenBody_moves hu
  case loopClose => exact request_leadsByMoves h fun _ hu => loopCloseBody_moves hu
  case loopStop => exact request_leadsByMoves h fun _ hu => loopStopBody_moves hu
  case loopSafe => exact request_leadsByMoves h fun _ hu => whenFits_moves hu (enterSafe_moves hu)
  case flatten => exact request_leadsByMoves h fun _ hu => flattenBody_moves hu
  case loopConfig => exact request_leadsByMoves h fun _ hu => loopConfigBody_moves hu
  case scanStart => exact request_leadsByMoves h fun _ hu => scanStartBody_moves hu
  case scanStop => exact request_leadsByMoves h fun _ hu => whenFits_moves hu (scanAbort_moves hu)
  case telemPop => exact request_leadsByMoves h fun _ hu => telemPopBody_moves hu
  case telemReset =>
    exact request_leadsByMoves h fun _ hu => whenFits_moves hu (hu.telem _ (Nat.zero_le _))
  case resetSoft => exact request_leadsByMoves h fun _ hu => resetSoftBody_moves hu
  case mapRead | slotStatus | engineStatus | gainRead | stageStatus | loopStatus | scanStatus | telemStatus |
      ident | portStatus | faultDetail | attnRead =>
    exact request_leadsByMoves h fun _ hu => whenFits_moves hu hu
  case linkStatus | sensorRole | sensorTag | sensorCount | sensorRead | refRead | storeRead | loadStatus |
      actRead | gainWrite | pairRead | linkReset | linkConfig | telemSelect | captureRead | featureSet |
      featureGet | attnMask | attnAck =>
    refine request_leadsByMoves h fun _ hu => whenFits_moves hu ?_
    repeat' split
    all_goals exact hu.of_frame
  all_goals exact next_leadsByMoves h

/-! #### Complete frames (R186 to R188) -/

theorem requestFrame_leadsByMoves {bytes : List Byte} {uncorrectable : List Nat} (h : Moves s₀ s) :
    leadsByMoves s₀ (execRequestFrameComplete bytes uncorrectable s) := by
  have hbegun := h.withPort { s.port with reception := none }
  unfold execRequestFrameComplete
  split
  · exact next_leadsByMoves h
  unfold checkFrame
  dsimp only
  split
  · exact next_leadsByMoves (hbegun.withPort _)
  split
  · exact next_leadsByMoves (hbegun.withPort _)
  unfold checkSound
  split
  · exact next_leadsByMoves (hbegun.withPort _)
  split
  · unfold takeSound
    split
    · exact runRequest_leadsByMoves hbegun
    · exact next_leadsByMoves (conclude_moves (takeFrame_moves hbegun))
  · exact next_leadsByMoves hbegun

/-- R154: what a frame does between the act of a link and the entry to SAFE. -/
theorem takeBetween_moves (between : Option BusFrame) (u : State) (h : Moves s₀ u) :
    Moves s₀ (takeBetween between u) := by
  cases between with
  | none => exact h
  | some f =>
    rcases takeBetween_frame f u with hnext | hsame
    · exact requestFrame_leadsByMoves h _ hnext
    · rw [hsame]
      exact h

/-! #### The dispatch -/

/-- R63: RESIDUALS_DONE ends the pass of a slot that is not FREE. -/
theorem residualsDone_leadsByMoves (h : Moves s₀ s)
    (hpass : ∀ w, s.engine.work = .fill w → Moves s₀ (finishPass w.slot s)) :
    leadsByMoves s₀ (exec .residualsDone s) := by
  unfold exec execResidualsDone
  refine awake_leadsByMoves h ?_
  split
  · next w hw =>
    split
    · exact h
    · exact settle_moves (hpass w hw)
  · exact h

/-- Every command but RESIDUALS_DONE, which needs to know that its slot is not FREE: the events one by one,
then the requests. -/
theorem exec_leadsByMoves {i : Instr} (h : Moves s₀ s) (hi : i ≠ .residualsDone) :
    leadsByMoves s₀ (exec i s) := by
  have hrequest : leadsByMoves s₀ (runRequest i s) := runRequest_leadsByMoves h
  cases i
  case residualsDone => exact absurd rfl hi
  case lockAchieved => exact awake_leadsByMoves h (onReceiver_moves h (lockGained_moves h))
  case lossOfLock => exact awake_leadsByMoves h (onReceiver_moves h (lineDown_moves h))
  case silenceTimerExpiry =>
    refine awake_leadsByMoves h (onReceiver_moves h ?_)
    split
    · exact lineDown_moves h
    · exact h
  case startDelimiter => exact awake_leadsByMoves h (onReceiver_moves h (beginReception_moves h))
  case idleFillCut | excessByte => exact awake_leadsByMoves h (onReceiver_moves h (cutReception_moves h))
  case segmentArrival => exact awake_leadsByMoves h (onReceiver_moves h (arrive_moves h))
  case slopeWork =>
    unfold exec execSlopeWork
    refine awake_leadsByMoves h ?_
    split
    · split
      · exact h
      · exact workNextSlope_moves h
    · exact h
  case deadlineExpiry =>
    refine awake_leadsByMoves h ?_
    split
    · next hopen => exact settle_moves (closeSlot_moves h hopen.1)
    · exact h
  case fillInColumn =>
    unfold exec execFillInColumn
    refine awake_leadsByMoves h ?_
    split
    · split
      · next w _ _ e _ => exact (fillColumn_moves (w := w) (j := e.1) h).withEngine _
      · exact h
    · exact h
  case shapeChecked =>
    unfold exec execShapeChecked
    refine awake_leadsByMoves h ?_
    split
    · exact checkShape_moves h
    · exact h
  case transactionBegin =>
    unfold exec execTransactionBegin
    refine awake_leadsByMoves h ?_
    split
    · exact h
    split
    · exact h
    · exact beginTransaction_moves h
  case recoveryLineIdle => exact awake_leadsByMoves h (onDriveLink_moves h h.of_frame)
  case recoveryWindowExpiry =>
    exact awake_leadsByMoves h (onDriveLink_moves h (stickLink_moves h (takeBetween_moves _)))
  case takenReply => exact awake_leadsByMoves h (onDriveLink_moves h (takeTaken_moves h))
  case refusedReply =>
    exact awake_leadsByMoves h (onDriveLink_moves h (takeRefused_moves h (takeBetween_moves _)))
  case replyTimerExpiry => exact awake_leadsByMoves h (onDriveLink_moves h (expireReply_moves h))
  case returnFrameDiscard =>
    refine awake_leadsByMoves h (onDriveLink_moves h ?_)
    split
    · exact h.of_frame
    · exact h
  case appliedReply => exact awake_leadsByMoves h (onDriveLink_moves h (takeApplied_moves h))
  case applyTimerExpiry => exact awake_leadsByMoves h (onDriveLink_moves h (expireApply_moves h))
  case faultReport =>
    exact awake_leadsByMoves h (onDriveLink_moves h (takeFault_moves h (takeBetween_moves _)))
  case verifyColumnRead =>
    unfold exec execVerifyColumnRead
    refine awake_leadsByMoves h ?_
    split
    · next hload => exact verifyColumn_moves h (by rw [hload]; rfl)
    · exact h
  case busSilenceGap =>
    unfold exec execBusSilenceGap
    exact awake_leadsByMoves h h.of_frame
  case overlengthHeader =>
    unfold exec execOverlengthHeader
    exact awake_leadsByMoves h h.of_frame
  case requestFrameComplete => exact requestFrame_leadsByMoves h
  case replySent =>
    refine awake_leadsByMoves h ?_
    unfold replyDone
    split
    · split
      · exact (h.of_frame (t := clearReply { s with port := { s.port with resetAfterReply := false } })).softReset
      · exact h.withPort _
    · exact h
  case replyLost => exact awake_leadsByMoves h h.of_frame
  case replyWouldHaveEnded =>
    refine awake_leadsByMoves h ?_
    unfold replyEnded
    split
    · exact (h.withPort _).softReset
    · exact h
  case hardReset => exact next_leadsByMoves h.hardReset
  case resetRelease =>
    refine next_leadsByMoves ?_
    unfold releaseReset
    split
    · exact h.of_frame
    · exact h
  all_goals exact hrequest

end
end Sys2Proof.Machine

namespace Sys2Proof.Machine

section
set_option Elab.async false
variable {s t : State}

/-! ### What the compound moves do to the stores -/

/-- A change of every receiver keeps what it keeps of one. -/
theorem forReceivers_keeps {P : Receiver → Prop} {f : Receiver → Receiver} (hf : ∀ r, P r → P (f r))
    (h : ∀ n, P (s.receiver n)) (n : Nat) : P ((s.forReceivers f).receiver n) := by
  suffices ∀ m, P ((s.forReceivers f).receiver m) from this n
  refine List.foldlRecOn (motive := fun u : State => ∀ m, P (u.receiver m)) _ _ h fun u hu k _ m => ?_
  rw [State.receiver_modifyReceiver]
  split
  · exact hf _ (hu k)
  · exact hu m

/-- R40, R47: a slot that becomes FREE releases waiting heads, and leaves the receivers else. -/
theorem freeSlot_receiver (k : Nat) (s : State) (n : Nat) :
    (freeSlot k s).receiver n = s.receiver n ∨
      (freeSlot k s).receiver n = { s.receiver n with headWaiting := false } := by
  unfold freeSlot
  split
  · exact .inl rfl
  · dsimp only
    rw [releaseHeads_receiver]
    split
    · exact .inr (by simp [State.receiver])
    · exact .inl (by simp [State.receiver])

theorem freeSlots_receiver (s : State) (n : Nat) :
    (freeSlots s).receiver n = s.receiver n ∨
      (freeSlots s).receiver n = { s.receiver n with headWaiting := false } := by
  change (freeSlot 1 (freeSlot 0 s)).receiver n = _ ∨ (freeSlot 1 (freeSlot 0 s)).receiver n = _
  obtain h1 | h1 := freeSlot_receiver 1 (freeSlot 0 s) n <;> obtain h0 | h0 := freeSlot_receiver 0 s n <;>
    simp [h1, h0]

theorem freeSlot_queue (k : Nat) (s : State) (n : Nat) :
    ((freeSlot k s).receiver n).queue = (s.receiver n).queue := by
  obtain h | h := freeSlot_receiver k s n <;> rw [h]

/-- R134: a link that is released changes only itself. -/
theorem releaseLink_drive (s : State) (p : TxLink) :
    (releaseLink s p).drive.current = s.drive.current ∧ (releaseLink s p).drive.request = s.drive.request ∧
      (releaseLink s p).drive.biasSend = s.drive.biasSend := by
  unfold releaseLink
  split <;> exact ⟨rfl, rfl, rfl⟩

theorem releaseTransaction_drive (tx : Transaction) (s : State) :
    (releaseTransaction tx s).drive.current = some { tx with dropped := true } ∧
      (releaseTransaction tx s).drive.request = s.drive.request ∧
      (releaseTransaction tx s).drive.biasSend = s.drive.biasSend :=
  List.foldlRecOn (motive := fun u : State => u.drive.current = some { tx with dropped := true } ∧
      u.drive.request = s.drive.request ∧ u.drive.biasSend = s.drive.biasSend) _ _ ⟨rfl, rfl, rfl⟩
    fun u hu p _ => by
      obtain ⟨hcurrent, hrequest, hbias⟩ := releaseLink_drive u p
      rwa [hcurrent, hrequest, hbias]

theorem clearOutstanding_drive (ps : List TxLink) (s : State) :
    (ps.foldl clearOutstanding s).drive.request = s.drive.request ∧
      (ps.foldl clearOutstanding s).drive.biasSend = s.drive.biasSend :=
  List.foldlRecOn (motive := fun u : State =>
      u.drive.request = s.drive.request ∧ u.drive.biasSend = s.drive.biasSend) _ _ ⟨rfl, rfl⟩ fun _ hu _ _ => hu

/-- R137: the end of a SHAPE transaction ends no flight. -/
theorem checkEnd_shape {tx : Transaction} (hcurrent : s.drive.current = some tx) (hkind : tx.kind = .shape) :
    (checkEnd s).loop = s.loop ∧ (checkEnd s).hold = s.hold ∧ (checkEnd s).table = s.table ∧
      (checkEnd s).drive.request = s.drive.request ∧ (checkEnd s).drive.biasSend = s.drive.biasSend := by
  obtain ⟨hrequest, hbias⟩ := clearOutstanding_drive tx.links s
  unfold checkEnd
  simp only [hcurrent]
  split
  · exact ⟨rfl, rfl, rfl, rfl, rfl⟩
  · simp [endTransaction, hkind, hrequest, hbias]

/-- R139: a SHAPE transaction that is abandoned ends no flight. -/
theorem abandonShape_flight (s : State) :
    (abandonShape s).loop = s.loop ∧ (abandonShape s).hold = s.hold ∧ (abandonShape s).table = s.table ∧
      (abandonShape s).drive.biasSend = s.drive.biasSend ∧
      ((abandonShape s).drive.request = s.drive.request ∨ (abandonShape s).drive.request = none) ∧
      ∀ r, (abandonShape s).drive.request = some r → r.kind = .bias := by
  unfold abandonShape
  extract_lets _ s1
  have h1 : s1.loop = s.loop ∧ s1.hold = s.hold ∧ s1.table = s.table ∧ s1.drive.biasSend = s.drive.biasSend ∧
      (s1.drive.request = s.drive.request ∨ s1.drive.request = none) ∧
      ∀ r, s1.drive.request = some r → r.kind = .bias := by
    simp only [s1]
    split
    · next r hr =>
      split
      · exact ⟨rfl, rfl, rfl, rfl, .inr rfl, nofun⟩
      · next hkind =>
        refine ⟨rfl, rfl, rfl, rfl, .inl rfl, fun r' hr' => ?_⟩
        obtain rfl : r = r' := Option.some.inj (hr.symm.trans hr')
        cases hk : r.kind <;> simp_all
    · next hnone => exact ⟨rfl, rfl, rfl, rfl, .inl rfl, fun r hr => by simp [hnone] at hr⟩
  split
  · exact h1
  split
  · next tx _ hshape =>
    obtain ⟨hcurrent, hrequest, hbias⟩ := releaseTransaction_drive tx s1
    obtain ⟨hloop, hhold, htable, hrequest', hbias'⟩ := checkEnd_shape hcurrent hshape.1
    rw [hloop, hhold, htable, hrequest', hbias', hrequest, hbias]
    simpa using h1
  · exact h1

theorem abandonStage_hold_le (s : State) : (abandonStage s).hold.length ≤ s.hold.length := by
  unfold abandonStage
  split
  · exact le_rfl
  · simp [applyHold_hold]

/-- R177: a full FIFO takes no record. -/
theorem offer_fifoBounded {r : Record} {copy : Option CaptureCopy} (h : s.fifoBounded) :
    (offer r copy s).fifoBounded := by
  unfold State.fifoBounded at *
  unfold offer joinFifo
  split
  · split
    · exact h
    split
    · exact h
    · next hroom =>
      dsimp only
      split <;> · simp; omega
  · exact h

/-! #### Blocks after the soft reset (R17, R33, R51, R94, R166, R173, R184) -/

theorem softReset_telem (s : State) : (softReset s).telem = softTelem s.port.features.keep s.telem := by
  unfold softReset
  dsimp only
  split <;> simp

theorem softReset_hold (s : State) : (softReset s).hold = [] := by
  unfold softReset
  dsimp only
  split <;> simp [softTables] <;> split <;> rfl

theorem softReset_store (s : State) :
    (softReset s).store = if s.port.features.keep then s.store else [] := by
  unfold softReset
  dsimp only
  split <;> simp [softTables] <;> split <;> simp_all

theorem softReset_slots (s : State) : (softReset s).slots = [] := by
  unfold softReset
  dsimp only
  split <;> simp

theorem softReset_lastClosed (s : State) : (softReset s).lastClosed = none := by
  unfold softReset
  dsimp only
  split <;> simp

theorem softReset_loop (s : State) : (softReset s).loop = softLoop s.port.features.keep s.loop := by
  unfold softReset
  dsimp only
  split <;> simp

theorem softReset_scan (s : State) : (softReset s).scan = Scan.reset := by
  unfold softReset
  dsimp only
  split <;> simp

theorem softReset_loader (s : State) : (softReset s).loader = softLoader s.loader := by
  unfold softReset
  dsimp only
  split <;> simp [softBanks]

theorem softBanks_bank (keep : Bool) (s : State) (b : Nat) :
    (softBanks keep s).bank b = if b < 2 then softBank keep b (s.bank b) else s.bank b := by
  change ((s.modifyBank 0 (softBank keep 0)).modifyBank 1 (softBank keep 1)).bank b = _
  obtain rfl | rfl | hb : b = 0 ∨ b = 1 ∨ 2 ≤ b := by omega
  · simp
  · simp
  · rw [State.bank_modifyBank, if_neg (by omega), State.bank_modifyBank, if_neg (by omega), if_neg (by omega)]

/-- R94. -/
theorem softReset_bank (s : State) (b : Nat) :
    (softReset s).bank b = if b < 2 then softBank s.port.features.keep b (s.bank b) else s.bank b := by
  have hbanks : (softReset s).banks =
      (softBanks s.port.features.keep (softTables s.port.features.keep { s with port := s.port.soften })).banks := by
    unfold softReset
    dsimp only
    split <;> simp
  have htables : (softTables s.port.features.keep { s with port := s.port.soften }).bank b = s.bank b := by
    simp [State.bank]
  rw [State.bank, hbanks, ← State.bank, softBanks_bank, htables]

theorem softReset_receiver (s : State) (n : Nat) :
    (softReset s).receiver n = if s.hasSlopeLink n = true then (s.receiver n).soften else s.receiver n := by
  have hreceivers : (softReset s).receivers = ((softBanks s.port.features.keep
      (softTables s.port.features.keep { s with port := s.port.soften })).forReceivers Receiver.soften).receivers := by
    unfold softReset
    dsimp only
    split <;> simp
  rw [State.receiver, hreceivers]
  refine (forReceivers_receiver _ Receiver.soften (fun _ => rfl) n).trans ?_
  simp [State.receiver, State.hasSlopeLink]

/-! ### The stores stay bounded (O5) -/

/-- Stores that hold no more than bounded ones are bounded. -/
theorem State.bounded.shrink (h : s.bounded) (fifo : t.telem.fifo.length ≤ s.telem.fifo.length := by simp)
    (queues : ∀ n, (t.receiver n).queue.length ≤ (s.receiver n).queue.length := by simp [State.receiver])
    (hold : t.hold.length ≤ s.hold.length := by simp) (dram : t.dram = s.dram := by simp)
    (store : t.store = s.store := by simp) : t.bounded := by
  obtain ⟨hfifo, hqueues, hhold, hdram, hstore⟩ := h
  exact ⟨fifo.trans hfifo, fun n => (queues n).trans (hqueues n), hold.trans hhold, dram ▸ hdram,
    store ▸ hstore⟩

theorem State.bounded.withLoop (h : s.bounded) (l : Loop) : ({ s with loop := l } : State).bounded := h

theorem State.bounded.withScan (h : s.bounded) (c : Scan) : ({ s with scan := c } : State).bounded := h

theorem offer_bounded {r : Record} {copy : Option CaptureCopy} (h : s.bounded) : (offer r copy s).bounded := by
  obtain ⟨hfifo, hqueues, hhold, htables⟩ := h
  exact ⟨offer_fifoBounded hfifo, by simpa [State.queuesBounded, State.receiver] using hqueues,
    by simpa [State.holdBounded] using hhold, by simpa [State.tablesWf] using htables⟩

theorem freeSlot_bounded {k : Nat} (h : s.bounded) : (freeSlot k s).bounded := by
  refine h.shrink (fifo := ?_) (queues := fun n => (congrArg _ (freeSlot_queue k s n)).le)
  unfold freeSlot
  split <;> simp

/-- R10: no segment joins a full queue. -/
theorem joinQueue_bounded {n : Nat} {segment : Segment} (h : s.bounded) : (joinQueue n segment s).bounded := by
  obtain ⟨hfifo, hqueues, hhold, htables⟩ := h
  refine ⟨hfifo, fun m => ?_, hhold, htables⟩
  unfold joinQueue
  rw [State.receiver_modifyReceiver]
  have hn := hqueues n
  split
  · split
    · split
      · simp; omega
      · exact hn
    · exact hn
  · exact hqueues m

theorem scanAbort_bounded {cause : EndCause} (h : s.bounded) : (scanAbort cause s).bounded := by
  unfold scanAbort
  split
  · exact offer_bounded (h.withScan _)
  · exact h

theorem emptyQueues_bounded (h : s.bounded) : (emptyQueues s).bounded := by
  obtain ⟨hfifo, hqueues, hhold, htables⟩ := h
  exact ⟨by simpa [State.fifoBounded] using hfifo,
    forReceivers_keeps (P := fun r => r.queue.length ≤ Config.queueDepth) (fun _ _ => Nat.zero_le _) hqueues,
    by simpa [State.holdBounded] using hhold, by simpa [State.tablesWf] using htables⟩

theorem cancelSwap_bounded (h : s.bounded) : (cancelSwap s).bounded := h.shrink

theorem abandonStage_bounded (h : s.bounded) : (abandonStage s).bounded :=
  h.shrink (hold := abandonStage_hold_le s)

theorem abandonShape_bounded (h : s.bounded) : (abandonShape s).bounded :=
  h.shrink (hold := (congrArg _ (abandonShape_flight s).2.1).le)

theorem freeSlots_bounded (h : s.bounded) : (freeSlots s).bounded :=
  (freeSlot_bounded (freeSlot_bounded h : (freeSlot 0 s).bounded) : (freeSlot 1 (freeSlot 0 s)).bounded)

theorem enterRest_bounded {entered : LoopState} {cause : LoopCause} {frame : Option Frame}
    {scanCause : EndCause} (h : s.bounded) : (enterRest entered cause frame scanCause s).bounded := by
  have hchanged : (changeLoop entered cause frame s).bounded := by
    unfold changeLoop
    exact offer_bounded (h.withLoop _)
  have hcleared : (clearRuns (changeLoop entered cause frame s)).bounded := hchanged.withLoop _
  unfold enterRest
  exact abandonShape_bounded (emptyQueues_bounded (freeSlots_bounded (abandonStage_bounded (cancelSwap_bounded
    (scanAbort_bounded (hcleared.withLoop _))))))

theorem offerSwap_bounded {b : Nat} {frame : Option Frame} (h : s.bounded) : (offerSwap b frame s).bounded :=
  offer_bounded h

/-- R89. -/
theorem applySwap_bounded {g : Frame} (h : s.bounded) : (applySwap g s).bounded := by
  unfold applySwap
  split
  · exact h
  split
  · next b _ _ =>
    have hactive : (activate b s).bounded := h.shrink
    refine offerSwap_bounded ?_
    split <;> exact hactive.shrink
  · exact h

/-- R87. -/
theorem swapNow_bounded {b : Nat} (h : s.bounded) : (swapNow b s).bounded := by
  unfold swapNow
  refine offerSwap_bounded ?_
  split <;> exact h.shrink

theorem softReset_bounded (h : s.bounded) : (softReset s).bounded := by
  obtain ⟨hfifo, hqueues, hhold, hdram, hstore⟩ := h
  refine ⟨?_, fun n => ?_, by simp [State.holdBounded, softReset_hold], by simpa using hdram, ?_⟩
  · rw [State.fifoBounded, softReset_telem, softTelem]
    split <;> exact Nat.zero_le _
  · rw [softReset_receiver]
    split
    · exact Nat.zero_le _
    · exact hqueues n
  · rw [softReset_store]
    split
    · exact hstore
    · rfl

/-- What a command does keeps the bounds: one case per move. -/
theorem Moves.bounded {s₀ : State} (hmoves : Moves s₀ s) (h₀ : s₀.bounded) : s.bounded := by
  induction hmoves with
  | start => exact h₀
  | same _ hsame ih =>
    exact ih.shrink (by rw [hsame.fifo]) (fun n => by rw [State.receiver, hsame.receivers, State.receiver])
      (by rw [hsame.hold]) hsame.dram hsame.store
  | receiver _ n r hqueue ih =>
    refine ih.shrink (queues := fun m => ?_)
    rw [State.receiver_setReceiver]
    split
    · next hnm =>
      subst hnm
      rcases hqueue with h | h <;> simp [h]
    · exact le_rfl
  | join _ n segment ih => exact joinQueue_bounded ih
  | offer _ r copy ih => exact offer_bounded ih
  | telem _ m hfifo ih => exact ih.shrink (fifo := hfifo)
  | store _ m hm ih =>
    obtain ⟨hfifo, hqueues, hhold, hdram, hstore⟩ := ih
    exact ⟨hfifo, hqueues, hhold, hdram, hm hstore⟩
  | dram _ m hm ih =>
    obtain ⟨hfifo, hqueues, hhold, hdram, hstore⟩ := ih
    exact ⟨hfifo, hqueues, hhold, hm hdram, hstore⟩
  | hold _ es hes ih =>
    obtain ⟨hfifo, hqueues, -, htables⟩ := ih
    exact ⟨hfifo, hqueues, hes, htables⟩
  | free _ k ih => exact freeSlot_bounded ih
  | swap _ f _ ih => exact applySwap_bounded ih
  | rest _ _ cause frame scanCause ih => exact enterRest_bounded ih
  | softReset _ ih => exact softReset_bounded ih
  | hardReset _ ih =>
    obtain ⟨-, -, -, hdram, -⟩ := ih
    exact ⟨Nat.zero_le _, fun n => Nat.zero_le _, Nat.zero_le _, hdram, rfl⟩
  | cancel _ ih => exact ih.shrink
  | swapNow _ _ _ _ ih => exact swapNow_bounded ih
  | slot | opens | closes | loop | scan | swapLater | bank | clear | load | loader => 
    rename_i ih
    exact ih.shrink

/-- A step lets the part time advance, or runs the command at the front of the queue. -/
theorem step_cases (hstep : step s = .next t) :
    t = tick s ∨ ∃ c rest, exec c { s with pending := rest } = .next t := by
  unfold step at hstep
  split at hstep
  · cases hstep
    exact .inl rfl
  · next c rest _ => exact .inr ⟨c, rest, hstep⟩

/-- R63: the end of a pass changes no store; the moves begin after it. -/
theorem residualsDone_bounded (h : s.bounded) (hexec : exec .residualsDone s = .next t) : t.bounded := by
  have hfinished : ∀ k, (finishPass k s).bounded := fun k => h
  obtain rfl := Host.Outcome.next.inj hexec
  split
  · exact h
  dsimp only
  split
  · split
    · exact h
    · exact (settle_moves .start).bounded (hfinished _)
  · exact h

/-- Settles O5, by induction on the moves that a command makes. -/
theorem storesStayBounded : Obligations.StoresStayBounded := by
  intro s t h hstep
  rcases step_cases hstep with rfl | ⟨c, rest, hexec⟩
  · exact h
  have hrest : ({ s with pending := rest } : State).bounded := h
  by_cases hc : c = .residualsDone
  · exact residualsDone_bounded hrest (hc ▸ hexec)
  · exact (exec_leadsByMoves .start hc t hexec).bounded hrest

end
end Sys2Proof.Machine

namespace Sys2Proof.Machine

section
set_option Elab.async false
variable {s t : State}

/-! ### The banks agree with the loader, the slots and the loop (O7) -/

/-- R88 to R90: the part of `State.banksSound` about banks that are PENDING, ACTIVE or RETIRING. -/
structure State.BanksUsed (s : State) : Prop where
  oneActive : ¬ ((s.bank 0).state = .active ∧ (s.bank 1).state = .active)
  onePending : ¬ ((s.bank 0).state = .pending ∧ (s.bank 1).state = .pending)
  served : ∀ k, k < 2 → (s.slot k).state ≠ .free → (s.slot k).bank < 2 ∧
    ((s.bank (s.slot k).bank).state = .active ∨ (s.bank (s.slot k).bank).state = .retiring)
  named : ∀ b, b < 2 → (s.bank b).state = .retiring → ∃ k, k < 2 ∧ (s.slot k).state ≠ .free ∧ (s.slot k).bank = b

/-- R68: the sizes of the larger variant bound every bank. -/
def State.banksSized (s : State) : Prop := ∀ b, (s.bank b).rowCount ≤ 1024 ∧ (s.bank b).columnCount ≤ 8192

/-- R69: the part of `State.loaderSound` that relates the loader and the bank it names. -/
@[irreducible] def State.loadAgrees (s : State) : Prop :=
  match s.loader.state with
  | .idle => ∀ b, b < 2 → (s.bank b).state.inLoad = false
  | .loading b _ =>
    b < 2 ∧ (s.bank b).state = .loading ∧ (s.bank (1 - b)).state.inLoad = false ∧
      ∀ name x, s.loader.buffer name = some x → x.column < (s.bank b).columnCount
  | .verifying b _ =>
    b < 2 ∧ (s.bank b).state = .verifying ∧ (s.bank (1 - b)).state.inLoad = false

theorem State.loadAgrees_idle (h : s.loader.state = .idle) :
    s.loadAgrees ↔ ∀ b, b < 2 → (s.bank b).state.inLoad = false := by
  unfold State.loadAgrees
  rw [h]

theorem State.loadAgrees_loading {b owner : Nat} (h : s.loader.state = .loading b owner) :
    s.loadAgrees ↔ b < 2 ∧ (s.bank b).state = .loading ∧ (s.bank (1 - b)).state.inLoad = false ∧
      ∀ name x, s.loader.buffer name = some x → x.column < (s.bank b).columnCount := by
  unfold State.loadAgrees
  rw [h]

theorem State.loadAgrees_verifying {b owner : Nat} (h : s.loader.state = .verifying b owner) :
    s.loadAgrees ↔ b < 2 ∧ (s.bank b).state = .verifying ∧ (s.bank (1 - b)).state.inLoad = false := by
  unfold State.loadAgrees
  rw [h]

/-- What holds of the banks, the loader and the slots whatever the loop's state. -/
structure State.BanksHold (s : State) : Prop where
  used : s.BanksUsed
  sized : s.banksSized
  load : s.loadAgrees

/-- `State.banksSound` with its parts by name. -/
structure State.BanksAgree (s : State) : Prop where
  used : s.BanksUsed
  sized : s.banksSized
  load : s.loadAgrees
  active : s.loop.state.running = true → s.activeBank.isSome = true
  quiet : s.quietAtRest

theorem State.BanksAgree.hold (h : s.BanksAgree) : s.BanksHold := ⟨h.used, h.sized, h.load⟩

theorem bankNamed_iff (s : State) (b : Nat) :
    s.bankNamed b = true ↔ ∃ k, k < 2 ∧ (s.slot k).state ≠ .free ∧ (s.slot k).bank = b := by
  constructor
  · intro h
    obtain ⟨k, hk, hnamed⟩ := List.any_eq_true.mp h
    exact ⟨k, by simp at hk; omega, by simpa using hnamed⟩
  · rintro ⟨k, hk, hnamed⟩
    exact List.any_eq_true.mpr ⟨k, by simp; omega, by simpa using hnamed⟩

theorem activeBank_isSome_iff (s : State) :
    s.activeBank.isSome = true ↔ (s.bank 0).state = .active ∨ (s.bank 1).state = .active := by
  simp [State.activeBank]

theorem activeBank_active {b : Nat} (h : s.activeBank = some b) : b < 2 ∧ (s.bank b).state = .active := by
  have hmem := List.mem_of_find?_eq_some h
  exact ⟨by simp at hmem; omega, by simpa using List.find?_some h⟩

theorem pendingBank_pending {b : Nat} (h : s.pendingBank = some b) : b < 2 ∧ (s.bank b).state = .pending := by
  have hmem := List.mem_of_find?_eq_some h
  exact ⟨by simp at hmem; omega, by simpa using List.find?_some h⟩

theorem swapPending_eq_false_iff (s : State) :
    s.swapPending = false ↔ (s.bank 0).state ≠ .pending ∧ (s.bank 1).state ≠ .pending := by
  simp [State.swapPending, State.pendingBank]

theorem State.banksSound_iff (s : State) : s.banksSound ↔ s.BanksAgree := by
  constructor
  · rintro ⟨⟨hactive, hpending⟩, ⟨hsized, hload⟩, ⟨hrunning, hserved, hnamed⟩, hquiet⟩
    exact ⟨⟨hactive, hpending, hserved, fun b hb hr => (bankNamed_iff s b).mp (hnamed b hb hr)⟩, hsized,
      by rwa [State.loadAgrees], hrunning, hquiet⟩
  · rintro ⟨⟨hactive, hpending, hserved, hnamed⟩, hsized, hload, hrunning, hquiet⟩
    rw [State.loadAgrees] at hload
    exact ⟨⟨hactive, hpending⟩, ⟨hsized, hload⟩,
      ⟨hrunning, hserved, fun b hb hr => (bankNamed_iff s b).mpr (hnamed b hb hr)⟩, hquiet⟩

/-! #### What keeps each part -/

/-- t's banks outside use are others than in s, and its other banks are in the states they were. -/
def State.SameUse (s t : State) : Prop :=
  ∀ b, b < 2 → (t.bank b).state = (s.bank b).state ∨
    ((t.bank b).state.inUse = false ∧ (s.bank b).state.inUse = false)

/-- A bank that a load may concern stays as it is, and another stays outside the load. -/
def Bank.KeepsLoad (old r : Bank) : Prop :=
  (r.state = old.state ∧ r.columns = old.columns) ∨ (r.state.inLoad = false ∧ old.state.inLoad = false)

theorem State.SameUse.state_iff (h : s.SameUse t) {b : Nat} (hb : b < 2) {x : BankState} (hx : x.inUse = true) :
    (t.bank b).state = x ↔ (s.bank b).state = x := by
  rcases h b hb with heq | ⟨ht, hs⟩
  · rw [heq]
  · constructor <;> · rintro rfl; simp_all

theorem State.BanksUsed.of_sameUse (h : s.BanksUsed) (huse : s.SameUse t)
    (hslot : ∀ k, k < 2 → (t.slot k).bank = (s.slot k).bank ∧ ((t.slot k).state = .free ↔ (s.slot k).state = .free)) :
    t.BanksUsed where
  oneActive := by
    rw [huse.state_iff (by omega) rfl, huse.state_iff (by omega) rfl]
    exact h.oneActive
  onePending := by
    rw [huse.state_iff (by omega) rfl, huse.state_iff (by omega) rfl]
    exact h.onePending
  served k hk hfree := by
    obtain ⟨hbank, hiff⟩ := hslot k hk
    obtain ⟨hlt, hserves⟩ := h.served k hk (mt hiff.mpr hfree)
    rw [hbank, huse.state_iff hlt rfl, huse.state_iff hlt rfl]
    exact ⟨hlt, hserves⟩
  named b hb hretiring := by
    obtain ⟨k, hk, hfree, hbank⟩ := h.named b hb ((huse.state_iff hb rfl).mp hretiring)
    exact ⟨k, hk, mt (hslot k hk).2.mp hfree, (hslot k hk).1.trans hbank⟩

theorem State.SameUse.activeBank_isSome (h : s.SameUse t) : t.activeBank.isSome = s.activeBank.isSome := by
  rw [Bool.eq_iff_iff, activeBank_isSome_iff, activeBank_isSome_iff, h.state_iff (by omega) rfl,
    h.state_iff (by omega) rfl]

theorem State.SameUse.swapPending (h : s.SameUse t) (hs : s.swapPending = false) : t.swapPending = false := by
  rw [swapPending_eq_false_iff] at *
  rwa [ne_eq, ne_eq, h.state_iff (by omega) rfl, h.state_iff (by omega) rfl]

theorem Bank.KeepsLoad.refl (r : Bank) : r.KeepsLoad r := .inl ⟨rfl, rfl⟩

theorem Bank.sized.refl (r : Bank) : r.sized r := .inl ⟨rfl, rfl⟩

theorem State.banksSized.of_sized (h : s.banksSized) (hsized : ∀ b, (t.bank b).sized (s.bank b)) :
    t.banksSized := fun b => by
  obtain ⟨hrows, hcolumns⟩ | hbounds := hsized b
  · rw [Bank.rowCount, Bank.columnCount, hrows, hcolumns]
    exact h b
  · exact hbounds

theorem Bank.KeepsLoad.of_inLoad {old r : Bank} (h : old.KeepsLoad r) (hold : old.state.inLoad = true) :
    r.state = old.state ∧ r.columns = old.columns := by
  obtain heq | ⟨-, hout⟩ := h
  · exact heq
  · simp [hold] at hout

theorem Bank.KeepsLoad.out {old r : Bank} (h : old.KeepsLoad r) (hold : old.state.inLoad = false) :
    r.state.inLoad = false := by
  obtain ⟨heq, -⟩ | ⟨hout, -⟩ := h
  · rw [heq, hold]
  · exact hout

theorem State.loadAgrees.of_keepsLoad (h : s.loadAgrees) (hload : ∀ b, (s.bank b).KeepsLoad (t.bank b))
    (hloader : t.loader = s.loader) : t.loadAgrees := by
  cases hl : s.loader.state with
  | idle =>
    rw [State.loadAgrees_idle hl] at h
    exact (State.loadAgrees_idle (by rw [hloader, hl])).mpr fun b hb => (hload b).out (h b hb)
  | loading b owner =>
    obtain ⟨hb, hstate, hother, hbuffer⟩ := (State.loadAgrees_loading hl).mp h
    obtain ⟨hsame, hcolumns⟩ := (hload b).of_inLoad (by rw [hstate]; rfl)
    refine (State.loadAgrees_loading (by rw [hloader, hl])).mpr
      ⟨hb, hsame.trans hstate, (hload _).out hother, ?_⟩
    rwa [Bank.columnCount, hcolumns, hloader]
  | verifying b owner =>
    obtain ⟨hb, hstate, hother⟩ := (State.loadAgrees_verifying hl).mp h
    exact (State.loadAgrees_verifying (by rw [hloader, hl])).mpr
      ⟨hb, ((hload b).of_inLoad (by rw [hstate]; rfl)).1.trans hstate, (hload _).out hother⟩

/-- What holds of a bank and itself, and of bank b before and after, holds of every bank. -/
theorem setBank_each {P : Bank → Bank → Prop} (hrefl : ∀ r, P r r) {b : Nat} {r : Bank}
    (hb : P (s.bank b) r) (c : Nat) : P (s.bank c) ((s.setBank b r).bank c) := by
  rw [State.bank_setBank]
  split
  · next hbc => exact hbc ▸ hb
  · exact hrefl _

end
end Sys2Proof.Machine

namespace Sys2Proof.Machine

section
set_option Elab.async false
variable {s t : State}

/-- What a change owes quietAtRest, block by block. -/
theorem State.quietAtRest.keep (h : s.quietAtRest)
    (hrun : t.loop.state.running = false → s.loop.state.running = false)
    (variant : t.variant = s.variant)
    (free : ∀ k, k < 2 → (s.slot k).state = .free → (t.slot k).state = .free)
    (lastClosed : t.lastClosed = s.lastClosed)
    (queue : s.loop.state.running = false → ∀ n, (s.receiver n).queue = [] → (t.receiver n).queue = [])
    (scan : s.loop.state.running = false → s.scan.state ≠ .running → t.scan.state ≠ .running)
    (swap : s.swapPending = false → t.swapPending = false)
    (transition : s.loop.pendingTransition = none → t.loop.pendingTransition = none) : t.quietAtRest := by
  intro hstop
  obtain ⟨⟨hfree0, hfree1⟩, hclosed, hqueues, hscan, hswap, htransition⟩ := h (hrun hstop)
  exact ⟨⟨free 0 (by omega) hfree0, free 1 (by omega) hfree1⟩, lastClosed.trans hclosed,
    fun n hn => queue (hrun hstop) n (hqueues n (by rwa [State.hasSlopeLink, variant] at hn)), scan (hrun hstop) hscan,
    swap hswap, transition htransition⟩

/-- In a running loop nothing has to be quiet. -/
theorem State.quietAtRest.of_running (h : s.loop.state.running = true) : s.quietAtRest := fun hstop => by
  rw [h] at hstop
  cases hstop

theorem State.BanksUsed.of_eq (h : s.BanksUsed) (banks : t.banks = s.banks) (slots : t.slots = s.slots) :
    t.BanksUsed :=
  h.of_sameUse (fun b _ => .inl (by rw [State.bank, banks, State.bank])) fun k _ => by
    rw [State.slot, slots, State.slot]
    exact ⟨rfl, Iff.rfl⟩

theorem activeBank_congr (banks : t.banks = s.banks) : t.activeBank = s.activeBank := by
  unfold State.activeBank State.bank
  rw [banks]

theorem swapPending_congr (banks : t.banks = s.banks) : t.swapPending = s.swapPending := by
  unfold State.swapPending State.pendingBank State.bank
  rw [banks]

theorem State.BanksHold.of_eq (h : s.BanksHold) (banks : t.banks = s.banks) (slots : t.slots = s.slots)
    (loader : t.loader = s.loader) : t.BanksHold where
  used := h.used.of_eq banks slots
  sized := h.sized.of_sized fun b => by
    rw [State.bank, State.bank, banks]
    exact .refl _
  load := h.load.of_keepsLoad (fun b => by rw [State.bank, State.bank, banks]; exact .refl _) loader

/-- Banks, slots and loader stay: what is left is the loop and what is quiet at rest. -/
theorem State.BanksAgree.of_eq (h : s.BanksAgree) (banks : t.banks = s.banks) (slots : t.slots = s.slots)
    (loader : t.loader = s.loader)
    (running : t.loop.state.running = true → s.loop.state.running = true ∨ s.activeBank.isSome = true)
    (quiet : t.quietAtRest) : t.BanksAgree where
  used := (h.hold.of_eq banks slots loader).used
  sized := (h.hold.of_eq banks slots loader).sized
  load := (h.hold.of_eq banks slots loader).load
  active hrun := by
    rw [activeBank_congr banks]
    exact (running hrun).elim h.active id
  quiet := quiet

/-- The loop keeps its state, and its queues stay empty at rest. -/
theorem State.BanksAgree.of_queues (h : s.BanksAgree) (banks : t.banks = s.banks) (slots : t.slots = s.slots)
    (loader : t.loader = s.loader) (variant : t.variant = s.variant) (lastClosed : t.lastClosed = s.lastClosed)
    (loop : t.loop.state = s.loop.state)
    (queue : s.loop.state.running = false → ∀ n, (s.receiver n).queue = [] → (t.receiver n).queue = [])
    (scan : t.scan.state = s.scan.state) (transition : t.loop.pendingTransition = s.loop.pendingTransition) :
    t.BanksAgree :=
  h.of_eq banks slots loader (fun hrun => .inl (by rwa [← loop])) (h.quiet.keep (fun hstop => by rwa [← loop])
    variant (fun k _ hfree => by rwa [State.slot, slots]) lastClosed queue (fun _ hscan => by rwa [scan])
    (fun hswap => (swapPending_congr banks).trans hswap) fun hnone => transition.trans hnone)

theorem State.SameStores.banksAgree (hsame : s.SameStores t) (h : s.BanksAgree) : t.BanksAgree :=
  h.of_queues hsame.banks hsame.slots hsame.loader hsame.variant hsame.lastClosed hsame.loop
    (fun _ n hempty => by rwa [State.receiver, hsame.receivers]) hsame.scan hsame.transition

/-! #### Queues, slots and the loop -/

theorem setReceiver_banksAgree {n : Nat} {r : Receiver} (h : s.BanksAgree)
    (hqueue : r.queue = (s.receiver n).queue ∨ r.queue = (s.receiver n).queue.tail) :
    (s.setReceiver n r).BanksAgree := by
  refine h.of_queues rfl rfl rfl rfl rfl rfl (fun _ m hempty => ?_) rfl rfl
  rw [State.receiver_setReceiver]
  split
  · next hnm =>
    rcases hqueue with hsame | htail
    · rw [hsame, hnm, hempty]
    · rw [htail, hnm, hempty, List.tail_nil]
  · exact hempty

/-- R12: at rest no segment stays in a queue. -/
theorem joinQueue_banksAgree {n : Nat} {segment : Segment} (h : s.BanksAgree) :
    (joinQueue n segment s).BanksAgree := by
  refine h.of_queues rfl rfl rfl rfl rfl rfl (fun hstop m hempty => ?_) rfl rfl
  unfold joinQueue
  rw [State.receiver_modifyReceiver]
  split
  · next hnm =>
    subst hnm
    split <;> simp [hstop, hempty]
  · exact hempty

theorem offer_banksAgree {r : Record} {copy : Option CaptureCopy} (h : s.BanksAgree) :
    (offer r copy s).BanksAgree :=
  h.of_queues (by simp) (by simp) (by simp) (by simp) (by simp) (by simp)
    (fun _ n hempty => by simpa [State.receiver] using hempty) (by simp) (by simp)

theorem setSlot_slot (s : State) (k m : Nat) (r : Slot) :
    (s.setSlot k r).slot m = if k = m then r else s.slot m := by simp

/-- A slot that stays FREE or not, with its bank. -/
theorem setSlot_banksAgree {k : Nat} {r : Slot} (h : s.BanksAgree) (hbank : r.bank = (s.slot k).bank)
    (hfree : r.state = .free ↔ (s.slot k).state = .free) : (s.setSlot k r).BanksAgree where
  used := h.used.of_sameUse (fun _ _ => .inl rfl) fun m _ => by
    rw [setSlot_slot]
    split
    · next hkm => exact hkm ▸ ⟨hbank, hfree⟩
    · exact ⟨rfl, Iff.rfl⟩
  sized := h.sized
  load := h.load.of_keepsLoad (fun _ => .refl _) rfl
  active := h.active
  quiet := h.quiet.keep id rfl (fun m _ hm => by
    rw [setSlot_slot]
    split
    · next hkm => exact hfree.mpr (hkm ▸ hm)
    · exact hm) rfl (fun _ _ => id) (fun _ => id) id id

/-- R38: a slot that opens names the ACTIVE bank. -/
theorem openSlot_banksAgree {k : Nat} {r : Slot} (h : s.BanksAgree) (hrun : s.loop.state.running = true)
    (hfree : (s.slot k).state = .free) (hbank : r.bank = s.activeBank.getD 0) :
    (s.setSlot k r).BanksAgree where
  used := by
    obtain ⟨b, hb⟩ := Option.isSome_iff_exists.mp (h.active hrun)
    obtain ⟨hlt, hactive⟩ := activeBank_active hb
    rw [hb, Option.getD_some] at hbank
    refine ⟨h.used.oneActive, h.used.onePending, fun m hm hopen => ?_, fun c hc hretiring => ?_⟩
    · rw [setSlot_slot] at hopen ⊢
      split
      · rw [hbank]
        exact ⟨hlt, .inl hactive⟩
      · next hne =>
        rw [if_neg hne] at hopen
        exact h.used.served m hm hopen
    · obtain ⟨m, hm, hnotFree, hnames⟩ := h.used.named c hc hretiring
      have hne : k ≠ m := fun hkm => hnotFree (hkm ▸ hfree)
      refine ⟨m, hm, ?_⟩
      rw [setSlot_slot, if_neg hne]
      exact ⟨hnotFree, hnames⟩
  sized := h.sized
  load := h.load.of_keepsLoad (fun _ => .refl _) rfl
  active := h.active
  quiet := .of_running hrun

theorem close_banksAgree {k : Nat} {f : Frame} (h : s.BanksAgree) (hk : k < 2)
    (hslot : (s.slot k).state ≠ .free) : ({ s with lastClosed := some f } : State).BanksAgree := by
  refine h.of_eq rfl rfl rfl .inl (fun hstop => ?_)
  obtain ⟨⟨hfree0, hfree1⟩, -⟩ := h.quiet hstop
  obtain rfl | rfl : k = 0 ∨ k = 1 := by omega
  · exact absurd hfree0 hslot
  · exact absurd hfree1 hslot

theorem scan_banksAgree {c : Scan} (h : s.BanksAgree)
    (hrun : s.loop.state.running = true ∨ s.scan.state = .running ∨ c.state ≠ .running) :
    ({ s with scan := c } : State).BanksAgree := by
  refine h.of_eq rfl rfl rfl .inl (h.quiet.keep id rfl (fun _ _ => id) rfl (fun _ _ => id) (fun hstop hscan => ?_)
    id id)
  rcases hrun with hrunning | hrunning | hnot
  · rw [hrunning] at hstop
    cases hstop
  · exact absurd hrunning hscan
  · exact hnot

end
end Sys2Proof.Machine

namespace Sys2Proof.Machine

section
set_option Elab.async false
variable {s t : State}

/-! #### A slot becomes FREE (R47, R90) -/

theorem freeSlot_slot_self (k : Nat) (s : State) : ((freeSlot k s).slot k).state = .free := by
  unfold freeSlot
  split
  · assumption
  · simp [State.slot, State.setSlot, Slot.reset]

theorem freeSlot_slot_free {k m : Nat} (h : (s.slot m).state = .free) : ((freeSlot k s).slot m).state = .free := by
  by_cases hkm : k = m
  · exact hkm ▸ freeSlot_slot_self k s
  · rwa [freeSlot_slot_ne hkm]

theorem releaseBank_bank (b : Nat) (s : State) (c : Nat) :
    (releaseBank b s).bank c =
      if b = c ∧ (s.bank c).state = .retiring ∧ s.bankNamed c = false then { s.bank c with state := .ready }
      else s.bank c := by
  unfold releaseBank
  by_cases hbc : b = c
  · subst hbc
    split <;> simp_all
  · split <;> simp [hbc]

/-- The slots decide whether a bank is named. -/
theorem bankNamed_congr (h : t.slots = s.slots) (b : Nat) : t.bankNamed b = s.bankNamed b := by
  unfold State.bankNamed State.slot
  rw [h]

/-- R90: a slot that becomes FREE makes the RETIRING bank that only it named READY. -/
theorem freeSlot_bank (k : Nat) (s : State) (c : Nat) :
    (freeSlot k s).bank c =
      if (s.slot k).state ≠ .free ∧ (s.slot k).bank = c ∧ (s.bank c).state = .retiring ∧
        (freeSlot k s).bankNamed c = false then { s.bank c with state := .ready }
      else s.bank c := by
  by_cases hfree : (s.slot k).state = .free
  · simp [freeSlot, hfree]
  · have hslots : (freeSlot k s).slots = (((cutWork k s).setSlot k (Slot.reset k)).setImage k none).slots := by
      simp [freeSlot, hfree]
    have hbank : (freeSlot k s).bank c = (releaseBank (s.slot k).bank
        (((cutWork k s).setSlot k (Slot.reset k)).setImage k none)).bank c := by
      simp [freeSlot, hfree, State.bank]
    have hold : (((cutWork k s).setSlot k (Slot.reset k)).setImage k none).bank c = s.bank c := by
      simp [State.bank]
    rw [hbank, releaseBank_bank, hold, bankNamed_congr hslots]
    simp [hfree]

/-- R90: a bank stays as it is, or is a RETIRING bank that no slot names any more and becomes READY. -/
theorem freeSlot_bank_cases (k : Nat) (s : State) (c : Nat) :
    (freeSlot k s).bank c = s.bank c ∨ ((s.bank c).state = .retiring ∧
      (freeSlot k s).bank c = { s.bank c with state := .ready } ∧ (freeSlot k s).bankNamed c = false) := by
  rw [freeSlot_bank]
  split
  · next h =>
    obtain ⟨-, -, hretiring, hnamed⟩ := h
    exact .inr ⟨hretiring, rfl, hnamed⟩
  · exact .inl rfl

theorem freeSlot_bank_state {k c : Nat} {x : BankState} (hx : x ≠ .ready)
    (h : ((freeSlot k s).bank c).state = x) : (s.bank c).state = x := by
  obtain heq | ⟨-, heq, -⟩ := freeSlot_bank_cases k s c
  · rwa [← heq]
  · rw [heq] at h
    exact absurd h.symm hx

theorem freeSlot_bank_active_iff {k c : Nat} :
    ((freeSlot k s).bank c).state = .active ↔ (s.bank c).state = .active := by
  obtain heq | ⟨hretiring, heq, -⟩ := freeSlot_bank_cases k s c
  · rw [heq]
  · simp [heq, hretiring]

theorem freeSlot_used {k : Nat} (h : s.BanksUsed) : (freeSlot k s).BanksUsed where
  oneActive := by
    rw [freeSlot_bank_active_iff, freeSlot_bank_active_iff]
    exact h.oneActive
  onePending hpending :=
    h.onePending ⟨freeSlot_bank_state nofun hpending.1, freeSlot_bank_state nofun hpending.2⟩
  served m hm hopen := by
    have hne : k ≠ m := fun hkm => hopen (hkm ▸ freeSlot_slot_self k s)
    have hnamed := (bankNamed_iff (freeSlot k s) _).mpr ⟨m, hm, hopen, rfl⟩
    rw [freeSlot_slot_ne hne] at hopen hnamed ⊢
    obtain ⟨hlt, hserves⟩ := h.served m hm hopen
    refine ⟨hlt, ?_⟩
    obtain heq | ⟨-, -, hunnamed⟩ := freeSlot_bank_cases k s (s.slot m).bank
    · rwa [heq]
    · rw [hnamed] at hunnamed
      cases hunnamed
  named c hc hretiring := by
    have hbefore := freeSlot_bank_state (x := .retiring) nofun hretiring
    obtain ⟨m, hm, hopen, hbank⟩ := h.named c hc hbefore
    by_cases hkm : k = m
    · subst hkm
      rw [← bankNamed_iff]
      by_contra hunnamed
      rw [freeSlot_bank, if_pos ⟨hopen, hbank, hbefore, by simpa using hunnamed⟩] at hretiring
      cases hretiring
    · exact ⟨m, hm, by rwa [freeSlot_slot_ne hkm], by rwa [freeSlot_slot_ne hkm]⟩

theorem freeSlot_sized (k : Nat) (s : State) (c : Nat) : ((freeSlot k s).bank c).sized (s.bank c) := by
  obtain heq | ⟨-, heq, -⟩ := freeSlot_bank_cases k s c
  · rw [heq]
    exact .refl _
  · exact .inl (by simp [heq])

theorem freeSlot_keepsLoad (k : Nat) (s : State) (c : Nat) : (s.bank c).KeepsLoad ((freeSlot k s).bank c) := by
  obtain heq | ⟨hretiring, heq, -⟩ := freeSlot_bank_cases k s c
  · rw [heq]
    exact .refl _
  · exact .inr (by simp [heq, hretiring, BankState.inLoad])

theorem freeSlot_swapPending {k : Nat} (h : s.swapPending = false) : (freeSlot k s).swapPending = false := by
  rw [swapPending_eq_false_iff] at *
  exact ⟨mt (freeSlot_bank_state nofun) h.1, mt (freeSlot_bank_state nofun) h.2⟩

theorem freeSlot_banksHold {k : Nat} (h : s.BanksHold) : (freeSlot k s).BanksHold where
  used := freeSlot_used h.used
  sized := h.sized.of_sized (freeSlot_sized k s)
  load := h.load.of_keepsLoad (freeSlot_keepsLoad k s) (by simp)

theorem freeSlot_banksAgree {k : Nat} (h : s.BanksAgree) : (freeSlot k s).BanksAgree where
  used := (freeSlot_banksHold h.hold).used
  sized := (freeSlot_banksHold h.hold).sized
  load := (freeSlot_banksHold h.hold).load
  active hrun := by
    rw [activeBank_isSome_iff, freeSlot_bank_active_iff, freeSlot_bank_active_iff, ← activeBank_isSome_iff]
    exact h.active (by simpa using hrun)
  quiet := h.quiet.keep (by simp) (by simp) (fun _ _ => freeSlot_slot_free) (by simp)
    (fun _ n hempty => (freeSlot_queue k s n).trans hempty) (by simp) freeSlot_swapPending (by simp)

/-! #### Swaps (R86 to R92) -/

theorem State.BanksUsed.active_unique (h : s.BanksUsed) {b c : Nat} (hb : b < 2) (hc : c < 2)
    (hactive : (s.bank b).state = .active) (hactive' : (s.bank c).state = .active) : b = c := by
  by_contra hne
  obtain ⟨rfl, rfl⟩ | ⟨rfl, rfl⟩ : (b = 0 ∧ c = 1) ∨ (b = 1 ∧ c = 0) := by omega
  · exact h.oneActive ⟨hactive, hactive'⟩
  · exact h.oneActive ⟨hactive', hactive⟩

/-- A bank that is neither ACTIVE nor RETIRING is named by no slot. -/
theorem State.BanksUsed.not_served (h : s.BanksUsed) {b : Nat}
    (hb : (s.bank b).state ≠ .active ∧ (s.bank b).state ≠ .retiring) :
    ∀ k, k < 2 → (s.slot k).state ≠ .free → (s.slot k).bank ≠ b := fun k hk hopen hbank => by
  obtain ⟨-, hserves⟩ := h.served k hk hopen
  rw [hbank] at hserves
  exact hserves.elim hb.1 hb.2

/-- A bank that no slot names goes over to a state that no slot may name. -/
theorem State.BanksUsed.modifyBank (h : s.BanksUsed) {b : Nat} {f : Bank → Bank}
    (hold : ∀ k, k < 2 → (s.slot k).state ≠ .free → (s.slot k).bank ≠ b)
    (hnew : (f (s.bank b)).state ≠ .active ∧ (f (s.bank b)).state ≠ .retiring)
    (hpending : (f (s.bank b)).state = .pending → s.swapPending = false) : (s.modifyBank b f).BanksUsed where
  oneActive := by
    have := h.oneActive
    simp only [State.bank_modifyBank]
    rintro ⟨h0, h1⟩
    split at h0 <;> split at h1 <;> simp_all
  onePending := by
    have := h.onePending
    rw [swapPending_eq_false_iff] at hpending
    simp only [State.bank_modifyBank]
    rintro ⟨h0, h1⟩
    split at h0 <;> split at h1 <;> simp_all
  served k hk hopen := by
    obtain ⟨hlt, hserves⟩ := h.served k hk hopen
    refine ⟨hlt, ?_⟩
    rwa [State.slot_modifyBank, State.bank_modifyBank, if_neg (hold k hk hopen).symm]
  named c hc hretiring := by
    rw [State.bank_modifyBank] at hretiring
    split at hretiring
    · exact absurd hretiring hnew.2
    · exact h.named c hc hretiring

theorem modifyBank_banksHold (h : s.BanksHold) {b : Nat} {f : Bank → Bank}
    (hold : ∀ k, k < 2 → (s.slot k).state ≠ .free → (s.slot k).bank ≠ b)
    (hnew : (f (s.bank b)).state ≠ .active ∧ (f (s.bank b)).state ≠ .retiring)
    (hpending : (f (s.bank b)).state = .pending → s.swapPending = false)
    (hsized : (f (s.bank b)).sized (s.bank b)) (hkeeps : (s.bank b).KeepsLoad (f (s.bank b))) :
    (s.modifyBank b f).BanksHold where
  used := h.used.modifyBank hold hnew hpending
  sized := h.sized.of_sized (setBank_each (P := fun old r => r.sized old) Bank.sized.refl hsized)
  load := h.load.of_keepsLoad (setBank_each (P := Bank.KeepsLoad) Bank.KeepsLoad.refl hkeeps) rfl

theorem modifyBank_banksAgree (h : s.BanksAgree) {b : Nat} {f : Bank → Bank}
    (hold : ∀ k, k < 2 → (s.slot k).state ≠ .free → (s.slot k).bank ≠ b)
    (hactive : s.loop.state.running = true → (s.bank b).state ≠ .active)
    (hnew : (f (s.bank b)).state ≠ .active ∧ (f (s.bank b)).state ≠ .retiring)
    (hpending : (f (s.bank b)).state = .pending → s.swapPending = false ∧ s.loop.state.running = true)
    (hsized : (f (s.bank b)).sized (s.bank b)) (hkeeps : (s.bank b).KeepsLoad (f (s.bank b))) :
    (s.modifyBank b f).BanksAgree := by
  obtain ⟨hused, hsized, hload⟩ := modifyBank_banksHold h.hold hold hnew (fun hp => (hpending hp).1) hsized hkeeps
  refine ⟨hused, hsized, hload, fun hrun => ?_, ?_⟩
  · obtain hbefore | hbefore := (activeBank_isSome_iff s).mp (h.active hrun)
    · refine (activeBank_isSome_iff _).mpr (.inl ?_)
      rwa [State.bank_modifyBank, if_neg fun hb : b = 0 => hactive hrun (hb ▸ hbefore)]
    · refine (activeBank_isSome_iff _).mpr (.inr ?_)
      rwa [State.bank_modifyBank, if_neg fun hb : b = 1 => hactive hrun (hb ▸ hbefore)]
  · by_cases hrun : s.loop.state.running = true
    · exact .of_running hrun
    · refine h.quiet.keep id rfl (fun _ _ => id) rfl (fun _ _ => id) (fun _ => id) (fun hnone => ?_) id
      have hnew : (f (s.bank b)).state ≠ .pending := fun hp => hrun (hpending hp).2
      rw [swapPending_eq_false_iff] at *
      simp only [State.bank_modifyBank]
      exact ⟨by split <;> [exact hnew; exact hnone.1], by split <;> [exact hnew; exact hnone.2]⟩

theorem raise_banksAgree {c : Cause} (h : s.BanksAgree) : (raise c s).BanksAgree :=
  h.of_queues rfl rfl rfl rfl rfl rfl (fun _ _ => id) rfl rfl

/-- R91, R92: the bank that was PENDING is READY. -/
theorem cancelSwap_banksAgree (h : s.BanksAgree) : (cancelSwap s).BanksAgree := by
  unfold cancelSwap
  split
  · exact h
  · next b hb =>
    obtain ⟨-, hpending⟩ := pendingBank_pending hb
    exact raise_banksAgree (modifyBank_banksAgree h (h.used.not_served (by simp [hpending]))
      (by simp [hpending]) (by simp) nofun (.inl ⟨rfl, rfl⟩)
      (.inr ⟨rfl, by rw [hpending]; rfl⟩))

theorem cancelSwap_banksHold (h : s.BanksHold) : (cancelSwap s).BanksHold := by
  unfold cancelSwap
  split
  · exact h
  · next b hb =>
    obtain ⟨-, hpending⟩ := pendingBank_pending hb
    have hready : (s.modifyBank b fun r => { r with state := .ready, pendingFrame := none }).BanksHold :=
      modifyBank_banksHold h (h.used.not_served (by simp [hpending])) (by simp) nofun (.inl ⟨rfl, rfl⟩)
        (.inr ⟨rfl, by rw [hpending]; rfl⟩)
    exact hready.of_eq rfl rfl rfl

/-- With at most one bank PENDING none is left. -/
theorem cancelSwap_swapPending (h : ¬ ((s.bank 0).state = .pending ∧ (s.bank 1).state = .pending)) :
    (cancelSwap s).swapPending = false := by
  unfold cancelSwap
  split
  · next hnone => rw [State.swapPending, hnone]; rfl
  · next b hb =>
    obtain ⟨hlt, hpending⟩ := pendingBank_pending hb
    rw [State.swapPending_raise, swapPending_eq_false_iff]
    obtain rfl | rfl : b = 0 ∨ b = 1 := by omega
    · simpa using fun h1 => h ⟨hpending, h1⟩
    · simpa using fun h0 => h ⟨h0, hpending⟩

/-- R88. -/
theorem swapLater_banksAgree {b : Nat} {at? : Option Frame} (h : s.BanksAgree)
    (hready : (s.bank b).state = .ready) (hrun : s.loop.state.running = true) (hnone : s.swapPending = false) :
    (swapLater b at? s).BanksAgree :=
  modifyBank_banksAgree h (h.used.not_served (by simp [hready])) (by simp [hready]) (by simp) (fun _ => ⟨hnone, hrun⟩) (.inl ⟨rfl, rfl⟩)
    (.inr ⟨rfl, by rw [hready]; rfl⟩)

/-- R84. -/
theorem clear_banksAgree {b : Nat} (h : s.BanksAgree) (hb : (s.bank b).state.replaceable = true) :
    (s.setBank b (Bank.reset b)).BanksAgree := by
  have hout : ∀ x : BankState, x.replaceable = false → (s.bank b).state ≠ x := fun x hx hs => by
    rw [hs, hx] at hb
    cases hb
  refine modifyBank_banksAgree (f := fun _ => Bank.reset b) h (h.used.not_served ⟨hout _ rfl, hout _ rfl⟩)
    (fun _ => hout _ rfl) (by simp [Bank.reset]) nofun (.inr ⟨Nat.zero_le _, Nat.zero_le _⟩) (.inr ⟨rfl, ?_⟩)
  cases hs : (s.bank b).state <;> simp_all [BankState.replaceable, BankState.inLoad]

/-- With bank b ACTIVE and no other, at most one bank is ACTIVE or PENDING. -/
theorem State.BanksUsed.of_active {b : Nat} (hb : b < 2) (hactive : (s.bank b).state = .active)
    (hother : ∀ c, c < 2 → c ≠ b → (s.bank c).state ≠ .active)
    (hserved : ∀ k, k < 2 → (s.slot k).state ≠ .free → (s.slot k).bank < 2 ∧
      ((s.bank (s.slot k).bank).state = .active ∨ (s.bank (s.slot k).bank).state = .retiring))
    (hnamed : ∀ c, c < 2 → (s.bank c).state = .retiring →
      ∃ k, k < 2 ∧ (s.slot k).state ≠ .free ∧ (s.slot k).bank = c) : s.BanksUsed where
  oneActive := by
    rintro ⟨h0, h1⟩
    obtain rfl | rfl : b = 0 ∨ b = 1 := by omega
    · exact hother 1 (by omega) (by omega) h1
    · exact hother 0 (by omega) (by omega) h0
  onePending := by
    rintro ⟨h0, h1⟩
    obtain rfl | rfl : b = 0 ∨ b = 1 := by omega
    · rw [h0] at hactive; cases hactive
    · rw [h1] at hactive; cases hactive
  served := hserved
  named := hnamed

theorem offerSwap_banksAgree {b : Nat} {frame : Option Frame} (h : s.BanksAgree) :
    (offerSwap b frame s).BanksAgree := offer_banksAgree h

theorem activate_bank (b c : Nat) (s : State) : (activate b s).bank c =
    if b = c then { s.bank b with state := .active, pendingFrame := none } else s.bank c :=
  State.bank_modifyBank ..

/-- R89: the PENDING bank is ACTIVE, and the bank that was ACTIVE is in a state x, RETIRING where a slot names it. -/
theorem swapBanks_banksAgree {b o : Nat} {x : BankState} (h : s.BanksAgree)
    (hrun : s.loop.state.running = true) (hb : b < 2) (hpending : (s.bank b).state = .pending) (ho : o < 2)
    (hactive : (s.bank o).state = .active) (hx : x = if s.bankNamed o then .retiring else .ready) :
    ((activate b s).modifyBank o fun r => { r with state := x }).BanksAgree := by
  have hne : b ≠ o := fun hbo => by rw [hbo, hactive] at hpending; cases hpending
  have hbo : ∀ c, c < 2 → c ≠ b → c = o := by omega
  have hxout : x ≠ .active ∧ x.inLoad = false := by rw [hx]; split <;> exact ⟨nofun, rfl⟩
  have hbank : ∀ c, ((activate b s).modifyBank o fun r => { r with state := x }).bank c =
      if o = c then { s.bank o with state := x }
      else if b = c then { s.bank b with state := .active, pendingFrame := none } else s.bank c := fun c => by
    rw [State.bank_modifyBank, activate_bank, activate_bank, if_neg hne]
  refine ⟨.of_active hb ?_ ?_ ?_ ?_, ?_, ?_, ?_, .of_running hrun⟩
  · rw [hbank, if_neg (Ne.symm hne), if_pos rfl]
  · intro c hc hcb
    rw [hbank, if_pos (hbo c hc hcb).symm]
    exact hxout.1
  · intro k hk hopen
    obtain ⟨hlt, hserves⟩ := h.used.served k hk hopen
    have hserved : (s.slot k).bank = o := hbo _ hlt fun heq => by
      rw [heq, hpending] at hserves
      exact hserves.elim nofun nofun
    have hnamed := (bankNamed_iff s o).mpr ⟨k, hk, hopen, hserved⟩
    refine ⟨hlt, ?_⟩
    change (((activate b s).modifyBank o _).bank (s.slot k).bank).state = _ ∨
      (((activate b s).modifyBank o _).bank (s.slot k).bank).state = _
    rw [hserved, hbank, if_pos rfl]
    exact .inr (by rw [hx, if_pos hnamed])
  · intro c hc hretiring
    have hco : c = o := hbo c hc fun hcb => by
      rw [hbank, hcb, if_neg (Ne.symm hne), if_pos rfl] at hretiring
      cases hretiring
    rw [hbank, if_pos hco.symm, hx] at hretiring
    by_cases hnamed : s.bankNamed o = true
    · exact hco ▸ (bankNamed_iff s o).mp hnamed
    · rw [if_neg hnamed] at hretiring
      cases hretiring
  · refine h.sized.of_sized fun c => ?_
    rw [hbank]
    split
    · next hoc => exact .inl (by simp [hoc])
    split
    · next hbc => exact .inl (by simp [hbc])
    · exact .refl _
  · refine h.load.of_keepsLoad (fun c => ?_) rfl
    rw [hbank]
    split
    · next hoc => exact .inr ⟨hxout.2, by rw [← hoc, hactive]; rfl⟩
    split
    · next hbc => exact .inr ⟨rfl, by rw [← hbc, hpending]; rfl⟩
    · exact .refl _
  · intro _
    rw [activeBank_isSome_iff, hbank, hbank]
    obtain rfl | rfl : b = 0 ∨ b = 1 := by omega
    · exact .inl (by simp [Ne.symm hne])
    · exact .inr (by simp [Ne.symm hne])

/-- R89. -/
theorem applySwap_banksAgree {g : Frame} (h : s.BanksAgree) (hrun : s.loop.state.running = true) :
    (applySwap g s).BanksAgree := by
  unfold applySwap
  split
  · exact h
  next b hb =>
  split
  · obtain ⟨o, ho⟩ := Option.isSome_iff_exists.mp (h.active hrun)
    obtain ⟨hb, hpending⟩ := pendingBank_pending hb
    obtain ⟨ho', hactive⟩ := activeBank_active ho
    simp only [ho]
    exact offerSwap_banksAgree (raise_banksAgree (swapBanks_banksAgree h hrun hb hpending ho' hactive rfl))
  · exact h

/-- R49: at rest both slots are FREE. -/
theorem State.BanksAgree.slot_free (h : s.BanksAgree) (hstop : s.loop.state.running = false) {k : Nat} (hk : k < 2) :
    (s.slot k).state = .free := by
  obtain ⟨⟨hfree0, hfree1⟩, -⟩ := h.quiet hstop
  obtain rfl | rfl : k = 0 ∨ k = 1 := by omega
  · exact hfree0
  · exact hfree1

/-- R87: in STOPPED no slot names a bank, and the new ACTIVE bank is the only one. -/
theorem activateAtRest_banksAgree {b : Nat} (h : s.BanksAgree) (hb : b < 2)
    (hready : (s.bank b).state = .ready) (hstop : s.loop.state.running = false)
    (hnone : s.activeBank = none) : (activate b s).BanksAgree := by
  have hinactive : ∀ c, c < 2 → (s.bank c).state ≠ .active := fun c hc hactive => by
    have hsome := (activeBank_isSome_iff s).mpr (by
      obtain rfl | rfl : c = 0 ∨ c = 1 := by omega
      · exact .inl hactive
      · exact .inr hactive)
    rw [hnone] at hsome
    cases hsome
  refine ⟨.of_active hb ?_ ?_ ?_ ?_, ?_, ?_, ?_, ?_⟩
  · rw [activate_bank, if_pos rfl]
  · intro c hc hcb
    rw [activate_bank, if_neg (Ne.symm hcb)]
    exact hinactive c hc
  · exact fun k hk hopen => absurd (h.slot_free hstop hk) hopen
  · intro c hc hretiring
    rw [activate_bank] at hretiring
    split at hretiring
    · cases hretiring
    · exact h.used.named c hc hretiring
  · exact h.sized.of_sized (setBank_each (P := fun old r => r.sized old) Bank.sized.refl (.inl ⟨rfl, rfl⟩))
  · exact h.load.of_keepsLoad (setBank_each (P := Bank.KeepsLoad) Bank.KeepsLoad.refl
      (.inr ⟨rfl, by rw [hready]; rfl⟩)) rfl
  · exact fun hrun => by
      rw [show (activate b s).loop = s.loop from rfl, hstop] at hrun
      cases hrun
  · refine h.quiet.keep id rfl (fun _ _ => id) rfl (fun _ _ => id) (fun _ => id) (fun hnone => ?_) id
    rw [swapPending_eq_false_iff] at *
    rw [activate_bank, activate_bank]
    exact ⟨by split <;> [exact nofun; exact hnone.1], by split <;> [exact nofun; exact hnone.2]⟩

theorem activeBank_eq_none_iff (s : State) :
    s.activeBank = none ↔ (s.bank 0).state ≠ .active ∧ (s.bank 1).state ≠ .active := by
  simp [State.activeBank]

/-- R87. -/
theorem swapNow_banksAgree {b : Nat} (h : s.BanksAgree) (hb : b < 2) (hready : (s.bank b).state = .ready)
    (hstop : s.loop.state.running = false) : (swapNow b s).BanksAgree := by
  unfold swapNow
  refine offerSwap_banksAgree (raise_banksAgree ?_)
  split
  · next hnone => exact activateAtRest_banksAgree h hb hready hstop hnone
  · next o ho =>
    obtain ⟨ho, hactive⟩ := activeBank_active ho
    have hretired : ∀ c, c < 2 →
        ((s.modifyBank o fun r => { r with state := .ready }).bank c).state ≠ .active := fun c hc => by
      rw [State.bank_modifyBank]
      split
      · exact nofun
      · next hne => exact fun hactive' => hne (h.used.active_unique ho hc hactive hactive')
    refine activateAtRest_banksAgree (modifyBank_banksAgree h
      (fun k hk hopen => absurd (h.slot_free hstop hk) hopen) (fun hrun => ?_) (by simp) nofun (.inl ⟨rfl, rfl⟩)
      (.inr ⟨rfl, by rw [hactive]; rfl⟩)) hb ?_ hstop ?_
    · rw [hstop] at hrun
      cases hrun
    · rw [State.bank_modifyBank]
      split <;> [rfl; exact hready]
    · exact (activeBank_eq_none_iff _).mpr ⟨hretired 0 (by omega), hretired 1 (by omega)⟩

end
end Sys2Proof.Machine

namespace Sys2Proof.Machine

section
set_option Elab.async false
variable {s t : State}

/-! #### The loader (R69 to R84) -/

/-- A descriptor that keeps its state and its sizes. -/
theorem setBank_banksAgree {b : Nat} {r : Bank} (h : s.BanksAgree) (hstate : r.state = (s.bank b).state)
    (hrows : r.rows = (s.bank b).rows) (hcolumns : r.columns = (s.bank b).columns) :
    (s.setBank b r).BanksAgree := by
  have huse : s.SameUse (s.setBank b r) := fun c _ => .inl
    (setBank_each (P := fun old r => r.state = old.state) (fun _ => rfl) hstate c)
  refine ⟨h.used.of_sameUse huse fun _ _ => ⟨rfl, Iff.rfl⟩,
    h.sized.of_sized (setBank_each (P := fun old r => r.sized old) Bank.sized.refl (.inl ⟨hrows, hcolumns⟩)),
    h.load.of_keepsLoad (setBank_each (P := Bank.KeepsLoad) Bank.KeepsLoad.refl (.inl ⟨hstate, hcolumns⟩)) rfl,
    fun hrun => huse.activeBank_isSome.trans (h.active hrun), ?_⟩
  exact h.quiet.keep id rfl (fun _ _ => id) rfl (fun _ _ => id) (fun _ => id) huse.swapPending id

/-- R69: the bank that the loader names is in the load, and the other is not. -/
theorem State.loadAgrees.bank (h : s.loadAgrees) {b : Nat} (hb : s.loader.state.bank = some b) :
    b < 2 ∧ (s.bank b).state.inLoad = true ∧ (s.bank (1 - b)).state.inLoad = false := by
  cases hl : s.loader.state with
  | idle => rw [hl] at hb; cases hb
  | loading c owner =>
    obtain ⟨hlt, hstate, hother, -⟩ := (State.loadAgrees_loading hl).mp h
    rw [hl] at hb
    obtain rfl : c = b := Option.some.inj hb
    exact ⟨hlt, by rw [hstate]; rfl, hother⟩
  | verifying c owner =>
    obtain ⟨hlt, hstate, hother⟩ := (State.loadAgrees_verifying hl).mp h
    rw [hl] at hb
    obtain rfl : c = b := Option.some.inj hb
    exact ⟨hlt, by rw [hstate]; rfl, hother⟩

theorem BankState.inUse_of_inLoad {x : BankState} (h : x.inLoad = true) : x.inUse = false := by
  cases x <;> simp_all [BankState.inLoad, BankState.inUse]

theorem BankState.out_of_replaceable {x : BankState} (h : x.replaceable = true) :
    x.inUse = false ∧ x.inLoad = false := by
  cases x <;> simp_all [BankState.replaceable, BankState.inLoad, BankState.inUse]

theorem Loader.agrees.not_inUse {l : Loader} {b : Nat} {x : BankState} (h : l.agrees b x) : x.inUse = false := by
  unfold Loader.agrees at h
  cases hl : l.state <;> rw [hl] at h
  case idle => exact (BankState.out_of_replaceable h).1
  case loading =>
    obtain ⟨-, rfl, -⟩ := h
    rfl
  case verifying =>
    obtain ⟨-, rfl⟩ := h
    rfl

/-- R69: a load moves on from a bank that is not in use, while the other is not in the load. -/
theorem load_banksAgree {b : Nat} {r : Bank} {l : Loader} (h : s.BanksAgree)
    (hold : (s.loader.state = .idle ∧ b < 2 ∧ (s.bank b).state.inUse = false) ∨ s.loader.state.bank = some b)
    (hsize : r.sized (s.bank b)) (hnew : l.agrees b r.state) :
    ({ s.setBank b r with loader := l } : State).BanksAgree := by
  obtain ⟨hb, houtUse, hother⟩ : b < 2 ∧ (s.bank b).state.inUse = false ∧ (s.bank (1 - b)).state.inLoad = false := by
    rcases hold with ⟨hidle, hb, houtUse⟩ | hnamed
    · have hload := h.load
      unfold State.loadAgrees at hload
      rw [hidle] at hload
      exact ⟨hb, houtUse, hload _ (by omega)⟩
    · obtain ⟨hb, hin, hother⟩ := h.load.bank hnamed
      exact ⟨hb, BankState.inUse_of_inLoad hin, hother⟩
  have huse : s.SameUse { s.setBank b r with loader := l } := fun c _ =>
    setBank_each (P := fun old r => r.state = old.state ∨ (r.state.inUse = false ∧ old.state.inUse = false))
      (fun _ => .inl rfl) (.inr ⟨hnew.not_inUse, houtUse⟩) c
  have hbank : ∀ c, ({ s.setBank b r with loader := l } : State).bank c = if b = c then r else s.bank c :=
    (State.bank_setBank s b · r)
  have hne : b ≠ 1 - b := by omega
  refine ⟨h.used.of_sameUse huse fun _ _ => ⟨rfl, Iff.rfl⟩, h.sized.of_sized
    (setBank_each (P := fun old r => r.sized old) Bank.sized.refl hsize), ?_,
    fun hrun => huse.activeBank_isSome.trans (h.active hrun), ?_⟩
  · unfold Loader.agrees at hnew
    cases hl : l.state with
    | idle =>
      rw [hl] at hnew
      refine (State.loadAgrees_idle (by exact hl)).mpr fun c hc => ?_
      rw [hbank]
      split
      · exact (BankState.out_of_replaceable hnew).2
      · next hbc =>
        obtain rfl : c = 1 - b := by omega
        exact hother
    | loading c owner =>
      rw [hl] at hnew
      obtain ⟨rfl, hstate, ha, hb'⟩ := hnew
      refine (State.loadAgrees_loading (by exact hl)).mpr ?_
      rw [hbank, hbank, if_pos rfl, if_neg hne]
      refine ⟨hb, hstate, hother, fun name x hx => ?_⟩
      cases name <;> simp_all [Loader.buffer]
    | verifying c owner =>
      rw [hl] at hnew
      obtain ⟨rfl, hstate⟩ := hnew
      refine (State.loadAgrees_verifying (by exact hl)).mpr ?_
      rw [hbank, hbank, if_pos rfl, if_neg hne]
      exact ⟨hb, hstate, hother⟩
  · exact h.quiet.keep id rfl (fun _ _ => id) rfl (fun _ _ => id) (fun _ => id) huse.swapPending id

/-- R74, R75: the buffers go on holding columns of the load. -/
theorem loader_banksAgree {l : Loader} (h : s.BanksAgree) (hstate : l.state = s.loader.state)
    (hbuffer : ∀ name x, l.buffer name = some x →
      (∃ y, s.loader.buffer name = some y ∧ y.column = x.column) ∨
        ∃ b owner, s.loader.state = .loading b owner ∧ x.column < (s.bank b).columnCount) :
    ({ s with loader := l } : State).BanksAgree := by
  refine ⟨h.used.of_eq rfl rfl, h.sized, ?_, h.active, h.quiet.keep id rfl (fun _ _ => id) rfl (fun _ _ => id)
    (fun _ => id) id id⟩
  cases hl : s.loader.state with
  | idle => exact (State.loadAgrees_idle (hstate.trans hl)).mpr ((State.loadAgrees_idle hl).mp h.load)
  | verifying b owner =>
    exact (State.loadAgrees_verifying (hstate.trans hl)).mpr ((State.loadAgrees_verifying hl).mp h.load)
  | loading b owner =>
    obtain ⟨hb, hbank, hother, hheld⟩ := (State.loadAgrees_loading hl).mp h.load
    refine (State.loadAgrees_loading (hstate.trans hl)).mpr ⟨hb, hbank, hother, fun name x hx => ?_⟩
    obtain ⟨y, hy, hcolumn⟩ | ⟨c, owner', hc, hlt⟩ := hbuffer name x hx
    · rw [← hcolumn]
      exact hheld name y hy
    · rw [hl] at hc
      cases hc
      exact hlt

/-! #### Rest and resets -/

theorem scanAbort_scan (cause : EndCause) (s : State) : (scanAbort cause s).scan.state ≠ .running := by
  unfold scanAbort
  split
  · simp
  · assumption

/-- R12: a present link's queue is emptied. -/
theorem emptyQueues_receiver (s : State) {n : Nat} (hn : s.hasSlopeLink n = true) :
    (emptyQueues s).receiver n = { s.receiver n with queue := [], headWaiting := false } :=
  (forReceivers_receiver s (fun r => { r with queue := [], headWaiting := false }) (fun _ => rfl) n).trans
    (if_pos hn)

/-- R156: the entry to STOPPED or SAFE up to the freeing of the slots. -/
def haltLoop (entered : LoopState) (cause : LoopCause) (frame : Option Frame) (scanCause : EndCause)
    (s : State) : State :=
  abandonStage (cancelSwap (scanAbort scanCause { clearRuns (changeLoop entered cause frame s) with
    loop := { (clearRuns (changeLoop entered cause frame s)).loop with pendingTransition := none } }))

section
variable {entered : LoopState} {cause : LoopCause} {frame : Option Frame} {scanCause : EndCause}

theorem enterRest_eq : enterRest entered cause frame scanCause s =
    abandonShape (emptyQueues (freeSlots (haltLoop entered cause frame scanCause s))) := rfl

theorem haltLoop_loop : (haltLoop entered cause frame scanCause s).loop =
    { (clearRuns (changeLoop entered cause frame s)).loop with pendingTransition := none } := by
  simp [haltLoop]

theorem haltLoop_scan : (haltLoop entered cause frame scanCause s).scan.state ≠ .running := by
  have hscan := scanAbort_scan scanCause { clearRuns (changeLoop entered cause frame s) with
    loop := { (clearRuns (changeLoop entered cause frame s)).loop with pendingTransition := none } }
  simpa [haltLoop] using hscan

theorem haltLoop_banks : (haltLoop entered cause frame scanCause s).banks = (cancelSwap s).banks := by
  have hbanks : ∀ t : State, t.banks = s.banks → (cancelSwap t).banks = (cancelSwap s).banks := fun t ht => by
    have hpending : t.pendingBank = s.pendingBank := by
      unfold State.pendingBank State.bank
      rw [ht]
    unfold cancelSwap
    rw [hpending]
    split
    · exact ht
    · simp [State.modifyBank, State.setBank, State.bank, ht]
  simpa [haltLoop] using hbanks _ (by simp)

theorem haltLoop_banksHold (h : s.BanksHold) : (haltLoop entered cause frame scanCause s).BanksHold :=
  (cancelSwap_banksHold h).of_eq haltLoop_banks (by simp [haltLoop]) (by simp [haltLoop])

theorem haltLoop_swapPending (h : ¬ ((s.bank 0).state = .pending ∧ (s.bank 1).state = .pending)) :
    (haltLoop entered cause frame scanCause s).swapPending = false :=
  (swapPending_congr haltLoop_banks).trans (cancelSwap_swapPending h)

/-- R156: the last steps of the entry leave the loop, the scan, the slots and the banks. -/
theorem enterRest_loop : (enterRest entered cause frame scanCause s).loop =
    (haltLoop entered cause frame scanCause s).loop := by
  rw [enterRest_eq, (abandonShape_flight _).1]
  simp

theorem enterRest_slots : (enterRest entered cause frame scanCause s).slots =
    (freeSlot 1 (freeSlot 0 (haltLoop entered cause frame scanCause s))).slots := by
  simp [enterRest_eq, freeSlots]

theorem enterRest_banks : (enterRest entered cause frame scanCause s).banks =
    (freeSlot 1 (freeSlot 0 (haltLoop entered cause frame scanCause s))).banks := by
  simp [enterRest_eq, freeSlots]

theorem enterRest_slot_free {k : Nat} (hk : k < 2) :
    ((enterRest entered cause frame scanCause s).slot k).state = .free := by
  rw [State.slot, enterRest_slots, ← State.slot]
  obtain rfl | rfl : k = 0 ∨ k = 1 := by omega
  · exact freeSlot_slot_free (freeSlot_slot_self 0 _)
  · exact freeSlot_slot_self 1 _

theorem enterRest_scan : (enterRest entered cause frame scanCause s).scan.state ≠ .running := by
  simpa [enterRest_eq] using haltLoop_scan

theorem enterRest_receiver {n : Nat} (hn : s.hasSlopeLink n = true) :
    (enterRest entered cause frame scanCause s).receiver n =
      { s.receiver n with queue := [], headWaiting := false } := by
  have hlink : (freeSlots (haltLoop entered cause frame scanCause s)).hasSlopeLink n = true := by
    simpa [State.hasSlopeLink, haltLoop] using hn
  have hreceiver : (enterRest entered cause frame scanCause s).receiver n =
      (emptyQueues (freeSlots (haltLoop entered cause frame scanCause s))).receiver n := by
    simp [enterRest_eq, State.receiver]
  rw [hreceiver, emptyQueues_receiver _ hlink]
  obtain hsame | hreleased := freeSlots_receiver (haltLoop entered cause frame scanCause s) n
  · rw [hsame]
    simp [State.receiver, haltLoop]
  · rw [hreleased]
    simp [State.receiver, haltLoop]

theorem enterRest_swapPending (h : ¬ ((s.bank 0).state = .pending ∧ (s.bank 1).state = .pending)) :
    (enterRest entered cause frame scanCause s).swapPending = false := by
  rw [swapPending_congr enterRest_banks]
  exact freeSlot_swapPending (freeSlot_swapPending (haltLoop_swapPending h))

theorem enterRest_state : (enterRest entered cause frame scanCause s).loop.state = entered := by
  rw [enterRest_loop, haltLoop_loop]
  exact changeLoop_state ..

theorem enterRest_transition : (enterRest entered cause frame scanCause s).loop.pendingTransition = none := by
  rw [enterRest_loop, haltLoop_loop]

theorem enterRest_lastClosed : (enterRest entered cause frame scanCause s).lastClosed = none := by
  simp [enterRest_eq, freeSlots]

theorem enterRest_banksHold (h : s.BanksHold) : (enterRest entered cause frame scanCause s).BanksHold := by
  have hfreed := freeSlot_banksHold (k := 1) (freeSlot_banksHold (k := 0)
    (haltLoop_banksHold (entered := entered) (cause := cause) (frame := frame) (scanCause := scanCause) h))
  exact hfreed.of_eq enterRest_banks enterRest_slots (by simp [haltLoop])

theorem enterRest_quiet (h : s.BanksUsed) : (enterRest entered cause frame scanCause s).quietAtRest := by
  intro _
  refine ⟨⟨enterRest_slot_free (by omega), enterRest_slot_free (by omega)⟩, enterRest_lastClosed, ?_,
    enterRest_scan, enterRest_swapPending h.onePending, enterRest_transition⟩
  intro n hn
  rw [enterRest_receiver (by simpa [State.hasSlopeLink] using hn)]

/-- R156: at rest the slots are FREE, the queues are empty and nothing is pending. -/
theorem enterRest_banksAgree (h : s.BanksAgree) (hrest : entered.running = false) :
    (enterRest entered cause frame scanCause s).BanksAgree := by
  have hhold : (enterRest entered cause frame scanCause s).BanksHold := enterRest_banksHold h.hold
  refine ⟨hhold.used, hhold.sized, hhold.load, fun hrun => ?_, enterRest_quiet h.used⟩
  rw [enterRest_state, hrest] at hrun
  cases hrun

end

/-- R94: a bank at the soft reset is ACTIVE as it was, or in a state that a fresh open takes. -/
theorem softBank_state (keep : Bool) (b : Nat) (r : Bank) :
    (softBank keep b r).state = r.state ∧ r.state = .active ∨ (softBank keep b r).state.replaceable = true := by
  unfold softBank
  split
  · exact .inr rfl
  · split <;> cases hr : r.state <;> simp_all [Bank.reset, BankState.replaceable]

theorem softBank_sized (keep : Bool) (b : Nat) (r : Bank) : (softBank keep b r).sized r := by
  have hreset : (Bank.reset b).sized r := .inr ⟨Nat.zero_le _, Nat.zero_le _⟩
  unfold softBank
  split
  · exact hreset
  split
  · exact hreset
  · exact hreset
  all_goals exact .inl ⟨rfl, rfl⟩

theorem softReset_bank_state (s : State) {b : Nat} (hb : b < 2) :
    ((softReset s).bank b).state = (s.bank b).state ∧ (s.bank b).state = .active ∨
      ((softReset s).bank b).state.replaceable = true := by
  rw [softReset_bank, if_pos hb]
  exact softBank_state ..

/-- R17, R51, R94, R166: after the soft reset the part is at rest with no load. -/
theorem softReset_banksAgree (h : s.BanksAgree) : (softReset s).BanksAgree := by
  have hnot : ∀ b, b < 2 → ∀ x : BankState, x ≠ .active → x.replaceable = false →
      ((softReset s).bank b).state ≠ x := fun b hb x hx hxr hstate => by
    obtain ⟨hsame, hactive⟩ | hrep := softReset_bank_state s hb
    · exact hx (by rw [← hstate, hsame, hactive])
    · rw [hstate, hxr] at hrep
      cases hrep
  have hactive : ∀ b, b < 2 → ((softReset s).bank b).state = .active → (s.bank b).state = .active :=
    fun b hb hstate => by
      obtain ⟨-, hactive⟩ | hrep := softReset_bank_state s hb
      · exact hactive
      · rw [hstate] at hrep
        cases hrep
  have hslot : ∀ k, ((softReset s).slot k).state = .free := fun k => by
    rw [State.slot, softReset_slots]
    rfl
  have hloop : (softReset s).loop.state = .stopped ∧ (softReset s).loop.pendingTransition = none := by
    rw [softReset_loop, softLoop]
    split <;> exact ⟨rfl, rfl⟩
  refine ⟨⟨fun hboth => ?_, fun hboth => ?_, fun k _ hopen => absurd (hslot k) hopen, fun b hb hr => ?_⟩,
    h.sized.of_sized fun b => ?_, ?_, fun hrun => ?_, fun _ => ⟨⟨hslot 0, hslot 1⟩, softReset_lastClosed s, ?_, ?_,
    ?_, hloop.2⟩⟩
  · exact h.used.oneActive ⟨hactive 0 (by omega) hboth.1, hactive 1 (by omega) hboth.2⟩
  · exact hnot 0 (by omega) .pending nofun rfl hboth.1
  · exact absurd hr (hnot b hb .retiring nofun rfl)
  · rw [softReset_bank]
    split
    · exact softBank_sized ..
    · exact .refl _
  · refine (State.loadAgrees_idle (by rw [softReset_loader]; rfl)).mpr fun b hb => ?_
    obtain ⟨hsame, hactive⟩ | hrep := softReset_bank_state s hb
    · rw [hsame, hactive]; rfl
    · exact (BankState.out_of_replaceable hrep).2
  · rw [hloop.1] at hrun
    cases hrun
  · intro n hn
    rw [softReset_receiver, if_pos (by simpa [State.hasSlopeLink] using hn)]
    rfl
  · rw [softReset_scan]
    exact nofun
  · rw [swapPending_eq_false_iff]
    exact ⟨hnot 0 (by omega) .pending nofun rfl, hnot 1 (by omega) .pending nofun rfl⟩

/-- R201. -/
theorem hardReset_banksAgree (s : State) : (hardReset s).BanksAgree := by
  have hempty : ∀ b, ((hardReset s).bank b).state = .empty := fun _ => rfl
  refine ⟨⟨nofun, nofun, fun k _ hopen => absurd rfl hopen, nofun⟩,
    fun _ => ⟨Nat.zero_le _, Nat.zero_le _⟩, ?_, nofun,
    fun _ => ⟨⟨rfl, rfl⟩, rfl, fun _ _ => rfl, nofun, rfl, rfl⟩⟩
  exact (State.loadAgrees_idle rfl).mpr fun b _ => by rw [hempty]; rfl

/-! #### Every step (O7) -/

/-- What a command does keeps the banks in agreement: one case per move. -/
theorem Moves.banksAgree {s₀ : State} (hmoves : Moves s₀ s) (h₀ : s₀.BanksAgree) : s.BanksAgree := by
  induction hmoves with
  | start => exact h₀
  | same _ hsame ih => exact hsame.banksAgree ih
  | receiver _ n r hqueue ih => exact setReceiver_banksAgree ih hqueue
  | join _ n segment ih => exact joinQueue_banksAgree ih
  | offer _ r copy ih => exact offer_banksAgree ih
  | telem | store | dram | hold =>
    rename_i ih
    exact ih.of_queues rfl rfl rfl rfl rfl rfl (fun _ _ => id) rfl rfl
  | slot _ k r hbank hfree ih => exact setSlot_banksAgree ih hbank hfree
  | free _ k ih => exact freeSlot_banksAgree ih
  | swap _ f hrun ih => exact applySwap_banksAgree ih hrun
  | opens _ k r hrun hfree hbank ih => exact openSlot_banksAgree ih hrun hfree hbank
  | closes _ f hk hslot ih => exact close_banksAgree ih hk hslot
  | loop _ l hrun hl ih => exact ih.of_eq rfl rfl rfl (fun _ => hrun) (.of_running hl)
  | scan _ c hrun ih => exact scan_banksAgree ih hrun
  | cancel _ ih => exact cancelSwap_banksAgree ih
  | swapNow _ hb hready hstop ih => exact swapNow_banksAgree ih hb hready hstop
  | swapLater _ at? hb hready hrun hnone ih => exact swapLater_banksAgree ih hready hrun hnone
  | bank _ b r hstate hrows hcolumns ih => exact setBank_banksAgree ih hstate hrows hcolumns
  | clear _ b hb ih => exact clear_banksAgree ih hb
  | load _ r l hold hsize hnew ih => exact load_banksAgree ih hold hsize hnew
  | loader _ l hstate hbuffer ih => exact loader_banksAgree ih hstate hbuffer
  | rest _ hrest cause frame scanCause ih => exact enterRest_banksAgree ih hrest
  | softReset _ ih => exact softReset_banksAgree ih
  | hardReset _ _ => exact hardReset_banksAgree _

/-- R52: a fill-in pass works for a slot in FILL. -/
theorem State.engineHasSlot.fill_not_free (h : s.engineHasSlot) {w : FillWork} (hw : s.engine.work = .fill w) :
    (s.slot w.slot).state ≠ .free := by
  unfold State.engineHasSlot at h
  rw [hw] at h
  rw [h.2]
  exact nofun

/-- Settles O7, by induction on the moves that a command makes. RESIDUALS_DONE makes READY the slot of the
pass, which the engine's agreement with the slots says is not FREE. -/
theorem banksStaySound : Obligations.BanksStaySound := by
  intro s t hslots hbanks hstep
  obtain ⟨-, -, hengine, -⟩ := hslots
  have h := s.banksSound_iff.mp hbanks
  refine t.banksSound_iff.mpr ?_
  rcases step_cases hstep with rfl | ⟨c, rest, hexec⟩
  · exact h.of_queues rfl rfl rfl rfl rfl rfl (fun _ _ => id) rfl rfl
  have hrest : ({ s with pending := rest } : State).BanksAgree :=
    h.of_queues rfl rfl rfl rfl rfl rfl (fun _ _ => id) rfl rfl
  have hpass : ∀ w, s.engine.work = .fill w →
      Moves { s with pending := rest } (finishPass w.slot { s with pending := rest }) := fun w hw =>
    finishPass_moves .start (hengine.fill_not_free hw)
  have hmoves : Moves { s with pending := rest } t := by
    by_cases hc : c = .residualsDone
    · subst hc
      exact residualsDone_leadsByMoves .start hpass t hexec
    · exact exec_leadsByMoves .start hc t hexec
  exact hmoves.banksAgree hrest

end
end Sys2Proof.Machine

namespace Sys2Proof.Machine

section
set_option Elab.async false

/-! ### Slope links: line, reception and arriving segments (O18, O19, O20) -/

variable {n : Nat} {s : State}

/-- Changes of a receiver that agree on the receiver as it is are the same. -/
theorem modifyReceiver_congr {f g : Receiver → Receiver} (h : f (s.receiver n) = g (s.receiver n)) :
    s.modifyReceiver n f = s.modifyReceiver n g := congrArg (s.setReceiver n) h

/-- An event of a present link, with the reset line released. -/
theorem awake_onReceiver (hawake : s.resetLow = false) (hlink : s.hasSlopeLink n = true) (f : State → State) :
    awake s (onReceiver n f) = .next (f s) := by
  simp [awake, onReceiver, hawake, hlink]

theorem lockGained_down (h : (s.receiver n).line = .down) : lockGained n s =
    s.modifyReceiver n (fun r => { r with line := .up, silenceRunning := true, reception := none }) := if_pos h

theorem lockGained_up (h : (s.receiver n).line = .up) : lockGained n s = s := if_neg (by simp [h])

theorem lineDown_up (h : (s.receiver n).line = .up) : lineDown n s = raise .linkDown (s.modifyReceiver n (fun r =>
    { r with line := .down, silenceRunning := false, reception := none, downCount := r.downCount + 1 })) := if_pos h

theorem lineDown_down (h : (s.receiver n).line = .down) : lineDown n s = s := if_neg (by simp [h])

theorem cutReception_none (h : (s.receiver n).line = .down ∨ (s.receiver n).reception = none) :
    cutReception n s = s := if_neg (by rcases h with h | h <;> simp [h])

theorem cutReception_some (hup : (s.receiver n).line = .up) (h : (s.receiver n).reception.isSome = true) :
    cutReception n s = s.modifyReceiver n (fun r => { r with reception := none, crcFail := r.crcFail + 1 }) :=
  if_pos ⟨hup, h⟩

theorem beginReception_down (gathered : List Byte) (h : (s.receiver n).line = .down) :
    beginReception n gathered s = s := if_neg (by simp [h])

theorem beginReception_up (gathered : List Byte) (h : (s.receiver n).line = .up) :
    beginReception n gathered s = (cutReception n s).modifyReceiver n (fun r => r.gather gathered) := if_pos h

/-- R8: a start delimiter that cuts a reception short counts it, and then gathers. -/
theorem beginReception_some (gathered : List Byte) (hup : (s.receiver n).line = .up)
    (h : (s.receiver n).reception.isSome = true) : beginReception n gathered s = s.modifyReceiver n (fun r =>
      Receiver.gather { r with reception := none, crcFail := r.crcFail + 1 } gathered) := by
  rw [beginReception_up gathered hup, cutReception_some hup h, State.modifyReceiver_modifyReceiver]

theorem beginReception_none (gathered : List Byte) (hup : (s.receiver n).line = .up)
    (h : (s.receiver n).reception = none) :
    beginReception n gathered s = s.modifyReceiver n (fun r => r.gather gathered) := by
  rw [beginReception_up gathered hup, cutReception_none (.inr h)]

/-- Settles O18: the events row by row, first in DOWN, then in UP. -/
theorem lineAndReceptionFollowSymbols : Obligations.LineAndReceptionFollowSymbols := by
  intro n gathered s hawake hlink down begun becomes
  have hevent := awake_onReceiver hawake hlink
  refine ⟨fun hdown => ⟨?_, ?_, ?_, ?_, ?_, ?_⟩, fun hup => ⟨?_, ?_, fun hruns => ?_, fun hsome => ⟨?_, ?_, ?_, ?_⟩,
    fun hnone => ⟨?_, ?_, ?_, ?_⟩⟩⟩
  · exact (hevent _).trans (by rw [lockGained_down hdown])
  · exact (hevent _).trans (by rw [lineDown_down hdown])
  · exact (hevent _).trans (by rw [lineDown_down hdown, ite_self])
  · exact (hevent _).trans (by rw [beginReception_down _ hdown])
  · exact (hevent _).trans (by rw [cutReception_none (.inl hdown)])
  · exact (hevent _).trans (by rw [cutReception_none (.inl hdown)])
  · exact (hevent _).trans (by rw [lockGained_up hup])
  · exact (hevent _).trans (by rw [lineDown_up hup])
  · exact (hevent _).trans (by rw [if_pos hruns, lineDown_up hup])
  · intro hfits
    refine (hevent _).trans (congrArg _ ((beginReception_some gathered hup hsome).trans (modifyReceiver_congr ?_)))
    exact Receiver.gather_fits _ _ hfits
  · intro hexcess
    refine (hevent _).trans (congrArg _ ((beginReception_some gathered hup hsome).trans (modifyReceiver_congr ?_)))
    rw [Receiver.gather_excess _ _ hexcess, BitVec.add_assoc]
    rfl
  · exact (hevent _).trans (by rw [cutReception_some hup hsome])
  · exact (hevent _).trans (by rw [cutReception_some hup hsome])
  · intro hfits
    refine (hevent _).trans (congrArg _ ((beginReception_none gathered hup hnone).trans (modifyReceiver_congr ?_)))
    rw [Receiver.gather_fits _ _ hfits, add_zero]
  · intro hexcess
    refine (hevent _).trans (congrArg _ ((beginReception_none gathered hup hnone).trans (modifyReceiver_congr ?_)))
    exact Receiver.gather_excess _ _ hexcess
  · exact (hevent _).trans (by rw [cutReception_none (.inr hnone)])
  · exact (hevent _).trans (by rw [cutReception_none (.inr hnone)])

/-! #### The checks of R9 -/

theorem arrive_ignored (bytes : List Byte) (h : (s.receiver n).line = .down ∨ (s.receiver n).reception = none) :
    arrive n bytes s = s := by
  unfold arrive
  split
  · next hup hsome => rcases h with h | h <;> simp_all
  · rfl

section
variable {gathered bytes : List Byte} (hup : (s.receiver n).line = .up)
  (hreception : (s.receiver n).reception = some gathered)
include hup hreception

/-- R9: a segment is judged with its reception ended, which no check looks at. -/
theorem arrive_crcFail (hfate : checkSegment s n (gathered ++ bytes) = .crcFail) : arrive n bytes s =
    s.modifyReceiver n (fun r => { r with reception := none, crcFail := r.crcFail + 1 }) := by
  replace hfate : checkSegment (s.modifyReceiver n (fun r => { r with reception := none })) n
    (gathered ++ bytes) = .crcFail := hfate
  simp only [arrive, hup, hreception, hfate, State.modifyReceiver_modifyReceiver]

theorem arrive_misrouted (hfate : checkSegment s n (gathered ++ bytes) = .misrouted) : arrive n bytes s =
    s.modifyReceiver n (fun r => { r with reception := none, misrouted := r.misrouted + 1 }) := by
  replace hfate : checkSegment (s.modifyReceiver n (fun r => { r with reception := none })) n
    (gathered ++ bytes) = .misrouted := hfate
  simp only [arrive, hup, hreception, hfate, State.modifyReceiver_modifyReceiver]

theorem arrive_range (hfate : checkSegment s n (gathered ++ bytes) = .range) : arrive n bytes s =
    s.modifyReceiver n (fun r => { r with reception := none, range := r.range + 1 }) := by
  replace hfate : checkSegment (s.modifyReceiver n (fun r => { r with reception := none })) n
    (gathered ++ bytes) = .range := hfate
  simp only [arrive, hup, hreception, hfate, State.modifyReceiver_modifyReceiver]

theorem arrive_passes {segment : Segment} (hfate : checkSegment s n (gathered ++ bytes) = .passes segment) :
    arrive n bytes s = settle (joinQueue n segment (s.modifyReceiver n (fun r => { r with reception := none }))) := by
  replace hfate : checkSegment (s.modifyReceiver n (fun r => { r with reception := none })) n
    (gathered ++ bytes) = .passes segment := hfate
  simp only [arrive, hup, hreception, hfate]

end

theorem checkSegment_crcFail {whole : List Byte} (h : 136 < whole.length ∨ segmentFields whole = none) :
    checkSegment s n whole = .crcFail := by
  have hnone : (if longestSegment < whole.length then none else segmentFields whole) = none := by
    split
    · rfl
    · next hfits => exact h.resolve_left hfits
  simp only [checkSegment, hnone]

/-- R9: the checks of a sound segment. -/
theorem checkSegment_sound {whole : List Byte} {f : SegmentFields} (hlength : whole.length ≤ 136)
    (hfields : segmentFields whole = some f) : checkSegment s n whole =
      if f.tag ≠ (s.sensor n).tag then .misrouted
      else if f.count < 1 ∨ 64 < f.count ∨ f.exact = false then .range
      else if (s.sensor n).slopeCount < f.first + f.count then .range
      else .passes { sensor := n, frame := f.frame, first := f.first, count := f.count, last := f.last,
                     slopes := f.slopes } := by
  have hsome : (if longestSegment < whole.length then none else segmentFields whole) = some f := by
    rw [if_neg (show ¬ longestSegment < whole.length from Nat.not_lt.mpr hlength), hfields]
  simp only [checkSegment, hsome]

/-- Settles O19: the checks one by one. -/
theorem arrivingSegmentIsChecked : Obligations.ArrivingSegmentIsChecked := by
  intro n bytes s hawake hlink fails
  have hevent := awake_onReceiver hawake hlink (arrive n bytes)
  refine ⟨fun h => hevent.trans (by rw [arrive_ignored bytes h]), ?_⟩
  intro gathered hup hreception whole
  refine ⟨fun h => ?_, fun f hlength hfields htag => ?_, fun f hlength hfields htag hrange => ?_⟩
  · exact hevent.trans (congrArg _ (arrive_crcFail hup hreception (checkSegment_crcFail h)))
  · refine hevent.trans (congrArg _ (arrive_misrouted hup hreception ?_))
    rw [checkSegment_sound hlength hfields, if_pos htag]
  · refine hevent.trans (congrArg _ (arrive_range hup hreception ?_))
    rw [checkSegment_sound hlength hfields, if_neg (not_not_intro htag)]
    split
    · rfl
    · next hcounts => rw [if_pos (by tauto)]

/-- R10: what joins the queue, with the reception that brought it ended. -/
theorem joinQueue_room {segment : Segment} (hroom : (s.receiver n).queue.length < 8) :
    joinQueue n segment (s.modifyReceiver n (fun r => { r with reception := none })) =
      s.modifyReceiver n (fun r => { r with
        reception := none, queue := if s.loop.state.running then r.queue ++ [segment] else r.queue,
        accepted := r.accepted + 1 }) := by
  unfold joinQueue
  rw [State.modifyReceiver_modifyReceiver]
  exact modifyReceiver_congr (if_pos hroom)

theorem joinQueue_full {segment : Segment} (hfull : 8 ≤ (s.receiver n).queue.length) :
    joinQueue n segment (s.modifyReceiver n (fun r => { r with reception := none })) =
      s.modifyReceiver n (fun r => { r with reception := none, queueOverflow := r.queueOverflow + 1 }) := by
  unfold joinQueue
  rw [State.modifyReceiver_modifyReceiver]
  exact modifyReceiver_congr (if_neg (Nat.not_lt.mpr hfull))

/-- R9: a segment whose slopes are those it counts is as long as they need. -/
theorem segmentFields_length {whole : List Byte} {f : SegmentFields} (hfields : segmentFields whole = some f)
    (hexact : f.exact = true) : whole.length - 8 = 2 * f.count := by
  unfold segmentFields at hfields
  split at hfields
  · cases hfields
  · obtain rfl := Option.some.inj hfields
    exact of_decide_eq_true hexact

/-- R9: a segment that meets every check passes. -/
theorem checkSegment_passes {whole : List Byte} {f : SegmentFields} (hfields : segmentFields whole = some f)
    (htag : f.tag = (s.sensor n).tag) (hlow : 1 ≤ f.count) (hhigh : f.count ≤ 64) (hexact : f.exact = true)
    (hcovered : f.first + f.count ≤ (s.sensor n).slopeCount) : checkSegment s n whole =
      .passes { sensor := n, frame := f.frame, first := f.first, count := f.count, last := f.last,
                slopes := f.slopes } := by
  have hlength := segmentFields_length hfields hexact
  rw [checkSegment_sound (by omega) hfields, if_neg (not_not_intro htag), if_neg, if_neg (by omega)]
  rintro (h | h | h)
  · omega
  · omega
  · rw [hexact] at h
    cases h

/-- A change of a receiver leaves the part at rest or busy. -/
theorem settle_modifyReceiver (f : Receiver → Receiver) (h : s.loop.state.running = false ∨ s.busy) :
    settle (s.modifyReceiver n f) = s.modifyReceiver n f :=
  h.elim (settle_rest (s.modifyReceiver n f)) (settle_busy (s.modifyReceiver n f))

/-- Settles O20: the segment passes, and then joins a queue that has room or finds it full; nothing begins,
since the part is at rest or busy. -/
theorem passingSegmentJoinsQueue : Obligations.PassingSegmentJoinsQueue := by
  intro n gathered bytes f s hawake hlink hup hreception hfields htag hlow hhigh hexact hcovered segment
  have hevent : exec (.segmentArrival n bytes) s =
      .next (settle (joinQueue n segment (s.modifyReceiver n (fun r => { r with reception := none })))) :=
    (awake_onReceiver hawake hlink (arrive n bytes)).trans (congrArg _ (arrive_passes hup hreception
      (checkSegment_passes hfields htag hlow hhigh hexact hcovered)))
  refine ⟨fun hroom hstop => ?_, fun hroom hrun hbusy => ?_, fun hfull hquiet => ?_⟩
  · rw [hevent, joinQueue_room hroom, settle_modifyReceiver _ (.inl hstop)]
    exact congrArg _ (modifyReceiver_congr (by simp [hstop]))
  · rw [hevent, joinQueue_room hroom, settle_modifyReceiver _ (.inr hbusy)]
    exact congrArg _ (modifyReceiver_congr (by simp [hrun]))
  · rw [hevent, joinQueue_full hfull, settle_modifyReceiver _ hquiet]

end
end Sys2Proof.Machine

namespace Sys2Proof.Machine

section
set_option Elab.async false

/-! ### Status and read requests (O56) -/

/-- A report is answered OK, and changes nothing else. -/
theorem request_of_report {env : Envelope} {s : State} (h : arrives env s) (code : Nat) {body : State → Verdict}
    (payload : State → List Byte)
    (hv : body (takeFrame env s) = .report (payload (takeFrame env s)) (takeFrame env s)) :
    request env code body s = .next (okReport env payload s) := request_of_verdict h code hv

section
variable {env : Envelope} {s : State} (hfit : env.payloadFits = true)
include hfit

theorem linkStatusBody_slope {n : Nat} (hlink : s.hasSlopeLink n = true) :
    linkStatusBody env 0 n s = .report (slopeLinkPayload s n) s := by
  simp [linkStatusBody, whenFits_true, hfit, linkKind, hlink]

theorem linkStatusBody_drive {l : Nat} (hlink : s.hasDriveLink l = true) :
    linkStatusBody env 1 l s = .report (driveLinkPayload s l) s := by
  simp [linkStatusBody, whenFits_true, hfit, linkKind, hlink]

theorem sensorReadBody_report {n : Nat} (hlink : s.hasSlopeLink n = true) : sensorReadBody env n s =
    .report (be8 (s.sensor n).role.number ++ be16 (s.sensor n).slopeCount ++ be16 (s.sensor n).scale ++
      be8 (s.sensor n).tag) s := by
  simp [sensorReadBody, whenFits_true, hfit, hlink]

theorem refReadBody_report {n first count : Nat} (hlink : s.hasSlopeLink n = true) (hlow : 1 ≤ count)
    (hhigh : count ≤ 1000) (hlast : first + count ≤ 2048) : refReadBody env n first count s =
      .report ((Table.getList zeroes (s.sensor n).refs first count).flatMap beInt16) s := by
  rw [refReadBody, whenFits_true _ _ _ hfit, if_neg (by simp [hlink]), if_neg (by omega),
    if_neg (show ¬ Config.slopesPerSensor < first + count from Nat.not_lt.mpr hlast)]

theorem storeReadBody_report {first count : Nat} (hlow : 1 ≤ count) (hhigh : count ≤ 1000)
    (hlast : first + count ≤ Config.columns s.variant) : storeReadBody env first count s =
      .report ((Table.getList zeroes s.store first count).flatMap beInt16) s := by
  rw [storeReadBody, whenFits_true _ _ _ hfit, if_neg (by omega), if_neg (by omega)]

theorem loadStatusBody_report {b first count : Nat} (hb : b ≤ 1) (hhigh : count ≤ 256) :
    loadStatusBody env b first count s =
      .report (be8 s.loader.state.number ++ beOptNat 1 be8 s.loader.state.bank ++
        beOptNat 1 be8 s.loader.state.owner ++ beOptNat 2 be16 (loaderAge s) ++
        bufferBytes s.loader.bufferA ++ bufferBytes s.loader.bufferB ++ (s.bank 0).bytes ++
        (s.bank 1).bytes ++ blockCrcBytes (s.bank b).blockCrcs first count) s := by
  rw [loadStatusBody, whenFits_true _ _ _ hfit, if_neg (by omega), if_neg (by omega)]

theorem actReadBody_report {first count : Nat} (hlow : 1 ≤ count) (hhigh : count ≤ 64)
    (hlast : first + count ≤ Config.actuators s.variant) : actReadBody env first count s =
      .report ((List.range count).flatMap (fun i => (s.table.actuator (first + i)).bytes) ++
        be16 s.table.n ++ be8 s.hold.length) s := by
  rw [actReadBody, whenFits_true _ _ _ hfit, if_neg (by omega), if_neg (by omega)]

theorem pairReadBody_report {first count : Nat} (hhigh : count ≤ 128) : pairReadBody env first count s =
    .report (be16 s.table.pairs.length ++ be8 s.hold.length ++
      (List.range count).flatMap (fun i => beOption 6 (s.table.pairs[first + i]?.map Pair.bytes))) s := by
  rw [pairReadBody, whenFits_true _ _ _ hfit, if_neg (by omega)]

theorem captureReadBody_report {k offset length : Nat} {bad : List Nat} {c : Capture} (hk : k ≤ 31)
    (hlow : 1 ≤ length) (hhigh : length ≤ 1000) (hc : s.telem.captureSlot k = some c)
    (hlast : offset + length ≤ c.columns + c.n) : captureReadBody env k offset length bad s =
      .report (be16 c.frame.toNat ++ be16 c.columns ++ be16 c.n ++ beFlag (readDamaged offset length bad) ++
        c.values offset length bad) s := by
  simp only [captureReadBody, whenFits_true _ _ _ hfit, hc]
  rw [if_neg (by omega), if_neg (by omega), if_neg (by omega)]

theorem featureGetBody_one {k : Nat} (hk : k ≤ 3) :
    featureGetBody env (some k) s = .report (featureBytes s.port.features k) s := by
  simp only [featureGetBody, whenFits_true _ _ _ hfit]
  rw [if_neg (by omega)]

theorem featureGetBody_all : featureGetBody env none s =
    .report (featureBytes s.port.features 0 ++ featureBytes s.port.features 1 ++
      featureBytes s.port.features 2 ++ featureBytes s.port.features 3) s := by
  simp [featureGetBody, whenFits_true, hfit, List.range_succ]

end

/-- Settles O56: each request that fits is answered with its report (R189). -/
theorem reportsChangeNothing : Obligations.ReportsChangeNothing := by
  intro env s h tells
  have hfit : env.payloadFits = true := h.2
  have hplain := fun body => whenFits_true env (takeFrame env s) body hfit
  refine ⟨fun n hlink => ⟨?_, ?_, fun first count hlow hhigh hlast => ?_⟩, fun l hlink => ?_, ?_,
    fun first count hlow hhigh hlast => ?_, ?_, ?_, fun b first count hb hhigh => ?_,
    fun first count hlow hhigh hlast => ?_, ?_, fun first count hhigh => ?_, ?_, ?_, ?_,
    fun k offset length bad c hk hlow hhigh hc hlast => ?_, ?_, ?_, ?_, ?_, fun k hk => ?_, ?_, ?_⟩
  · exact request_of_report h 0x01 (slopeLinkPayload · n)
      (linkStatusBody_slope (s := takeFrame env s) hfit hlink)
  · exact request_of_report h 0x07 (fun u => be8 (u.sensor n).role.number ++ be16 (u.sensor n).slopeCount ++
      be16 (u.sensor n).scale ++ be8 (u.sensor n).tag) (sensorReadBody_report (s := takeFrame env s) hfit hlink)
  · exact request_of_report h 0x09 _ (refReadBody_report (s := takeFrame env s) hfit hlink hlow hhigh hlast)
  · exact request_of_report h 0x01 (driveLinkPayload · l)
      (linkStatusBody_drive (s := takeFrame env s) hfit hlink)
  · exact request_of_report h 0x0B _ (hplain _)
  · exact request_of_report h 0x0C _ (storeReadBody_report (s := takeFrame env s) hfit hlow hhigh hlast)
  · exact request_of_report h 0x0D _ (hplain _)
  · exact request_of_report h 0x0E _ (hplain _)
  · exact request_of_report h 0x16 _ (loadStatusBody_report (s := takeFrame env s) hfit hb hhigh)
  · exact request_of_report h 0x1C _ (actReadBody_report (s := takeFrame env s) hfit hlow hhigh hlast)
  · exact request_of_report h 0x1E _ (hplain _)
  · exact request_of_report h 0x21 _ (pairReadBody_report (s := takeFrame env s) hfit hhigh)
  · exact request_of_report h 0x22 _ (hplain _)
  · exact request_of_report h 0x2B _ (hplain _)
  · exact request_of_report h 0x2E _ (hplain _)
  · exact request_of_report h 0x31 _ (captureReadBody_report (s := takeFrame env s) hfit hk hlow hhigh hc hlast)
  · exact request_of_report h 0x32 _ (hplain _)
  · exact request_of_report h 0x34 _ (hplain _)
  · exact request_of_report h 0x35 _ (hplain _)
  · exact request_of_report h 0x36 _ (hplain _)
  · exact request_of_report h 0x38 _ (featureGetBody_one (s := takeFrame env s) hfit hk)
  · exact request_of_report h 0x38 _ (featureGetBody_all (s := takeFrame env s) hfit)
  · exact request_of_report h 0x3A _ (hplain _)

end
end Sys2Proof.Machine

namespace Sys2Proof.Machine

section
set_option Elab.async false
variable {s : State}

/-! ### The soft reset (O58) -/

/-! #### Drive links (R146) -/

theorem softDriveLink_twice (v : Variant) (keep : Bool) (l : Nat) (enabled : Bool) (r : DriveLink) :
    softDriveLink v keep l enabled (softDriveLink v keep l enabled r) = softDriveLink v keep l enabled r := by
  cases keep <;> rfl

theorem softenDriveLink_driveLink (keep : Bool) (s : State) (l m : Nat) :
    (softenDriveLink keep s l).driveLink m =
      if l = m then softDriveLink s.variant keep m (s.table.enables m) (s.driveLink m) else s.driveLink m := by
  rw [softenDriveLink, State.driveLink_modifyDriveLink]
  split
  · next hlm => rw [hlm]
  · rfl

theorem foldl_softenDriveLink_driveLink (keep : Bool) (ls : List Nat) (s : State) (m : Nat) :
    (ls.foldl (softenDriveLink keep) s).driveLink m =
      if m ∈ ls then softDriveLink s.variant keep m (s.table.enables m) (s.driveLink m) else s.driveLink m := by
  induction ls generalizing s with
  | nil => simp
  | cons l ls ih =>
    have hsame : (softenDriveLink keep s l).variant = s.variant ∧ (softenDriveLink keep s l).table = s.table :=
      ⟨rfl, rfl⟩
    rw [List.foldl_cons, ih, softenDriveLink_driveLink, hsame.1, hsame.2]
    by_cases hlm : l = m
    · simp [hlm, softDriveLink_twice]
    · simp [hlm, Ne.symm hlm]

/-- R146: the transaction number is the one thing of the drive block that is kept. -/
theorem foldl_softenDriveLink_drive (keep : Bool) (ls : List Nat) (s : State) :
    (ls.foldl (softenDriveLink keep) s).drive.number = s.drive.number ∧
    (ls.foldl (softenDriveLink keep) s).drive.current = s.drive.current ∧
    (ls.foldl (softenDriveLink keep) s).drive.request = s.drive.request ∧
    (ls.foldl (softenDriveLink keep) s).drive.biasSend = s.drive.biasSend ∧
    (ls.foldl (softenDriveLink keep) s).drive.pulses = s.drive.pulses := by
  induction ls generalizing s with
  | nil => exact ⟨rfl, rfl, rfl, rfl, rfl⟩
  | cons l ls ih => exact ih _

theorem softDrive_drive (keep : Bool) (s : State) : (softDrive keep s).drive.number = s.drive.number ∧
    (softDrive keep s).drive.current = none ∧ (softDrive keep s).drive.request = none ∧
    (softDrive keep s).drive.biasSend = none ∧ (softDrive keep s).drive.pulses = 0 :=
  foldl_softenDriveLink_drive ..

/-- A drive link is read from the drive block of the variant. -/
theorem driveLink_congr {s t : State} (hdrive : t.drive = s.drive) (hvariant : t.variant = s.variant) (l : Nat) :
    t.driveLink l = s.driveLink l := by
  unfold State.driveLink
  rw [hdrive, hvariant]

theorem softDrive_driveLink (keep : Bool) (s : State) (m : Nat) : (softDrive keep s).driveLink m =
    if s.hasDriveLink m = true then softDriveLink s.variant keep m (s.table.enables m) (s.driveLink m)
    else s.driveLink m := by
  refine (foldl_softenDriveLink_driveLink keep _ _ m).trans ?_
  simp [State.driveLinkList, State.hasDriveLink, State.driveLink]

/-! #### Block by block -/

/-- The drive block comes last, on the tables after the reset. -/
theorem softReset_softDrive (s : State) : ∃ u : State, (softReset s).drive = (softDrive s.port.features.keep u).drive ∧
    u.variant = s.variant ∧ u.table = (softReset s).table ∧ u.drive = s.drive := by
  unfold softReset
  dsimp only
  split
  · exact ⟨_, rfl, by simp, by simp, by simp⟩
  · exact ⟨_, rfl, by simp, by simp, by simp⟩

theorem softReset_drive (s : State) : (softReset s).drive.number = s.drive.number ∧
    (softReset s).drive.current = none ∧ (softReset s).drive.request = none ∧
    (softReset s).drive.biasSend = none ∧ (softReset s).drive.pulses = 0 := by
  obtain ⟨u, hdrive, -, -, hbefore⟩ := softReset_softDrive s
  rw [hdrive, ← hbefore]
  exact softDrive_drive ..

theorem softReset_driveLink (s : State) {l : Nat} (hl : s.hasDriveLink l = true) : (softReset s).driveLink l =
    softDriveLink s.variant s.port.features.keep l ((softReset s).table.enables l) (s.driveLink l) := by
  obtain ⟨u, hdrive, hvariant, htable, hbefore⟩ := softReset_softDrive s
  have hlu : u.hasDriveLink l = true := by rwa [State.hasDriveLink, hvariant]
  rw [driveLink_congr hdrive (by simp [hvariant]), softDrive_driveLink, if_pos hlu, hvariant, htable,
    driveLink_congr hbefore hvariant]

/-- R146: a present link is IDLE or DISABLED, with no transaction and no timer. -/
theorem softReset_driveLink_free (s : State) {l : Nat} (hl : s.hasDriveLink l = true) :
    (((softReset s).driveLink l).state = .idle ∨ ((softReset s).driveLink l).state = .disabled) ∧
      ((softReset s).driveLink l).outstanding = none ∧ ((softReset s).driveLink l).timer = none := by
  rw [softReset_driveLink s hl]
  refine ⟨?_, rfl, rfl⟩
  simp only [softDriveLink]
  split
  · exact .inl rfl
  · exact .inr rfl

theorem softReset_driveLink_channels (h : s.port.features.keep = false) {l : Nat} (hl : s.hasDriveLink l = true) :
    ((softReset s).driveLink l).channels = Config.channels s.variant := by
  rw [softReset_driveLink s hl, h]
  rfl

/-- R130: every present link is IDLE or DISABLED, as the table gives it. -/
theorem softReset_linksSettled (s : State) : (softReset s).linksSettled := fun l hl _ => by
  have hl' : s.hasDriveLink l = true := by simpa [State.hasDriveLink] using hl
  rw [softReset_driveLink s hl']
  rfl

theorem softReset_engine (s : State) : (softReset s).engine = Engine.reset := by
  unfold softReset
  dsimp only
  split <;> simp

theorem softReset_stage (s : State) : (softReset s).stage = Stage.reset := by
  unfold softReset
  dsimp only
  split <;> simp

/-- R94: SWAP_CANCELLED is raised after the port is cleared. -/
theorem softReset_port (s : State) : (softReset s).port =
    { s.port.soften with causes := if s.swapPending then Cause.swapCancelled.bit else 0 } := by
  unfold softReset
  dsimp only
  split
  · simp [raise, Port.soften]
  · simp [Port.soften]

/-- R33, R109: with KEEP on, the tables stay and the held edits are applied. -/
theorem softReset_kept (h : s.port.features.keep = true) : (softReset s).sensors = s.sensors ∧
    (softReset s).slopeMap = s.slopeMap ∧ (softReset s).gains = s.gains ∧ (softReset s).table = s.effective := by
  unfold softReset
  dsimp only
  split <;> simp [h, softTables] <;> rfl

theorem softReset_wiped (h : s.port.features.keep = false) : (softReset s).sensors = [] ∧
    (softReset s).slopeMap = [] ∧ (softReset s).gains = [] ∧ (softReset s).table = ActTable.reset := by
  unfold softReset
  dsimp only
  split <;> simp [h, softTables]

theorem softReset_receiver_kept (s : State) {n : Nat} (hn : s.hasSlopeLink n = true) :
    ((softReset s).receiver n).queue = [] ∧ ((softReset s).receiver n).line = (s.receiver n).line ∧
      ((softReset s).receiver n).silenceRunning = (s.receiver n).silenceRunning ∧
      ((softReset s).receiver n).accepted = 0 := by
  rw [softReset_receiver, if_pos hn]
  exact ⟨rfl, rfl, rfl, rfl⟩

theorem softReset_loop_stopped (s : State) : (softReset s).loop.state = .stopped := by
  rw [softReset_loop, softLoop]
  split <;> rfl

theorem softReset_telem_cleared (s : State) : (softReset s).telem.fifo = [] ∧ (softReset s).telem.captures = [] ∧
    (softReset s).telem.images = [] ∧ (softReset s).telem.overflow = false ∧ (softReset s).telem.lost = 0 := by
  rw [softReset_telem, softTelem]
  split <;> exact ⟨rfl, rfl, rfl, rfl, rfl⟩

/-- R94: with KEEP on, an ACTIVE bank is kept. -/
theorem softReset_bank_active (h : s.port.features.keep = true) {b : Nat} (hactive : (s.bank b).state = .active) :
    (softReset s).bank b = s.bank b := by
  rw [softReset_bank, h]
  split
  · simp [softBank, hactive]
  · rfl

/-- R190, R200: a broadcast RESET_SOFT acts at once, and gets no reply. -/
theorem resetSoft_broadcast {env : Envelope} (hawake : s.resetLow = false) (hbroadcast : env.broadcast = true)
    (hmaster : env.master ≠ 0) (hfit : env.payloadFits = true) :
    exec (.resetSoft env) s = .next (softReset (takeFrame env s)) := by
  have hverdict : verdictOf env 0x3C (resetSoftBody env) (takeFrame env s) =
      .done (softReset (takeFrame env s)) := by
    simp [verdictOf, hbroadcast, mayBroadcast, resetSoftBody, whenFits, hfit]
  change awake s (takeRequest env 0x3C (resetSoftBody env)) = _
  simp [awake, hawake, takeRequest, hmaster, hbroadcast, hverdict, conclude, Verdict.done, replyWith]

/-- Settles O58: what the reset leaves, block by block, for the three events that make it; they differ in the
port alone, whose address and features they share. -/
theorem softResetClearsBlocks : Obligations.SoftResetClearsBlocks := by
  intro s hawake keep cleared
  have hcleared : ∀ p : Port, p.features = s.port.features → p.address = s.port.address →
      cleared (softReset { s with port := p }) := by
    intro p hfeatures haddress
    have hport := softReset_port { s with port := p }
    have htelem := softReset_telem_cleared { s with port := p }
    have hdrive := softReset_drive { s with port := p }
    have hkeep : ({ s with port := p } : State).port.features.keep = keep := congrArg _ hfeatures
    refine ⟨fun k => by rw [State.slot, softReset_slots]; rfl, softReset_lastClosed _, softReset_engine _,
      softReset_stage _, softReset_scan _, softReset_hold _, softReset_loop_stopped _, htelem.1, htelem.2.1,
      htelem.2.2.1, htelem.2.2.2.1, htelem.2.2.2.2, by simp, by rw [softReset_loader]; rfl, hdrive.1, hdrive.2.1,
      hdrive.2.2.1, hdrive.2.2.2.1, hdrive.2.2.2.2, fun l hl => ?_, softReset_linksSettled _,
      fun n hn => softReset_receiver_kept _ hn, ?_, ?_, ?_, fun m => ?_, ?_, fun hon => ?_, fun hoff => ?_⟩
    · exact softReset_driveLink_free { s with port := p } hl
    · rw [hport]
      exact hfeatures
    · rw [hport]
      exact haddress
    · rw [hport]
      rfl
    · rw [hport]
      rfl
    · rw [hport]
      rfl
    · rw [hon] at hkeep
      obtain ⟨hsensors, hmap, hgains, htable⟩ := softReset_kept hkeep
      refine ⟨hsensors, hmap, ?_, hgains, htable, ?_, ?_, fun b hb => softReset_bank_active hkeep hb⟩
      · rw [softReset_store, if_pos hkeep]
      · rw [softReset_loop, hkeep]
        rfl
      · rw [softReset_telem, hkeep]
        rfl
    · rw [hoff] at hkeep
      obtain ⟨hsensors, hmap, hgains, htable⟩ := softReset_wiped hkeep
      refine ⟨hsensors, hmap, ?_, hgains, htable, ?_, ?_, fun b hb => ?_, fun l hl => ?_⟩
      · rw [softReset_store, hkeep]
        rfl
      · rw [softReset_loop, hkeep]
        rfl
      · rw [softReset_telem, hkeep]
        rfl
      · rw [softReset_bank, if_pos hb, hkeep]
        rfl
      · exact softReset_driveLink_channels hkeep hl
  refine ⟨fun env hbroadcast hmaster hfit => ?_, fun r hreply hafter => ?_, fun hwaits => ?_⟩
  · refine ⟨softReset (takeFrame env s), resetSoft_broadcast hawake hbroadcast hmaster hfit, hcleared _ rfl rfl, ?_⟩
    rw [softReset_port]
    exact ⟨rfl, rfl⟩
  · refine ⟨softReset { s with port := { s.port with resetAfterReply := false, reply := none } }, ?_, hcleared _ rfl rfl, ?_⟩
    · change awake s replyDone = _
      simp [awake, hawake, replyDone, hreply, hafter, clearReply]
    · rw [softReset_port]
      exact ⟨rfl, rfl, rfl⟩
  · refine ⟨softReset { s with port := { s.port with resetsAtReplyEnd := s.port.resetsAtReplyEnd - 1 } }, ?_,
      hcleared _ rfl rfl, ?_⟩
    · change awake s replyEnded = _
      simp [awake, hawake, replyEnded, hwaits]
    · rw [softReset_port]
      exact ⟨rfl, rfl⟩

end
end Sys2Proof.Machine

namespace Sys2Proof.Machine

section
set_option Elab.async false
variable {s t : State}

/-! ### Entry to STOPPED and to SAFE (O42) -/

/-! #### The table and its biases (R99, R140) -/

theorem ActTable.rewrite_n (t : ActTable) (first : Nat) (fs : List ActFields) : (t.rewrite first fs).n = t.n := by
  induction fs generalizing t first with
  | nil => rfl
  | cons f fs ih => exact ih _ _

/-- R99: no edit changes N. -/
theorem ActTable.apply_n (t : ActTable) (e : Edit) : (t.apply e).n = t.n := by
  cases e with
  | write first records => exact t.rewrite_n first records
  | mode | pairAdd | pairDrop => rfl

theorem effective_n (s : State) : s.effective.n = s.table.n :=
  List.foldlRecOn (motive := fun t : ActTable => t.n = s.table.n) _ _ rfl fun t ht e _ => (t.apply_n e).trans ht

theorem ActTable.biasStates_below (t : ActTable) {a m : Nat} (bs : List Nat) (h : m < a) :
    (t.biasStates a bs).actuator m = t.actuator m := by
  induction bs generalizing t a with
  | nil => rfl
  | cons b bs ih =>
    rw [ActTable.biasStates, ih _ (by omega), actuator_setActuator, if_neg (by omega)]

/-- R140: each bias goes to its actuator. -/
theorem ActTable.biasStates_at (t : ActTable) {a i b : Nat} {bs : List Nat} (h : bs[i]? = some b) :
    (t.biasStates a bs).actuator (a + i) = { t.actuator (a + i) with x := 256 * b } := by
  induction bs generalizing t a i with
  | nil => simp at h
  | cons b' bs ih =>
    cases i with
    | zero =>
      obtain rfl : b' = b := by simpa using h
      rw [ActTable.biasStates, biasStates_below _ _ (by omega), Nat.add_zero, actuator_setActuator, if_pos rfl]
    | succ i =>
      have htail := ih (t.setActuator a { t.actuator a with x := 256 * b' }) (a := a + 1) (i := i) (by simpa using h)
      rw [actuator_setActuator, if_neg (by omega)] at htail
      rw [ActTable.biasStates, Nat.add_comm i 1, ← Nat.add_assoc, htail]

theorem ActTable.biases_getElem? (t : ActTable) {a : Nat} (ha : a < t.n) :
    t.biases[a]? = some (t.actuator a).bias := by
  simp [ActTable.biases, ha]

/-! #### What ends with the slots (R47, R125, R156) -/

theorem freeSlot_work_idle {k : Nat} (h : s.engine.work = .idle) : (freeSlot k s).engine.work = .idle := by
  unfold freeSlot
  split
  · exact h
  · simp [cutWork, h]

/-- R47: the engine's work on another slot goes on. -/
theorem freeSlot_work_other {k : Nat} (hsegment : ∀ w, s.engine.work = .segment w → w.slot ≠ k)
    (hfill : ∀ w, s.engine.work = .fill w → w.slot ≠ k) : (freeSlot k s).engine.work = s.engine.work := by
  unfold freeSlot
  split
  · rfl
  · cases hw : s.engine.work with
    | idle => simp [cutWork, hw]
    | segment w => simp [cutWork, hw, hsegment w hw]
    | fill w => simp [cutWork, hw, hfill w hw]

/-- R47: the engine's work on the slot ends with it. -/
theorem freeSlot_work_cut {k : Nat} (hopen : (s.slot k).state ≠ .free)
    (h : (∃ w, s.engine.work = .segment w ∧ w.slot = k) ∨ ∃ w, s.engine.work = .fill w ∧ w.slot = k) :
    (freeSlot k s).engine.work = .idle := by
  rw [freeSlot, if_neg hopen]
  obtain ⟨w, hw, hk⟩ | ⟨w, hw, hk⟩ := h
  · simp [cutWork, hw, hk]
  · simp [cutWork, hw, hk]

/-- With its slots FREE the engine is IDLE. -/
theorem freeSlots_work (h : s.engineHasSlot) : (freeSlots s).engine.work = .idle := by
  change (freeSlot 1 (freeSlot 0 s)).engine.work = .idle
  have hboth : ∀ k, k < 2 → (s.slot k).state ≠ .free →
      (∃ w, s.engine.work = .segment w ∧ w.slot = k) ∨ (∃ w, s.engine.work = .fill w ∧ w.slot = k) →
      (freeSlot 1 (freeSlot 0 s)).engine.work = .idle := fun k hk hopen hw => by
    obtain rfl | rfl : k = 0 ∨ k = 1 := by omega
    · exact freeSlot_work_idle (freeSlot_work_cut hopen hw)
    · have hkeeps : (freeSlot 0 s).engine.work = s.engine.work := by
        refine freeSlot_work_other (fun w hs => ?_) fun w hs => ?_ <;>
          rcases hw with ⟨v, hv, hslot⟩ | ⟨v, hv, hslot⟩ <;> simp_all
      exact freeSlot_work_cut (by rwa [freeSlot_slot_ne (by omega)]) (by rwa [hkeeps])
  unfold State.engineHasSlot at h
  cases hw : s.engine.work with
  | idle => exact freeSlot_work_idle (freeSlot_work_idle hw)
  | segment w =>
    rw [hw] at h
    exact hboth w.slot h.1 (by rcases h.2 with hs | hs <;> rw [hs] <;> exact nofun) (.inl ⟨w, hw, rfl⟩)
  | fill w =>
    rw [hw] at h
    exact hboth w.slot h.1 (by rw [h.2]; exact nofun) (.inr ⟨w, hw, rfl⟩)

theorem abandonStage_phase (s : State) : (abandonStage s).stage.phase = .idle := by
  unfold abandonStage
  split
  · assumption
  · rfl

/-- R100, R125: the abandonment of a stage ends the flight. -/
theorem abandonStage_table (s : State) :
    (abandonStage s).table = s.table ∨ (abandonStage s).table = s.effective := by
  unfold abandonStage
  split
  · exact .inl rfl
  · exact .inr (applyHold_table _)

theorem abandonStage_drive (s : State) : (abandonStage s).drive.biasSend = s.drive.biasSend ∧
    (abandonStage s).drive.request = s.drive.request := by
  unfold abandonStage
  split
  · exact ⟨rfl, rfl⟩
  · simp [applyHold]

section
variable {entered : LoopState} {cause : LoopCause} {frame : Option Frame} {scanCause : EndCause}

theorem enterRest_loop_eq : (enterRest entered cause frame scanCause s).loop = { s.loop with
    state := entered, missedRun := 0, strokeRun := 0, driveRun := 0, pendingTransition := none,
    lastTransition := some { entered := entered, cause := cause, frame := frame } } := by
  rw [enterRest_loop, haltLoop_loop]
  simp [clearRuns, changeLoop]

theorem enterRest_phase : (enterRest entered cause frame scanCause s).stage.phase = .idle := by
  rw [enterRest_eq]
  simpa [haltLoop] using abandonStage_phase _

theorem enterRest_work (h : s.engineHasSlot) : (enterRest entered cause frame scanCause s).engine.work = .idle := by
  have hhalted : (haltLoop entered cause frame scanCause s).engineHasSlot := by
    simpa [State.engineHasSlot, State.slot, haltLoop] using h
  simpa [enterRest_eq] using freeSlots_work hhalted

theorem effective_congr (htable : t.table = s.table) (hhold : t.hold = s.hold) : t.effective = s.effective := by
  unfold State.effective
  rw [htable, hhold]

theorem haltLoop_table : (haltLoop entered cause frame scanCause s).table = s.table ∨
    (haltLoop entered cause frame scanCause s).table = s.effective := by
  unfold haltLoop
  generalize hu : cancelSwap _ = u
  have htable : u.table = s.table := by simp [← hu]
  have hhold : u.hold = s.hold := by simp [← hu]
  rw [← htable, ← effective_congr htable hhold]
  exact abandonStage_table u

/-- R125, R131: the table after the entry is the one before it, or has the held edits. -/
theorem enterRest_table : (enterRest entered cause frame scanCause s).table = s.table ∨
    (enterRest entered cause frame scanCause s).table = s.effective := by
  have htable : (enterRest entered cause frame scanCause s).table =
      (haltLoop entered cause frame scanCause s).table := by
    rw [enterRest_eq, (abandonShape_flight _).2.2.1]
    simp
  rw [htable]
  exact haltLoop_table

theorem enterRest_biasSend : (enterRest entered cause frame scanCause s).drive.biasSend = s.drive.biasSend := by
  rw [enterRest_eq, (abandonShape_flight _).2.2.2.1]
  simp [haltLoop, abandonStage_drive]

theorem enterRest_request (r : TxRequest)
    (hr : (enterRest entered cause frame scanCause s).drive.request = some r) : r.kind = .bias := by
  rw [enterRest_eq] at hr
  obtain ⟨-, -, -, -, -, hbias⟩ :=
    abandonShape_flight (emptyQueues (freeSlots (haltLoop entered cause frame scanCause s)))
  exact hbias r hr

theorem enterRest_setting : sameSetting s (enterRest entered cause frame scanCause s) := by
  simp [sameSetting]

end

/-! #### The two requests -/

/-- R156: what LOOP_STOP and LOOP_SAFE leave, the reply apart. -/
structure State.CameToRest (s t : State) : Prop where
  runs : t.loop.missedRun = 0 ∧ t.loop.strokeRun = 0 ∧ t.loop.driveRun = 0
  transition : t.loop.pendingTransition = none
  slots : ∀ k, k < 2 → (t.slot k).state = .free
  lastClosed : t.lastClosed = none
  work : t.engine.work = .idle
  phase : t.stage.phase = .idle
  swap : t.swapPending = false
  receivers : ∀ n, s.hasSlopeLink n = true → t.receiver n = { s.receiver n with queue := [], headWaiting := false }
  scan : t.scan.state ≠ .running
  setting : sameSetting s t
  store : t.store = s.store

theorem enterRest_cameToRest {entered : LoopState} {cause : LoopCause} {frame : Option Frame} {scanCause : EndCause}
    (hengine : s.engineHasSlot) (hbanks : s.banksExclusive) :
    s.CameToRest (enterRest entered cause frame scanCause s) where
  runs := by
    rw [enterRest_loop_eq]
    exact ⟨rfl, rfl, rfl⟩
  transition := enterRest_transition
  slots _ := enterRest_slot_free
  lastClosed := enterRest_lastClosed
  work := enterRest_work hengine
  phase := enterRest_phase
  swap := enterRest_swapPending hbanks.2
  receivers _ := enterRest_receiver
  scan := enterRest_scan
  setting := enterRest_setting
  store := by simp

/-- What follows the entry changes only the table, the drive block, the port and what the loop counts. -/
theorem State.CameToRest.trans {u : State} (h : s.CameToRest t) (runs : u.loop.missedRun = t.loop.missedRun ∧
      u.loop.strokeRun = t.loop.strokeRun ∧ u.loop.driveRun = t.loop.driveRun)
    (transition : u.loop.pendingTransition = t.loop.pendingTransition) (slots : u.slots = t.slots)
    (lastClosed : u.lastClosed = t.lastClosed) (engine : u.engine = t.engine) (stage : u.stage = t.stage)
    (banks : u.banks = t.banks) (receivers : u.receivers = t.receivers) (scan : u.scan = t.scan)
    (setting : sameSetting t u) (store : u.store = t.store) : s.CameToRest u where
  runs := by
    rw [runs.1, runs.2.1, runs.2.2]
    exact h.runs
  transition := transition.trans h.transition
  slots k hk := by
    rw [State.slot, slots]
    exact h.slots k hk
  lastClosed := lastClosed.trans h.lastClosed
  work := by rw [engine, h.work]
  phase := by rw [stage, h.phase]
  swap := (swapPending_congr banks).trans h.swap
  receivers n hn := by
    rw [State.receiver, receivers]
    exact h.receivers n hn
  scan := by
    rw [scan]
    exact h.scan
  setting := by
    obtain ⟨h1, h2, h3, h4, h5, h6, h7, h8, h9⟩ := h.setting
    obtain ⟨g1, g2, g3, g4, g5, g6, g7, g8, g9⟩ := setting
    exact ⟨g1.trans h1, g2.trans h2, g3.trans h3, g4.trans h4, g5.trans h5, g6.trans h6, g7.trans h7, g8.trans h8,
      g9.trans h9⟩
  store := store.trans h.store

/-- An answer changes the port alone, and is in it. -/
theorem State.CameToRest.replied {env : Envelope} (h : s.CameToRest t) :
    s.CameToRest (replyWith env .ok false [] t) :=
  h.trans (by simp) (by simp) (by simp) (by simp) (by simp) (by simp) (by simp) (by simp) (by simp)
    (by simp [sameSetting]) (by simp)

theorem replyWith_reply {env : Envelope} {status : Status} {clamped : Bool} {payload : List Byte}
    (h : env.broadcast = false) : ∃ r, (replyWith env status clamped payload s).port.reply = some r ∧
      r.status = status ∧ r.tag = env.tag ∧ r.master = env.master := by
  simp [replyWith, h]

theorem replyWith_hasCause (env : Envelope) (status : Status) (clamped : Bool) (payload : List Byte) (s : State)
    (c : Cause) : (replyWith env status clamped payload s).hasCause c = s.hasCause c := by
  unfold replyWith
  split <;> rfl

/-- R154: the entry to SAFE before its bias send. -/
def safeEntry (cause : LoopCause) (frame : Option Frame) (s : State) : State :=
  let u := raise .safeEntered (enterRest .safe cause frame .safe s)
  { u with loop := { u.loop with safeEntries := u.loop.safeEntries + 1 } }

theorem safeEntry_biasSend {cause : LoopCause} {frame : Option Frame} :
    (safeEntry cause frame s).drive.biasSend = s.drive.biasSend := by
  simp [safeEntry, enterRest_biasSend]

theorem enterSafe_eq {cause : LoopCause} {frame : Option Frame} (hsafe : s.loop.state ≠ .safe)
    (hbias : s.drive.biasSend = none) : enterSafe cause frame s = beginBiasSend (safeEntry cause frame s) := by
  have hentry : enterSafe cause frame s =
      if (safeEntry cause frame s).drive.biasSend.isSome = true then safeEntry cause frame s
      else beginBiasSend (safeEntry cause frame s) := by
    rw [enterSafe, if_neg hsafe, safeEntry]
  rw [hentry, safeEntry_biasSend, hbias]
  exact if_neg Bool.false_ne_true

theorem safeEntry_cameToRest {cause : LoopCause} {frame : Option Frame} (hengine : s.engineHasSlot)
    (hbanks : s.banksExclusive) : s.CameToRest (safeEntry cause frame s) :=
  (enterRest_cameToRest (entered := .safe) (cause := cause) (frame := frame) (scanCause := .safe) hengine
    hbanks).trans (by simp [safeEntry]) (by simp [safeEntry]) (by simp [safeEntry]) (by simp [safeEntry])
    (by simp [safeEntry]) (by simp [safeEntry]) (by simp [safeEntry]) (by simp [safeEntry]) (by simp [safeEntry])
    (by simp [safeEntry, sameSetting]) (by simp [safeEntry])

theorem State.CameToRest.biasSend (h : s.CameToRest t) : s.CameToRest (beginBiasSend t) :=
  h.trans (by simp [beginBiasSend]) (by simp [beginBiasSend]) (by simp) (by simp) (by simp) (by simp) (by simp)
    (by simp) (by simp) (by simp [sameSetting]) (by simp)

/-- R131: the entry's table, or with nothing held the table before it. -/
theorem safeEntry_table {cause : LoopCause} {frame : Option Frame} :
    (safeEntry cause frame s).table = s.table ∨ (safeEntry cause frame s).table = s.effective := by
  simpa [safeEntry] using enterRest_table (entered := .safe) (cause := cause) (frame := frame) (scanCause := .safe)

theorem safeEntry_table_n {cause : LoopCause} {frame : Option Frame} :
    (safeEntry cause frame s).table.n = s.table.n := by
  obtain h | h := safeEntry_table (s := s) (cause := cause) (frame := frame)
  · rw [h]
  · rw [h, effective_n]

theorem safeEntry_table_nil {cause : LoopCause} {frame : Option Frame} (hhold : s.hold = []) :
    (safeEntry cause frame s).table = s.table :=
  safeEntry_table.elim id fun h => h.trans (effective_nil s hhold)

theorem safeEntry_loop {cause : LoopCause} {frame : Option Frame} : (safeEntry cause frame s).loop = { s.loop with
    state := .safe, missedRun := 0, strokeRun := 0, driveRun := 0, pendingTransition := none,
    lastTransition := some { entered := .safe, cause := cause, frame := frame },
    safeEntries := s.loop.safeEntries + 1 } := by
  simp [safeEntry, enterRest_loop_eq]

/-- R197: a cause that is raised is in the set. -/
theorem raise_hasCause (c : Cause) (s : State) : (raise c s).hasCause c = true := by
  unfold raise State.hasCause
  cases c <;> simp [Cause.bit, Cause.index]

theorem hasCause_congr (h : t.port = s.port) (c : Cause) : t.hasCause c = s.hasCause c := by
  unfold State.hasCause
  rw [h]

/-- R154: SAFE_ENTERED is raised. -/
theorem safeEntry_hasCause {cause : LoopCause} {frame : Option Frame} :
    (safeEntry cause frame s).hasCause .safeEntered = true :=
  (hasCause_congr (by simp [safeEntry]) _).trans (raise_hasCause .safeEntered (enterRest .safe cause frame .safe s))

/-- R140: what a bias send sets and requests, from the table it begins on. -/
theorem beginBiasSend_table_n (s : State) : (beginBiasSend s).table.n = s.table.n :=
  (s.table.biasStates_sameFields 0 s.table.biases).1

theorem beginBiasSend_actuator {a : Nat} (ha : a < s.table.n) : (beginBiasSend s).table.actuator a =
    { s.table.actuator a with x := 256 * (s.table.actuator a).bias } := by
  have h := s.table.biasStates_at (a := 0) (s.table.biases_getElem? ha)
  rwa [Nat.zero_add] at h

theorem loopStopBody_moving {env : Envelope} (hfit : env.payloadFits = true) (h : s.loop.state ≠ .stopped) :
    loopStopBody env s = .done (enterStopped s) := by
  rw [loopStopBody, whenFits_true _ _ _ hfit, if_neg h]

theorem loopStopBody_stopped {env : Envelope} (hfit : env.payloadFits = true) (h : s.loop.state = .stopped) :
    loopStopBody env s = .done s := by
  rw [loopStopBody, whenFits_true _ _ _ hfit, if_pos h]

theorem loopSafeBody_verdict {env : Envelope} (hfit : env.payloadFits = true) :
    loopSafeBody env s = .done (enterSafe .loopSafe none s) := whenFits_true _ _ _ hfit

/-- Settles O42: the entries bring the part to rest, and SAFE begins a bias send after it. -/
theorem loopComesToRest : Obligations.LoopComesToRest := by
  intro env s h hslots hbanks rest
  have hfit : env.payloadFits = true := h.2
  have hbroadcast : env.broadcast = false := h.1.2.2.1
  obtain ⟨-, -, hengine, -⟩ := hslots
  have hrest : ∀ t : State, (takeFrame env s).CameToRest t → rest (replyWith env .ok false [] t) := fun t ht => by
    have hreplied := ht.replied (env := env)
    exact ⟨hreplied.runs, hreplied.transition, hreplied.slots 0 (by omega), hreplied.slots 1 (by omega),
      hreplied.lastClosed, hreplied.work, hreplied.phase, hreplied.swap, hreplied.receivers, hreplied.scan,
      hreplied.setting, hreplied.store, replyWith_reply hbroadcast⟩
  have hstop : ∀ t, loopStopBody env (takeFrame env s) = .done t →
      exec (.loopStop env) s = .next (replyWith env .ok false [] t) := fun _ hv => request_of_verdict h 0x27 hv
  have hsafe : exec (.loopSafe env) s =
      .next (replyWith env .ok false [] (enterSafe .loopSafe none (takeFrame env s))) :=
    request_of_verdict h 0x28 (loopSafeBody_verdict hfit)
  refine ⟨fun hstate => ?_, fun hstate => ?_, fun hstate => ?_, fun hstate hbias => ?_⟩
  · exact hstop _ (loopStopBody_stopped hfit hstate)
  · have hentered := enterRest_cameToRest (s := takeFrame env s) (entered := .stopped) (cause := .loopStop)
      (frame := none) (scanCause := .stopped) hengine hbanks
    refine ⟨_, hstop _ (loopStopBody_moving hfit hstate), hrest _ hentered, ?_, ?_, fun r hr => ?_⟩
    · simp [enterStopped, enterRest_loop_eq]
    · simp [enterStopped, enterRest_loop_eq]
    · exact enterRest_request r (by simpa [enterStopped] using hr)
  · have hsame := enterSafe_again .loopSafe none (takeFrame env s) hstate
    rw [hsafe, hsame]
    rfl
  · have hentry := safeEntry_cameToRest (s := takeFrame env s) (cause := .loopSafe) (frame := none) hengine hbanks
    have hn : (safeEntry .loopSafe none (takeFrame env s)).table.n = s.table.n := safeEntry_table_n
    have htable : s.hold = [] → (safeEntry .loopSafe none (takeFrame env s)).table = s.table := fun hhold =>
      safeEntry_table_nil (s := takeFrame env s) hhold
    have hloop := safeEntry_loop (s := takeFrame env s) (cause := .loopSafe) (frame := none)
    rw [enterSafe_eq (s := takeFrame env s) hstate hbias] at hsafe
    refine ⟨_, hsafe, hrest _ hentry.biasSend, ?_, ?_, ?_, ?_, ?_, ?_, ?_, fun a ha hhold => ?_, fun hhold => ?_⟩
    · simp [beginBiasSend, hloop]
    · simp [beginBiasSend, hloop]
    · simp [beginBiasSend, hloop]
    · refine (replyWith_hasCause ..).trans ((hasCause_congr ?_ _).trans
        (safeEntry_hasCause (s := takeFrame env s) (cause := .loopSafe) (frame := none)))
      simp
    · simp [beginBiasSend]
    · simp [beginBiasSend_table_n, hn]
    · simp [beginBiasSend]
    · simp [beginBiasSend_actuator (hn.symm ▸ ha), htable hhold]
    · simp [beginBiasSend, htable hhold, ActTable.biases]

end
end Sys2Proof.Machine

namespace Sys2Proof.Machine

section
set_option Elab.async false
variable {s t : State} {n : Nat} {seg : Segment}

/-! ### A segment on a quiet part (O22) -/

/-! #### The one choice of the arbiter (R53, R54) -/

theorem arbitrate_busy (fuel : Nat) (h : s.engine.work ≠ .idle) : arbitrate fuel s = s := by
  cases fuel with
  | zero => rfl
  | succ more => rw [arbitrate, if_neg fun hidle => h hidle.1]

theorem readyCandidate_free (h0 : (s.slot 0).state = .free) (h1 : (s.slot 1).state = .free) :
    readyCandidate s = none := by
  simp [readyCandidate, h0, h1]

theorem fillCandidate_free (h0 : (s.slot 0).state = .free) (h1 : (s.slot 1).state = .free) :
    fillCandidate s = none := by
  simp [fillCandidate, h0, h1]

/-- R54: the round robin comes to every link. -/
theorem mem_linkOrder (h : s.hasSlopeLink n = true) : n ∈ linkOrder s := by
  have hn : n < Config.slopeLinks s.variant := by simpa [State.hasSlopeLink] using h
  unfold linkOrder
  extract_lets links start
  have hlt : start % links < links := Nat.mod_lt _ (by omega)
  have hstart := Nat.div_add_mod start links
  refine List.mem_map.mpr ⟨(n + (links - start % links)) % links, by simpa using Nat.mod_lt _ (by omega), ?_⟩
  have hsum : start + (n + (links - start % links)) = n + links * (start / links + 1) := by
    rw [Nat.mul_add, Nat.mul_one]
    omega
  rw [Nat.add_mod_mod, hsum, Nat.add_mul_mod_self_left, Nat.mod_eq_of_lt hn]

/-- R54: the only link with a head that does not wait is chosen. -/
theorem linkCandidate_only (hlink : s.hasSlopeLink n = true) (hqueue : (s.receiver n).queue ≠ [])
    (hwaiting : (s.receiver n).headWaiting = false) (hother : ∀ m, m ≠ n → (s.receiver m).queue = []) :
    linkCandidate s = some n := by
  cases hc : linkCandidate s with
  | none =>
    have hnone := List.find?_eq_none.mp hc n (mem_linkOrder hlink)
    simp [hqueue, hwaiting] at hnone
  | some m =>
    have hm := List.find?_some hc
    by_cases hmn : m = n
    · rw [hmn]
    · simp [hother m hmn] at hm

/-- R53: with one head to offer and no other work, it is offered, and its work makes the engine busy. -/
theorem settle_offers (h0 : (s.slot 0).state = .free) (h1 : (s.slot 1).state = .free)
    (hidle : s.engine.work = .idle) (hrun : s.loop.state.running = true) (hlink : linkCandidate s = some n)
    (hbusy : (offerHead n s).engine.work ≠ .idle) : settle s = offerHead n s := by
  obtain ⟨more, hfuel⟩ : ∃ more, arbiterFuel s = more + 1 := ⟨_, rfl⟩
  rw [settle, enterCommands_none _ _ (readyCandidate_free h0 h1), arbiter, hfuel, arbitrate, if_pos ⟨hidle, hrun⟩]
  simp only [fillCandidate_free h0 h1, hlink]
  exact arbitrate_busy more hbusy

/-! #### The slot that opens (R36, R38) -/

theorem headLate_fresh {f : Frame} (h0 : (s.slot 0).state = .free) (h1 : (s.slot 1).state = .free)
    (hnewer : ∀ l, s.lastClosed = some l → newer f l = true) : headLate s f = false := by
  unfold headLate
  rw [Bool.or_eq_false_iff]
  constructor
  · cases hl : s.lastClosed with
    | none => rfl
    | some l => simp [hnewer l hl]
  · simp [h0, h1]

theorem decideHead_opens (h0 : (s.slot 0).state = .free) (h1 : (s.slot 1).state = .free)
    (hrole : (s.sensor n).role ≠ .ignored) (hnewer : ∀ l, s.lastClosed = some l → newer seg.frame l = true) :
    decideHead n seg s = placeHead 0 n seg (openSlot 0 seg.frame s) := by
  have hfor : slotOpenFor s seg.frame = none := by simp [slotOpenFor, h0, h1]
  have hfree : slotFree s = some 0 := by simp [slotFree, h0]
  rw [decideHead, if_neg hrole, headLate_fresh h0 h1 hnewer, if_neg Bool.false_ne_true]
  simp only [hfor, hfree]

/-- R38: slot 0 as it opens. -/
def openedSlot (s : State) (f : Frame) (bank : Nat) : Slot :=
  { Slot.reset 0 with state := .opened, frame := f, bank := bank, openedAt := s.now, deadline := some s.loop.deadline }

theorem openSlot_slot (f : Frame) (s : State) :
    (openSlot 0 f s).slot 0 = openedSlot s f ((applySwap f s).activeBank.getD 0) := by
  simp [openSlot, openedSlot, State.slot, State.setSlot]

theorem placeHead_fresh (h : (s.slot 0).coverage = []) : placeHead 0 n seg s = acceptSegment 0 n seg (popHead n s) := by
  simp [placeHead, h]

/-! #### Acceptance into the fresh slot (R39, R41, R42) -/

theorem arrivalOf_single (n m : Nat) (a : Arrival) : arrivalOf [(n, a)] m = if n = m then a else .none := rfl

/-- R42: with the arrival of sensor n alone, all is complete when it is and the other sensors are IGNORED. -/
theorem allComplete_single {slot : Slot} {a : Arrival} (hlink : s.hasSlopeLink n = true)
    (hrole : (s.sensor n).role ≠ .ignored) (harrivals : slot.arrivals = [(n, a)]) :
    allComplete s slot = true ↔
      a = .complete ∧ ∀ m, m ≠ n → s.hasSlopeLink m = true → (s.sensor m).role = .ignored := by
  have hall : allComplete s slot = true ↔ ∀ m, s.hasSlopeLink m = true →
      (s.sensor m).role = .ignored ∨ (if n = m then a else .none) = .complete := by
    simp [allComplete, State.slopeLinkList, State.hasSlopeLink, harrivals, arrivalOf_single]
  rw [hall]
  constructor
  · intro h
    refine ⟨by simpa [hrole] using h n hlink, fun m hm hpresent => (h m hpresent).resolve_right ?_⟩
    rw [if_neg hm.symm]
    exact nofun
  · rintro ⟨rfl, hothers⟩ m hpresent
    by_cases hm : n = m
    · exact .inr (if_pos hm)
    · exact .inl (hothers m (Ne.symm hm) hpresent)

/-- R45: a frame that is complete misses nothing. -/
theorem slotMissed_complete {slot : Slot} (h : allComplete s slot = true) : slotMissed s slot = false := by
  unfold allComplete at h
  unfold slotMissed
  rw [List.all_eq_true] at h
  rw [List.any_eq_false]
  intro m hm hmissed
  have := h m hm
  simp_all

theorem decideMissed_used {k : Nat} (hmissed : slotMissed s (s.slot k) = false)
    (hrun : s.loop.state.running = true) : decideMissed k s =
      { s.modifySlot k (fun r => { r with state := .fill }) with loop := { s.loop with missedRun := 0 } } := by
  rw [decideMissed, hmissed]
  exact if_pos hrun

/-- Slot 0 as it closes. -/
def closedSlot (cause : CloseCause) (x : Slot) : Slot :=
  { x with state := .fill, closeCause := some cause, deadline := none }

/-- R43, R45, R159: the state after slot 0 closed with a frame that is used. -/
def afterClosure (cause : CloseCause) (s : State) : State :=
  { s.setSlot 0 (closedSlot cause (s.slot 0)) with
    lastClosed := some (s.slot 0).frame, loop := { s.loop with missedRun := 0 } }

theorem afterClosure_slot_zero (cause : CloseCause) (s : State) :
    (afterClosure cause s).slot 0 = closedSlot cause (s.slot 0) :=
  (State.slot_setSlot s 0 0 (closedSlot cause (s.slot 0))).trans (if_pos rfl)

theorem afterClosure_slot_one (cause : CloseCause) (s : State) : (afterClosure cause s).slot 1 = s.slot 1 :=
  (State.slot_setSlot s 0 1 (closedSlot cause (s.slot 0))).trans (if_neg (by decide))

/-- R42, R43, R45: slot 0 closes, with no other slot OPEN and nothing missed. -/
theorem closeSlot_used {cause : CloseCause} (h0 : (s.slot 0).state = .opened) (h1 : (s.slot 1).state = .free)
    (hmissed : slotMissed s (s.slot 0) = false) (hrun : s.loop.state.running = true) :
    closeSlot 0 cause s = afterClosure cause s := by
  rw [closeSlot, if_pos h0]
  extract_lets f s1 s2 o s3
  have ho : o.state = .free := by
    change (s1.slot 1).state = .free
    simp [s1, h1]
  have hs3 : s3 = s2 := if_neg fun h => by
    rw [ho] at h
    exact nomatch h.1
  have hself : s2.slot 0 = { s.slot 0 with closeCause := some cause, deadline := none } := by
    change s1.slot 0 = _
    simp [s1]
  have htwice : s1.modifySlot 0 (fun r => { r with state := .fill }) = s.setSlot 0 (closedSlot cause (s.slot 0)) :=
    State.modifySlot_modifySlot ..
  rw [hs3]
  refine (decideMissed_used (s := s2) (by rw [hself]; exact hmissed) hrun).trans ?_
  change ({ s1.modifySlot 0 (fun r => { r with state := .fill }) with
    lastClosed := some f, loop := { s.loop with missedRun := 0 } } : State) = _
  rw [htwice]
  rfl

/-- Slot x with the first segment of sensor n accepted into it. -/
def acceptedSlot (entries : List MapEntry) (n : Nat) (seg : Segment) (x : Slot) : Slot :=
  { x with
    coverage := NatSet.addAll x.coverage (segmentColumns entries seg)
    arrivals := [(n, if seg.last then .complete else .partly)] }

theorem acceptSegment_first (h : (s.slot 0).arrivals = []) : acceptSegment 0 n seg s =
    let s1 := s.setSlot 0 (acceptedSlot s.slopeMap n seg (s.slot 0))
    let s2 := if allComplete s1 (s1.slot 0) then closeSlot 0 .allComplete s1 else s1
    if (s2.slot 0).state = .free then s2 else beginSegment 0 n seg s2 := by
  have hafter : nextArrival .none seg.last = if seg.last then .complete else .partly := by
    simp [nextArrival]
  have hne : Arrival.none ≠ if seg.last then .complete else .partly := by
    split <;> exact nofun
  have hset : Table.set noArrival [] n (if seg.last then .complete else .partly) =
      [(n, if seg.last then .complete else .partly)] := by
    exact if_neg (Ne.symm hne)
  unfold acceptSegment acceptedSlot
  simp only [h, show arrivalOf [] n = .none from rfl, hafter, hset, ne_eq, hne, not_false_eq_true, true_and]

theorem allComplete_accepted (hlink : s.hasSlopeLink n = true) (hrole : (s.sensor n).role ≠ .ignored) :
    allComplete (s.setSlot 0 (acceptedSlot s.slopeMap n seg (s.slot 0)))
        (acceptedSlot s.slopeMap n seg (s.slot 0)) = true ↔
      seg.last = true ∧ ∀ m, m ≠ n → s.hasSlopeLink m = true → (s.sensor m).role = .ignored := by
  refine (allComplete_single (s := s.setSlot 0 (acceptedSlot s.slopeMap n seg (s.slot 0))) hlink hrole rfl).trans
    (and_congr_left' ?_)
  cases seg.last <;> simp

section
variable (hlink : s.hasSlopeLink n = true) (hrole : (s.sensor n).role ≠ .ignored)
  (h0 : (s.slot 0).state = .opened) (harrivals : (s.slot 0).arrivals = [])
include hlink hrole h0 harrivals

/-- R42: a segment without LAST, or with another sensor to wait for, leaves the slot OPEN. -/
theorem acceptSegment_waits (hopen : ¬ (seg.last = true ∧
      ∀ m, m ≠ n → s.hasSlopeLink m = true → (s.sensor m).role = .ignored)) :
    acceptSegment 0 n seg s = beginSegment 0 n seg (s.setSlot 0 (acceptedSlot s.slopeMap n seg (s.slot 0))) := by
  have hslot : (s.setSlot 0 (acceptedSlot s.slopeMap n seg (s.slot 0))).slot 0 =
      acceptedSlot s.slopeMap n seg (s.slot 0) := by simp
  rw [acceptSegment_first harrivals]
  dsimp only
  rw [hslot, if_neg (mt (allComplete_accepted hlink hrole).mp hopen), hslot]
  exact if_neg (by rw [show (acceptedSlot s.slopeMap n seg (s.slot 0)).state = .opened from h0]; exact nofun)

/-- R42, R43: a segment with LAST of the only sensor that is not IGNORED closes the frame. -/
theorem acceptSegment_closes (h1 : (s.slot 1).state = .free) (hrun : s.loop.state.running = true)
    (hcloses : seg.last = true ∧ ∀ m, m ≠ n → s.hasSlopeLink m = true → (s.sensor m).role = .ignored) :
    acceptSegment 0 n seg s = beginSegment 0 n seg
      (afterClosure .allComplete (s.setSlot 0 (acceptedSlot s.slopeMap n seg (s.slot 0)))) := by
  have hslot : (s.setSlot 0 (acceptedSlot s.slopeMap n seg (s.slot 0))).slot 0 =
      acceptedSlot s.slopeMap n seg (s.slot 0) := by simp
  have hslot1 : (s.setSlot 0 (acceptedSlot s.slopeMap n seg (s.slot 0))).slot 1 = s.slot 1 := by simp
  have hall := (allComplete_accepted (seg := seg) hlink hrole).mpr hcloses
  have hclosed := closeSlot_used (cause := .allComplete)
    (s := s.setSlot 0 (acceptedSlot s.slopeMap n seg (s.slot 0))) (by rw [hslot]; exact h0) (by rw [hslot1]; exact h1)
    (by rw [hslot]; exact slotMissed_complete hall) hrun
  rw [acceptSegment_first harrivals]
  dsimp only
  rw [hslot, if_pos hall, hclosed, afterClosure_slot_zero]
  exact if_neg nofun

end

/-! #### The swap that is due (R89) -/

theorem swapDue_iff (p : Option PendingFrame) (g : Frame) : swapDue p g = true ↔
    p = some .next ∨ ∃ f, p = some (.frame f) ∧ (g = f ∨ newer g f = true) := by
  cases p with
  | none => simp [swapDue]
  | some p => cases p <;> simp [swapDue]

theorem applySwap_not_due {g : Frame}
    (h : ∀ b, s.pendingBank = some b → swapDue (s.bank b).pendingFrame g ≠ true) : applySwap g s = s := by
  unfold applySwap
  split
  · rfl
  · next b hb => exact if_neg (h b hb)

theorem raise_keeps_cause {c c' : Cause} (h : s.hasCause c = true) : (raise c' s).hasCause c = true := by
  have h' : s.port.causes.getLsbD c.index = true := h
  simp [State.hasCause, raise, h']

/-- An offered record may raise causes, and takes none away. -/
theorem offer_keeps_cause {r : Record} {copy : Option CaptureCopy} {c : Cause} (h : s.hasCause c = true) :
    (offer r copy s).hasCause c = true := by
  unfold offer joinFifo
  split
  · split
    · exact h
    split
    · exact raise_keeps_cause h
    · dsimp only
      split
      · exact raise_keeps_cause h
      · exact h
  · exact h

theorem activeBank_eq_some {b : Nat} (hb : b < 2) (hactive : (s.bank b).state = .active)
    (hother : ∀ c, c < 2 → c ≠ b → (s.bank c).state ≠ .active) : s.activeBank = some b := by
  cases ha : s.activeBank with
  | none =>
    have hsome := (activeBank_isSome_iff s).mpr (by
      obtain rfl | rfl : b = 0 ∨ b = 1 := by omega
      · exact .inl hactive
      · exact .inr hactive)
    rw [ha] at hsome
    cases hsome
  | some c =>
    obtain ⟨hc, hactive'⟩ := activeBank_active ha
    by_contra hne
    exact hother c hc (fun hcb => hne (congrArg some hcb)) hactive'

/-- R89: what the swap leaves is what its bank changes leave, with SWAP_DONE raised. -/
theorem applySwap_announced {b : Nat} {g : Frame} {u : State}
    (h : applySwap g s = offerSwap b (some g) (raise .swapDone u)) :
    (∀ c, (applySwap g s).bank c = u.bank c) ∧ (applySwap g s).hasCause .swapDone = true := by
  rw [h]
  exact ⟨by simp [State.bank], offer_keeps_cause (raise_hasCause _ _)⟩

/-- R89: with no slot that names a bank, the PENDING bank is the only one ACTIVE after the swap. -/
theorem applySwap_due {b : Nat} {g : Frame} (hpending : s.pendingBank = some b)
    (hdue : swapDue (s.bank b).pendingFrame g = true) (h0 : (s.slot 0).state = .free)
    (h1 : (s.slot 1).state = .free) :
    (applySwap g s).activeBank = some b ∧
      (applySwap g s).bank b = { s.bank b with state := .active, pendingFrame := none } ∧
      (applySwap g s).hasCause .swapDone = true ∧
      ∀ o, s.activeBank = some o → (applySwap g s).bank o = { s.bank o with state := .ready } := by
  obtain ⟨hb, hstate⟩ := pendingBank_pending hpending
  cases ho : s.activeBank with
  | none =>
    obtain ⟨hbank, hcause⟩ := applySwap_announced (s := s) (b := b) (g := g) (u := activate b s) (by
      unfold applySwap
      simp only [hpending, ho]
      exact if_pos hdue)
    obtain ⟨hnone0, hnone1⟩ := (activeBank_eq_none_iff s).mp ho
    refine ⟨activeBank_eq_some hb ?_ fun c hc hcb => ?_, ?_, hcause, nofun⟩
    · rw [hbank, activate_bank, if_pos rfl]
    · rw [hbank, activate_bank, if_neg (Ne.symm hcb)]
      obtain rfl | rfl : c = 0 ∨ c = 1 := by omega
      · exact hnone0
      · exact hnone1
    · rw [hbank, activate_bank, if_pos rfl]
  | some o =>
    obtain ⟨ho', hactive⟩ := activeBank_active ho
    have hob : o ≠ b := fun h => by rw [h, hstate] at hactive; cases hactive
    have hunnamed : (activate b s).bankNamed o = false := by
      rw [bankNamed_congr (t := activate b s) (s := s) rfl]
      simp [State.bankNamed, h0, h1]
    obtain ⟨hbank, hcause⟩ := applySwap_announced (s := s) (b := b) (g := g)
      (u := (activate b s).modifyBank o (fun r => { r with state := .ready })) (by
        unfold applySwap
        simp only [hpending, ho, hunnamed]
        exact if_pos hdue)
    have hbank' : ∀ c, (applySwap g s).bank c = if o = c then { s.bank o with state := .ready }
        else if b = c then { s.bank b with state := .active, pendingFrame := none } else s.bank c := fun c => by
      rw [hbank, State.bank_modifyBank, activate_bank, activate_bank, if_neg hob.symm]
    refine ⟨activeBank_eq_some hb ?_ fun c hc hcb => ?_, ?_, hcause, ?_⟩
    · rw [hbank', if_neg hob, if_pos rfl]
    · rw [hbank', if_pos (by omega)]
      exact nofun
    · rw [hbank', if_neg hob, if_pos rfl]
    · rintro o' ⟨⟩
      rw [hbank', if_pos rfl]

theorem offer_features {r : Record} {copy : Option CaptureCopy} :
    (offer r copy s).port.features = s.port.features := by
  unfold offer joinFifo
  split
  · split
    · rfl
    split
    · rfl
    · dsimp only
      split <;> rfl
  · rfl

theorem applySwap_features (g : Frame) (s : State) : (applySwap g s).port.features = s.port.features := by
  unfold applySwap
  split
  · rfl
  split
  · refine offer_features.trans ?_
    split <;> rfl
  · rfl

/-! #### The head that is taken -/

/-- The link is the last served. -/
def served (n : Nat) (s : State) : State := { s with engine := { s.engine with lastServed := some n } }

/-- The head of link n is taken, and slot 0 is open for its frame. -/
def taken (n : Nat) (f : Frame) (s : State) : State := popHead n (openSlot 0 f (served n s))

theorem taken_leaves (n : Nat) (f : Frame) (s : State) : (taken n f s).variant = s.variant ∧
    (taken n f s).sensors = s.sensors ∧ (taken n f s).slopeMap = s.slopeMap ∧ (taken n f s).store = s.store ∧
    (taken n f s).lastClosed = s.lastClosed ∧ (taken n f s).table = s.table ∧ (taken n f s).stage = s.stage ∧
    (taken n f s).drive = s.drive ∧ (taken n f s).loop = s.loop ∧
    (taken n f s).engine = { s.engine with lastServed := some n } := by
  simp [taken, popHead, openSlot, served]

theorem taken_slot_zero (n : Nat) (f : Frame) (s : State) :
    (taken n f s).slot 0 = openedSlot s f ((applySwap f (served n s)).activeBank.getD 0) :=
  openSlot_slot f (served n s)

theorem taken_slot_one (n : Nat) (f : Frame) (s : State) : (taken n f s).slot 1 = s.slot 1 := by
  simp [taken, popHead, openSlot, served, State.slot, State.setSlot, Table.get_set]

theorem taken_image (n : Nat) (f : Frame) (s : State) :
    (taken n f s).telem.image 0 = if s.port.features.capture then some [] else none := by
  have hfeatures : (applySwap f (served n s)).port.features = s.port.features := applySwap_features f (served n s)
  simp [taken, popHead, openSlot, hfeatures]

theorem taken_receiver (n : Nat) (f : Frame) (s : State) :
    (taken n f s).receiver n = { s.receiver n with queue := (s.receiver n).queue.tail, headWaiting := false } := by
  simp [taken, popHead, openSlot, served, State.receiver, State.modifyReceiver, State.setReceiver]

/-- Equal in all that slot 0, L and the loop are not. -/
structure State.SameAside (s t : State) : Prop where
  slot : t.slot 1 = s.slot 1
  sensors : t.sensors = s.sensors
  receivers : t.receivers = s.receivers
  engine : t.engine = s.engine
  banks : t.banks = s.banks
  stage : t.stage = s.stage
  store : t.store = s.store
  table : t.table = s.table
  drive : t.drive = s.drive
  telem : t.telem = s.telem
  port : t.port = s.port

theorem setSlot_sameAside (r : Slot) (s : State) : s.SameAside (s.setSlot 0 r) :=
  ⟨(State.slot_setSlot s 0 1 r).trans (if_neg (by decide)), rfl, rfl, rfl, rfl, rfl, rfl, rfl, rfl, rfl, rfl⟩

theorem afterClosure_sameAside {cause : CloseCause} (r : Slot) (s : State) :
    s.SameAside (afterClosure cause (s.setSlot 0 r)) :=
  ⟨(afterClosure_slot_one cause _).trans (setSlot_sameAside r s).slot, rfl, rfl, rfl, rfl, rfl, rfl, rfl, rfl, rfl,
    rfl⟩

/-- R54, R55: the offered head is placed in slot 0 as it opens. -/
theorem offerHead_quiet (hqueue : (s.receiver n).queue = [seg]) (h0 : (s.slot 0).state = .free)
    (h1 : (s.slot 1).state = .free) (hrole : (s.sensor n).role ≠ .ignored)
    (hnewer : ∀ l, s.lastClosed = some l → newer seg.frame l = true) :
    offerHead n s = acceptSegment 0 n seg (taken n seg.frame s) := by
  have hoffered : offerHead n s = decideHead n seg (served n s) := by
    have hq : ((served n s).receiver n).queue = [seg] := hqueue
    unfold offerHead
    dsimp only
    split
    · next hnil => exact nomatch hq.symm.trans hnil
    · next head rest hcons =>
      obtain ⟨rfl, -⟩ := List.cons.inj (hq.symm.trans hcons)
      rfl
  rw [hoffered, decideHead_opens (s := served n s) h0 h1 hrole hnewer, placeHead_fresh, taken]
  rw [openSlot_slot]
  rfl

/-- R42: the frame of a segment that arrives alone closes at once. -/
def closesAtOnce (n : Nat) (seg : Segment) (s : State) : Prop :=
  seg.last = true ∧ ∀ m, m ≠ n → s.hasSlopeLink m = true → (s.sensor m).role = .ignored

/-- R38 to R43: the head is accepted into slot 0, and the engine begins its work from a state y that says how
the frame stands. -/
theorem offerHead_accepts (hqueue : (s.receiver n).queue = [seg]) (h0 : (s.slot 0).state = .free)
    (h1 : (s.slot 1).state = .free) (hlink : s.hasSlopeLink n = true) (hrole : (s.sensor n).role ≠ .ignored)
    (hrun : s.loop.state.running = true) (hnewer : ∀ l, s.lastClosed = some l → newer seg.frame l = true) :
    ∃ y, offerHead n s = beginSegment 0 n seg y ∧ (taken n seg.frame s).SameAside y ∧
      (¬ closesAtOnce n seg s →
        y.slot 0 = acceptedSlot s.slopeMap n seg ((taken n seg.frame s).slot 0) ∧
        y.lastClosed = s.lastClosed ∧ y.loop = s.loop) ∧
      (closesAtOnce n seg s →
        y.slot 0 = closedSlot .allComplete (acceptedSlot s.slopeMap n seg ((taken n seg.frame s).slot 0)) ∧
        y.lastClosed = some seg.frame ∧ y.loop = { s.loop with missedRun := 0 }) := by
  obtain ⟨hvariant, hsensors, hmap, -, hclosed, -, -, -, hloop, -⟩ := taken_leaves n seg.frame s
  have hslot := taken_slot_zero n seg.frame s
  have hlink' : (taken n seg.frame s).hasSlopeLink n = true := by rwa [State.hasSlopeLink, hvariant]
  have hrole' : ((taken n seg.frame s).sensor n).role ≠ .ignored := by rwa [State.sensor, hsensors]
  have hopened : ((taken n seg.frame s).slot 0).state = .opened := by rw [hslot]; rfl
  have harrivals : ((taken n seg.frame s).slot 0).arrivals = [] := by rw [hslot]; rfl
  have hcloses : (seg.last = true ∧ ∀ m, m ≠ n → (taken n seg.frame s).hasSlopeLink m = true →
      ((taken n seg.frame s).sensor m).role = .ignored) ↔ closesAtOnce n seg s := by
    simp only [State.hasSlopeLink, State.sensor, hvariant, hsensors]
    rfl
  rw [offerHead_quiet hqueue h0 h1 hrole hnewer]
  by_cases hc : closesAtOnce n seg s
  · refine ⟨_, acceptSegment_closes hlink' hrole' hopened harrivals (by rwa [taken_slot_one]) (by rwa [hloop])
      (hcloses.mpr hc), afterClosure_sameAside _ _, fun h => absurd hc h, fun _ => ⟨?_, ?_, ?_⟩⟩
    · rw [afterClosure_slot_zero, hmap]
      simp
    · simp [afterClosure, acceptedSlot, hslot, openedSlot]
    · simp [afterClosure, hloop]
  · refine ⟨_, acceptSegment_waits hlink' hrole' hopened harrivals (mt hcloses.mp hc), setSlot_sameAside _ _,
      fun _ => ⟨?_, hclosed, hloop⟩, fun h => absurd h hc⟩
    rw [hmap]
    simp

/-- R27, R56: the work of the segment begins: the sensor joins the conditioned ones of the slot. -/
theorem beginSegment_slot_zero (n : Nat) (seg : Segment) (s : State) : (beginSegment 0 n seg s).slot 0 =
    { s.slot 0 with mixed := (s.slot 0).mixed || (s.slot 0).changed.contains seg.sensor,
                    conditioned := NatSet.add (s.slot 0).conditioned seg.sensor } :=
  (State.slot_setSlot s 0 0 _).trans (if_pos rfl)

theorem beginSegment_slot_one (n : Nat) (seg : Segment) (s : State) : (beginSegment 0 n seg s).slot 1 = s.slot 1 :=
  (State.slot_setSlot s 0 1 _).trans (if_neg (by decide))

theorem beginSegment_engine (n : Nat) (seg : Segment) (s : State) : (beginSegment 0 n seg s).engine =
    { s.engine with
      work := .segment
        { slot := 0, link := n, frame := seg.frame, first := seg.first, count := seg.count, worked := 0,
          rest := seg.slopes, scale := (s.sensor seg.sensor).scale, refs := (s.sensor seg.sensor).refs } } := rfl

/-- Settles O22: the segment is the only head, opens slot 0 and is accepted, whereupon the engine is busy. -/
theorem arrivalOpensSlotAndBeginsWork : Obligations.ArrivalOpensSlotAndBeginsWork := by
  intro n gathered bytes f s hawake hlink hup hreception hfields htag hlow hhigh hexact hcovered hrun hidle hrole
    hqueues hwaiting h0 h1 hnewer due closes opened closed
  let seg : Segment := { sensor := n, frame := f.frame, first := f.first, count := f.count, last := f.last,
                         slopes := f.slopes }
  let s1 := s.modifyReceiver n (fun r => { r with
    reception := none, queue := if s.loop.state.running then r.queue ++ [seg] else r.queue,
    accepted := r.accepted + 1 })
  have hreceiver : s1.receiver n = { s.receiver n with
      reception := none, queue := [seg], accepted := (s.receiver n).accepted + 1 } := by
    simp [s1, hrun, hqueues n]
  have hqueue : (s1.receiver n).queue = [seg] := by rw [hreceiver]
  have hcandidate : linkCandidate s1 = some n := by
    refine linkCandidate_only hlink (by simp [hqueue]) (by rw [hreceiver]; exact hwaiting) fun m hm => ?_
    simp [s1, Ne.symm hm, hqueues m]
  obtain ⟨y, hoffer, haside, hwaits, hcloses⟩ :=
    offerHead_accepts (s := s1) hqueue h0 h1 hlink hrole hrun hnewer
  have hevent : exec (.segmentArrival n bytes) s = .next (beginSegment 0 n seg y) := by
    have harrives := (awake_onReceiver hawake hlink (arrive n bytes)).trans (congrArg _ (arrive_passes hup hreception
      (checkSegment_passes hfields htag hlow hhigh hexact hcovered)))
    rw [joinQueue_room (by simp [hqueues n])] at harrives
    refine harrives.trans (congrArg _ ((settle_offers (s := s1) h0 h1 hidle hrun hcandidate ?_).trans hoffer))
    rw [hoffer]
    exact nofun
  have hnotDue : (∀ b, ¬ due b) → applySwap f.frame (served n s1) = served n s1 := fun hno =>
    applySwap_not_due fun b hb hdue => hno b ⟨hb, (swapDue_iff _ _).mp hdue⟩
  have hdue : ∀ b, due b → _ := fun b hb =>
    applySwap_due (s := served n s1) (g := f.frame) hb.1 ((swapDue_iff _ _).mpr hb.2) h0 h1
  have hslot : (taken n f.frame s1).slot 0 =
      openedSlot s f.frame ((applySwap f.frame (served n s1)).activeBank.getD 0) := taken_slot_zero n f.frame s1
  have hbanks : (beginSegment 0 n seg y).banks = (applySwap f.frame (served n s1)).banks := haside.banks
  have hbank : ∀ c, (beginSegment 0 n seg y).bank c = (applySwap f.frame (served n s1)).bank c := fun c => by
    rw [State.bank, hbanks, State.bank]
  have hport : (beginSegment 0 n seg y).port = (applySwap f.frame (served n s1)).port := haside.port
  have hreceivers : (beginSegment 0 n seg y).receiver n = { s1.receiver n with queue := [], headWaiting := false } := by
    have := taken_receiver n f.frame s1
    rw [hqueue] at this
    rw [State.receiver, show (beginSegment 0 n seg y).receivers = _ from haside.receivers]
    exact this
  obtain ⟨-, hsensors, -, hstore, -, htable, hstage, hdrive, -, hengine⟩ := taken_leaves n f.frame s1
  refine ⟨_, (applySwap f.frame (served n s1)).activeBank.getD 0, hevent, fun hno => ⟨?_, ?_⟩,
    fun b hb => ⟨?_, ?_, ?_, fun o ho => ?_⟩, fun hopen => ⟨?_, ?_, ?_⟩, fun hclosed => ⟨?_, ?_, ?_⟩, ?_, ?_, ?_, ?_,
    ?_, ?_, ?_, ?_, ?_⟩
  · rw [hnotDue hno]; rfl
  · rw [hbanks, hnotDue hno]; rfl
  · rw [(hdue b hb).1]; rfl
  · exact (hbank b).trans (hdue b hb).2.1
  · exact (hasCause_congr hport _).trans (hdue b hb).2.2.1
  · exact (hbank o).trans ((hdue b hb).2.2.2 o ho)
  · rw [beginSegment_slot_zero, (hwaits hopen).1, hslot]; rfl
  · exact (hwaits hopen).2.1
  · exact (hwaits hopen).2.2
  · rw [beginSegment_slot_zero, (hcloses hclosed).1, hslot]; rfl
  · exact (hcloses hclosed).2.1
  · exact (hcloses hclosed).2.2
  · rw [beginSegment_slot_one, haside.slot, taken_slot_one]; rfl
  · rw [beginSegment_engine, haside.engine, hengine, State.sensor, haside.sensors, hsensors]; rfl
  · rw [hreceivers]
  · rw [hreceivers, hreceiver]
  · exact (congrArg (fun telem => telem.image 0) haside.telem).trans (taken_image n f.frame s1)
  · exact haside.stage.trans hstage
  · exact haside.store.trans hstore
  · exact haside.table.trans htable
  · exact haside.drive.trans hdrive

end
end Sys2Proof.Machine

namespace Sys2Proof.Machine

section
set_option Elab.async false

/-! ### The conditioned value (O23) -/

theorem saturate_range {lo hi : Int} (h : lo ≤ hi) (v : Int) : lo ≤ saturate lo hi v ∧ saturate lo hi v ≤ hi := by
  rcases lt_or_ge v lo with hlo | hlo
  · rw [saturate_of_lt hlo]
    exact ⟨le_rfl, h⟩
  · rcases lt_or_ge hi v with hhi | hhi
    · rw [saturate_of_gt h hhi]
      exact ⟨h, le_rfl⟩
    · rw [saturate_of_mem hlo hhi]
      exact ⟨hlo, hhi⟩

/-- R1: a multiple of the divisor is divided without rounding. -/
theorem roundDiv_mul_self {d : Nat} (hd : 0 < d) (n : Int) : roundDiv (n * d) d = n := by
  by_contra hne
  rcases roundingIsToNearestTiesAway (n * d) d hd n (Ne.symm hne) with hfar | ⟨htie, -⟩
  · simp at hfar
  · simp [← sub_mul, sub_eq_zero, hd.ne', Ne.symm hne] at htie

/-- Settles O23, from the laws of rounding (R1) and saturation (R2). -/
theorem conditionedValue : Obligations.ConditionedValue := by
  intro slope ref scale
  have hends : (-32767 : Int) ≤ 32767 := by decide
  refine ⟨saturate_range hends _, ?_, fun hlow hhigh => ?_, rfl, ?_⟩
  · have hzero : conditionRaw slope ref 0 = 0 := by
      simpa [conditionRaw] using roundDiv_mul_self (d := 16384) (by decide) 0
    rw [condition, hzero]
    exact saturate_of_mem (by decide) (by decide)
  · rw [condition, conditionRaw, roundDiv_mul_self (by decide), saturate_of_mem hlow hhigh]
  · obtain ⟨-, -, -, hacted⟩ := saturationTakesTheNearerEnd _ _ (conditionRaw slope ref scale) hends
    exact hacted

end
end Sys2Proof.Machine

namespace Sys2Proof.Machine

section
set_option Elab.async false

/-! ### The work of a column (O24, O27) -/

/-- R59: each row below the length of the column gains its coefficient times the value. -/
theorem get_accumulate (acc : Table Int) (v : Int) (row : Nat) (ms : List Int) (a : Nat) :
    Table.get zeroes (accumulate acc v row ms) a =
      Table.get zeroes acc a + if row ≤ a then ms.getD (a - row) 0 * v else 0 := by
  induction ms generalizing acc row with
  | nil => simp [accumulate]
  | cons m ms ih =>
    rw [accumulate, ih, Table.get_set]
    rcases lt_trichotomy row a with h | h | h
    · have hsub : a - row = a - (row + 1) + 1 := by omega
      simp [h.ne, Nat.succ_le_of_lt h, h.le, hsub]
    · simp [h]
    · simp [h.ne', not_le.mpr h, not_le.mpr (Nat.lt_succ_of_lt h)]

/-- R68: a column holds the bank's coefficients, row by row. -/
theorem column_getElem?_getD (s : State) (b j rows a : Nat) :
    (s.column b j rows)[a]?.getD 0 = if a < rows then s.coefficient b j a else 0 := by
  by_cases h : a < rows <;> simp [State.column, Table.getList, State.coefficient, dramAddress, h]

/-! #### The frame image (R178) -/

section
variable (k j : Nat) (v : Int) (s : State)

@[simp] theorem writeImage_slot (m : Nat) : (writeImage k j v s).slot m = s.slot m := by simp [State.slot]

@[simp] theorem writeImage_bank (b : Nat) : (writeImage k j v s).bank b = s.bank b := by simp [State.bank]

@[simp] theorem writeImage_bankRows (b : Nat) : (writeImage k j v s).bankRows b = s.bankRows b := by
  simp [State.bankRows]

@[simp] theorem writeImage_hasCause (c : Cause) : (writeImage k j v s).hasCause c = s.hasCause c :=
  hasCause_congr (by simp) c

end

/-- A slot without an image takes no value. -/
theorem writeImage_none {k : Nat} {s : State} (h : s.telem.image k = none) (j : Nat) (v : Int) :
    writeImage k j v s = s := by
  simp only [writeImage, h]

theorem writeImage_some {k : Nat} {s : State} {i : Table Int} (h : s.telem.image k = some i) (j : Nat) (v : Int) :
    (writeImage k j v s).telem.image k = some (Table.set zeroes i j v) := by
  simp only [writeImage, h]
  exact Table.get_set_self noImage s.telem.images k (some (Table.set zeroes i j v))

/-- What the image of a slot, where it has one, holds after a change of the state: the value v at the columns
js, and elsewhere what it held. -/
def ImageTakes (k : Nat) (v : Int) (js : List Nat) (s t : State) : Prop :=
  (s.telem.image k = none → t.telem = s.telem) ∧
  (∀ i, s.telem.image k = some i → ∃ i', t.telem.image k = some i' ∧
    ∀ j, Table.get zeroes i' j = if j ∈ js then v else Table.get zeroes i j)

theorem ImageTakes.nil {k : Nat} {v : Int} {s t : State} (h : t.telem = s.telem) : ImageTakes k v [] s t :=
  ⟨fun _ => h, fun i hi => ⟨i, by rw [h, hi], by simp⟩⟩

/-- The column j is written, and the columns js after it. -/
theorem ImageTakes.cons {k j : Nat} {v : Int} {js : List Nat} {s r u t : State} (hr : r.telem = s.telem)
    (hu : u.telem = (writeImage k j v r).telem) (h : ImageTakes k v js u t) : ImageTakes k v (j :: js) s t := by
  obtain ⟨habsent, hpresent⟩ := h
  rw [ImageTakes, ← hr]
  refine ⟨fun hnone => ?_, fun i hi => ?_⟩
  · rw [writeImage_none hnone] at hu
    rw [habsent (by rw [hu, hnone]), hu]
  · obtain ⟨i', hi', hget⟩ := hpresent _ (by rw [hu, writeImage_some hi])
    refine ⟨i', hi', fun m => ?_⟩
    rw [hget, Table.get_set]
    by_cases hm : m ∈ js
    · simp [hm]
    · simp [hm, eq_comm]

/-! #### A column takes its value and adds its products (R56, R58, R62) -/

/-- What the work of a slope and the fill-in pass do alike at column j: the value goes to the frame image, and the
products to the accumulators. -/
def takeColumn (k j : Nat) (v : Int) (bad : Bool) (s : State) : State := addColumn k j v bad (writeImage k j v s)

theorem workColumn_eq (k : Nat) (c : Int) (bad : List Nat) (s : State) (j : Nat) : workColumn k c bad s j =
    takeColumn k j c (bad.contains j) { s with store := Table.set zeroes s.store j c } := rfl

theorem fillColumn_eq (w : FillWork) (j : Nat) (bad : Bool) (s : State) : fillColumn w j bad s =
    takeColumn w.slot j (fillValue s w.substitute j) bad
      (s.modifySlot w.slot (fun r => { r with substituted := r.substituted + 1 })) := rfl

section
variable (k j : Nat) (v : Int) (bad : Bool) (s : State)

/-- R57, R58: a value of 0 reads nothing, a column that cannot be read adds nothing, and one that is read adds its
products. -/
theorem takeColumn_cases :
    (v = 0 ∧ takeColumn k j v bad s = writeImage k j v s) ∨
    ((v ≠ 0 ∧ bad = true) ∧ takeColumn k j v bad s = uncorrectableRead k (writeImage k j v s)) ∨
    ((v ≠ 0 ∧ bad = false) ∧ takeColumn k j v bad s = (writeImage k j v s).modifySlot k (fun r => { r with
      acc := accumulate r.acc v 0 (s.column (s.slot k).bank j (s.bankRows (s.slot k).bank)) })) := by
  unfold takeColumn addColumn
  split
  · next hzero => exact .inl ⟨hzero, rfl⟩
  split
  · next hzero hbad => exact .inr (.inl ⟨⟨hzero, hbad⟩, rfl⟩)
  · next hzero hbad => exact .inr (.inr ⟨⟨hzero, by simpa using hbad⟩, by simp [State.column]⟩)

/-- Of its slot, a column changes the accumulators and the DEGRADED mark alone. -/
theorem takeColumn_slot : (takeColumn k j v bad s).slot k = { s.slot k with
    acc := ((takeColumn k j v bad s).slot k).acc, degraded := ((takeColumn k j v bad s).slot k).degraded } := by
  obtain ⟨-, h⟩ | ⟨-, h⟩ | ⟨-, h⟩ := takeColumn_cases k j v bad s <;> simp [h, uncorrectableRead]

theorem takeColumn_slot_other {m : Nat} (hm : m ≠ k) : (takeColumn k j v bad s).slot m = s.slot m := by
  obtain ⟨-, h⟩ | ⟨-, h⟩ | ⟨-, h⟩ := takeColumn_cases k j v bad s <;> simp [h, uncorrectableRead, hm.symm]

theorem takeColumn_bank (b : Nat) : (takeColumn k j v bad s).bank b = { s.bank b with
    errorCount := (s.bank b).errorCount + if b = (s.slot k).bank ∧ v ≠ 0 ∧ bad = true then 1 else 0 } := by
  obtain ⟨hv, h⟩ | ⟨hv, h⟩ | ⟨hv, h⟩ := takeColumn_cases k j v bad s <;> rw [h]
  · simp [hv]
  · rcases eq_or_ne (s.slot k).bank b with hb | hb
    · simp [hv, uncorrectableRead, hb]
    · simp [uncorrectableRead, hb, hb.symm]
  · simp [hv]

theorem takeColumn_acc (a : Nat) : Table.get zeroes ((takeColumn k j v bad s).slot k).acc a =
    Table.get zeroes (s.slot k).acc a + if a < s.bankRows (s.slot k).bank ∧ bad = false then
      s.coefficient (s.slot k).bank j a * v else 0 := by
  obtain ⟨hv, h⟩ | ⟨hv, h⟩ | ⟨hv, h⟩ := takeColumn_cases k j v bad s <;> rw [h]
  · simp [hv]
  · simp [hv, uncorrectableRead]
  · simp [hv, get_accumulate, column_getElem?_getD]

theorem takeColumn_degraded : ((takeColumn k j v bad s).slot k).degraded = true ↔
    (s.slot k).degraded = true ∨ (v ≠ 0 ∧ bad = true) := by
  obtain ⟨hv, h⟩ | ⟨hv, h⟩ | ⟨hv, h⟩ := takeColumn_cases k j v bad s <;> rw [h]
  · simp [hv]
  · simp [hv, uncorrectableRead]
  · simp [hv]

theorem takeColumn_matrixError : (takeColumn k j v bad s).hasCause .matrixError = true ↔
    s.hasCause .matrixError = true ∨ (v ≠ 0 ∧ bad = true) := by
  obtain ⟨hv, h⟩ | ⟨hv, h⟩ | ⟨hv, h⟩ := takeColumn_cases k j v bad s <;> rw [h]
  · simp [hv]
  · simp [hv, uncorrectableRead, raise_hasCause]
  · simp [hv, hasCause_congr (State.modifySlot_port ..)]

theorem takeColumn_telem : (takeColumn k j v bad s).telem = (writeImage k j v s).telem := by simp [takeColumn]

end

/-! ### The fill-in of a column (O27) -/

/-- R62: while the pass has an uncovered column left, FILL_IN_COLUMN fills it in. -/
theorem fillInColumn_next {s : State} {w : FillWork} {j visited : Nat} (bad : Bool) (hawake : s.resetLow = false)
    (hwork : s.engine.work = .fill w) (hnext : s.fillNext w = some (j, visited)) :
    exec (.fillInColumn bad) s = .next { fillColumn w j bad s with
      engine := { s.engine with work := .fill { w with position := visited } } } := by
  have hengine : (fillColumn w j bad s).engine = s.engine := by simp
  show execFillInColumn bad s = _
  rw [execFillInColumn, awake, if_neg (by simp [hawake])]
  simp only [hwork, hnext, hengine]

/-- Settles O27: the column that is next takes its value (R62), and the pass goes on past it. -/
theorem fillInAddsColumn : Obligations.FillInAddsColumn := by
  intro s w j visited bad hawake hwork hnext v b
  let counted := s.modifySlot w.slot (fun r => { r with substituted := r.substituted + 1 })
  let filled := takeColumn w.slot j v bad counted
  have hevent : exec (.fillInColumn bad) s = .next { filled with
      engine := { s.engine with work := .fill { w with position := visited } } } :=
    (fillInColumn_next bad hawake hwork hnext).trans (by rw [fillColumn_eq]; rfl)
  have hslot : counted.slot w.slot = { s.slot w.slot with substituted := (s.slot w.slot).substituted + 1 } := by
    simp [counted]
  have hframe := takeColumn_slot w.slot j v bad counted
  have hleaves := fillColumn_leaves w j bad s
  have hacc := takeColumn_acc w.slot j v bad counted
  have hdegraded := takeColumn_degraded w.slot j v bad counted
  have hbank := takeColumn_bank w.slot j v bad counted b
  rw [hslot] at hframe hdegraded hbank
  simp only [hslot] at hacc
  have himage : ImageTakes w.slot v [j] s filled :=
    .cons (s := s) (r := counted) rfl (takeColumn_telem w.slot j v bad counted) (.nil rfl)
  obtain ⟨-, -, -, hreceivers, -, -, hstore, hclosed, -, hdram, -, -, -, -, hstage, -, hloop, -⟩ := hleaves
  refine ⟨_, hevent, rfl, ?_, hacc, hdegraded, takeColumn_matrixError w.slot j v bad counted, ?_, himage.1,
    fun i hi => ?_, ?_, hstore, hreceivers, hdram, hstage, hloop, hclosed, fun k hk => ?_⟩
  · exact (congrArg Slot.substituted hframe :)
  · exact (congrArg Bank.errorCount hbank).trans (by simp [b, counted])
  · simpa using himage.2 i hi
  · exact (congrArg Slot.coverage hframe :)
  · exact (takeColumn_slot_other w.slot j v bad counted hk).trans (by simp [counted, hk.symm])

/-! ### One slope of work (O24) -/

/-! #### All the columns of a valid slope -/

section
variable (k : Nat) (c : Int) (bad js : List Nat) (s : State)

theorem workColumns_store (i : Nat) : Table.get zeroes (js.foldl (workColumn k c bad) s).store i =
    if i ∈ js then c else Table.get zeroes s.store i := by
  induction js generalizing s with
  | nil => simp
  | cons j js ih =>
    have hstore : (workColumn k c bad s j).store = Table.set zeroes s.store j c := by simp [workColumn]
    rw [List.foldl_cons, ih, hstore, Table.get_set]
    by_cases hi : i ∈ js
    · simp [hi]
    · simp [hi, eq_comm]

/-- Of the slot, the columns change the accumulators and the DEGRADED mark alone. -/
theorem workColumns_slot : (js.foldl (workColumn k c bad) s).slot k = { s.slot k with
    acc := ((js.foldl (workColumn k c bad) s).slot k).acc,
    degraded := ((js.foldl (workColumn k c bad) s).slot k).degraded } := by
  induction js generalizing s with
  | nil => rfl
  | cons j js ih =>
    have hcolumn : (workColumn k c bad s j).slot k = _ := takeColumn_slot ..
    rw [List.foldl_cons, ih, hcolumn]
    rfl

theorem workColumns_slot_other {m : Nat} (hm : m ≠ k) : (js.foldl (workColumn k c bad) s).slot m = s.slot m := by
  induction js generalizing s with
  | nil => rfl
  | cons j js ih => exact (ih _).trans (takeColumn_slot_other _ _ _ _ _ hm)

/-- R57, R58: the products of the columns whose read is not uncorrectable. -/
theorem workColumns_acc (a : Nat) : Table.get zeroes ((js.foldl (workColumn k c bad) s).slot k).acc a =
    Table.get zeroes (s.slot k).acc a + if a < s.bankRows (s.slot k).bank then
      ((js.filter (fun j => !bad.contains j)).map (fun j => s.coefficient (s.slot k).bank j a * c)).sum else 0 := by
  induction js generalizing s with
  | nil => simp
  | cons j js ih =>
    have hacc : Table.get zeroes ((workColumn k c bad s j).slot k).acc a = Table.get zeroes (s.slot k).acc a +
        if a < s.bankRows (s.slot k).bank ∧ bad.contains j = false then s.coefficient (s.slot k).bank j a * c else 0 :=
      takeColumn_acc ..
    have hbank : ((workColumn k c bad s j).slot k).bank = (s.slot k).bank :=
      (congrArg Slot.bank (takeColumn_slot ..) :)
    have hrows : (workColumn k c bad s j).bankRows = s.bankRows := by
      funext b
      exact congrArg (fun r => r.rows.getD 0) (takeColumn_bank ..)
    have hcoefficient : (workColumn k c bad s j).coefficient = s.coefficient := by
      funext b i m
      simp [State.coefficient]
    rw [List.foldl_cons, ih, hbank, hrows, hcoefficient, hacc]
    by_cases ha : a < s.bankRows (s.slot k).bank
    · by_cases hj : j ∈ bad <;> simp [ha, hj, add_assoc]
    · simp [ha]

/-- R58: an uncorrectable read of a value that is not 0. -/
def readFails (c : Int) (bad js : List Nat) : Prop := c ≠ 0 ∧ ∃ j ∈ js, j ∈ bad

theorem readFails_cons (j : Nat) :
    readFails c bad (j :: js) ↔ (c ≠ 0 ∧ bad.contains j = true) ∨ readFails c bad js := by
  simp [readFails, and_or_left]

theorem workColumns_degraded : ((js.foldl (workColumn k c bad) s).slot k).degraded = true ↔
    (s.slot k).degraded = true ∨ readFails c bad js := by
  induction js generalizing s with
  | nil => simp [readFails]
  | cons j js ih =>
    rw [List.foldl_cons, ih, workColumn_eq, takeColumn_degraded, readFails_cons, or_assoc]
    rfl

theorem workColumns_matrixError : (js.foldl (workColumn k c bad) s).hasCause .matrixError = true ↔
    s.hasCause .matrixError = true ∨ readFails c bad js := by
  induction js generalizing s with
  | nil => simp [readFails]
  | cons j js ih =>
    rw [List.foldl_cons, ih, workColumn_eq, takeColumn_matrixError, readFails_cons, or_assoc]
    rfl

/-- R58: the bank counts each uncorrectable read. -/
theorem workColumns_errorCount : ((js.foldl (workColumn k c bad) s).bank (s.slot k).bank).errorCount =
    (s.bank (s.slot k).bank).errorCount +
      BitVec.ofNat 32 (if c ≠ 0 then (js.filter (fun j => bad.contains j)).length else 0) := by
  induction js generalizing s with
  | nil => simp
  | cons j js ih =>
    have hbank : ((workColumn k c bad s j).slot k).bank = (s.slot k).bank :=
      (congrArg Slot.bank (takeColumn_slot ..) :)
    have hcount : ((workColumn k c bad s j).bank (s.slot k).bank).errorCount = (s.bank (s.slot k).bank).errorCount +
        if (s.slot k).bank = (s.slot k).bank ∧ c ≠ 0 ∧ bad.contains j = true then 1 else 0 :=
      (congrArg Bank.errorCount (takeColumn_bank ..) :)
    have hih := ih (workColumn k c bad s j)
    rw [hbank] at hih
    rw [List.foldl_cons, hih, hcount]
    by_cases hc : c = 0
    · simp [hc]
    · by_cases hj : j ∈ bad
      · simp [hc, hj, BitVec.ofNat_add, add_assoc, add_comm 1#32]
      · simp [hc, hj]

theorem workColumns_image : ImageTakes k c js s (js.foldl (workColumn k c bad) s) := by
  induction js generalizing s with
  | nil => exact .nil rfl
  | cons j js ih =>
    exact .cons (r := { s with store := Table.set zeroes s.store j c }) rfl (takeColumn_telem ..) (ih _)

end

/-! #### A slope and its columns (R26) -/

section
variable (k : Nat) (js : List Nat) (s : State)

theorem writeImages_slot (m : Nat) : (js.foldl (fun t j => writeImage k j 0 t) s).slot m = s.slot m := by
  simp [State.slot]

theorem writeImages_bank (b : Nat) : (js.foldl (fun t j => writeImage k j 0 t) s).bank b = s.bank b := by
  simp [State.bank]

theorem writeImages_hasCause (c : Cause) : (js.foldl (fun t j => writeImage k j 0 t) s).hasCause c = s.hasCause c :=
  hasCause_congr (by simp) c

theorem writeImages_image : ImageTakes k 0 js s (js.foldl (fun t j => writeImage k j 0 t) s) := by
  induction js generalizing s with
  | nil => exact .nil rfl
  | cons j js ih => exact .cons (r := s) rfl rfl (ih _)

end

section
variable (k : Nat) (slope ref : Int) (scale : Nat) (js bad : List Nat) (s : State)

/-- The slot with the counts of the slope: the invalid marker counts its columns as invalid, a valid slope whose
value was saturated counts them as saturated. -/
def countedSlope : State :=
  s.modifySlot k (fun r => { r with
    invalid := r.invalid + if slope ≠ invalidMarker then 0 else js.length
    saturated := r.saturated +
      if slope ≠ invalidMarker ∧ conditionSaturated slope ref scale = true then js.length else 0 })

/-- The invalid marker writes 0 to the frame image; the columns of a valid slope take its conditioned value. -/
theorem workSlope_eq : workSlope k slope ref scale js bad s =
    if slope ≠ invalidMarker then
      js.foldl (workColumn k (condition slope ref scale) bad) (countedSlope k slope ref scale js s)
    else js.foldl (fun t j => writeImage k j 0 t) (countedSlope k slope ref scale js s) := by
  unfold workSlope
  split
  · next h => simp [h, countedSlope]
  · next h => simp [h, countedSlope]

theorem workSlope_store (i : Nat) : Table.get zeroes (workSlope k slope ref scale js bad s).store i =
    if slope ≠ invalidMarker ∧ i ∈ js then condition slope ref scale else Table.get zeroes s.store i := by
  rw [workSlope_eq]
  split
  · next h => simp [workColumns_store, h, countedSlope]
  · next h => simp [h, countedSlope]

/-- Of the slot, the slope changes the counts, the accumulators and the DEGRADED mark alone. -/
theorem workSlope_slot : (workSlope k slope ref scale js bad s).slot k =
    { (countedSlope k slope ref scale js s).slot k with
      acc := ((workSlope k slope ref scale js bad s).slot k).acc
      degraded := ((workSlope k slope ref scale js bad s).slot k).degraded } := by
  rw [workSlope_eq]
  split
  · exact workColumns_slot ..
  · rw [writeImages_slot]

theorem workSlope_slot_other {m : Nat} (hm : m ≠ k) : (workSlope k slope ref scale js bad s).slot m = s.slot m := by
  have hcounted : (countedSlope k slope ref scale js s).slot m = s.slot m := by simp [countedSlope, hm.symm]
  rw [workSlope_eq]
  split
  · exact (workColumns_slot_other _ _ _ _ _ hm).trans hcounted
  · exact (writeImages_slot ..).trans hcounted

/-- What the counts of the slope leave as it was. -/
theorem countedSlope_leaves : (countedSlope k slope ref scale js s).bank = s.bank ∧
    (countedSlope k slope ref scale js s).bankRows = s.bankRows ∧
    (countedSlope k slope ref scale js s).coefficient = s.coefficient ∧
    (countedSlope k slope ref scale js s).hasCause = s.hasCause ∧
    ((countedSlope k slope ref scale js s).slot k).bank = (s.slot k).bank ∧
    ((countedSlope k slope ref scale js s).slot k).acc = (s.slot k).acc ∧
    ((countedSlope k slope ref scale js s).slot k).degraded = (s.slot k).degraded :=
  ⟨rfl, rfl, rfl, rfl, by simp [countedSlope]⟩

theorem workSlope_acc (a : Nat) : Table.get zeroes ((workSlope k slope ref scale js bad s).slot k).acc a =
    Table.get zeroes (s.slot k).acc a + if slope ≠ invalidMarker ∧ a < s.bankRows (s.slot k).bank then
      ((js.filter (fun j => !bad.contains j)).map
        (fun j => s.coefficient (s.slot k).bank j a * condition slope ref scale)).sum else 0 := by
  obtain ⟨-, hrows, hcoefficient, -, hbank, hacc, -⟩ := countedSlope_leaves k slope ref scale js s
  rw [workSlope_eq]
  split
  · next h => simp [workColumns_acc, hrows, hcoefficient, hbank, hacc, h]
  · next h => simp [writeImages_slot, hacc, h]

theorem workSlope_degraded : ((workSlope k slope ref scale js bad s).slot k).degraded = true ↔
    (s.slot k).degraded = true ∨ (slope ≠ invalidMarker ∧ readFails (condition slope ref scale) bad js) := by
  obtain ⟨-, -, -, -, -, -, hdegraded⟩ := countedSlope_leaves k slope ref scale js s
  rw [workSlope_eq]
  split
  · next h => simp [workColumns_degraded, hdegraded, h]
  · next h => simp [writeImages_slot, hdegraded, h]

theorem workSlope_matrixError : (workSlope k slope ref scale js bad s).hasCause .matrixError = true ↔
    s.hasCause .matrixError = true ∨ (slope ≠ invalidMarker ∧ readFails (condition slope ref scale) bad js) := by
  obtain ⟨-, -, -, hcause, -⟩ := countedSlope_leaves k slope ref scale js s
  rw [workSlope_eq]
  split
  · next h => simp [workColumns_matrixError, hcause, h]
  · next h => simp [writeImages_hasCause, hcause, h]

/-- R58: the bank of the slot counts each uncorrectable read. -/
theorem workSlope_errorCount : ((workSlope k slope ref scale js bad s).bank (s.slot k).bank).errorCount =
    (s.bank (s.slot k).bank).errorCount + BitVec.ofNat 32 (if slope ≠ invalidMarker ∧ condition slope ref scale ≠ 0
      then (js.filter (fun j => bad.contains j)).length else 0) := by
  obtain ⟨hbanks, -, -, -, hbank, -⟩ := countedSlope_leaves k slope ref scale js s
  rw [workSlope_eq, ← hbank]
  split
  · next h => simp [workColumns_errorCount, hbanks, h]
  · next h => simp [writeImages_bank, hbanks, h]

theorem workSlope_image : ImageTakes k (if slope ≠ invalidMarker then condition slope ref scale else 0) js s
    (workSlope k slope ref scale js bad s) := by
  rw [workSlope_eq]
  split
  · exact workColumns_image k _ bad js (countedSlope k slope ref scale js s)
  · exact writeImages_image k js (countedSlope k slope ref scale js s)

end

/-! #### The engine after the slope (R53, R56) -/

/-- R54: the choices depend on the slots' states and frames, the queues and the link served last. -/
theorem State.nothingToChoose.of_same {s t : State} (h : s.nothingToChoose) (hvariant : t.variant = s.variant)
    (hreceivers : t.receivers = s.receivers) (hstage : t.stage = s.stage)
    (hserved : t.engine.lastServed = s.engine.lastServed)
    (hstates : ∀ k, (t.slot k).state = (s.slot k).state) (hframes : ∀ k, (t.slot k).frame = (s.slot k).frame) :
    t.nothingToChoose := by
  obtain ⟨hphase, hfill, hlink⟩ := h
  refine ⟨hstage ▸ hphase, ?_, ?_⟩
  · simpa only [fillCandidate, hstates, hframes] using hfill
  · simpa only [linkCandidate, linkOrder, State.receiver, hvariant, hreceivers, hserved] using hlink

theorem segmentStep_slot (w : SegmentWork) (rest : List Int) (s : State) (k : Nat) :
    (segmentStep w rest s).slot k = s.slot k := by
  simp [State.slot]

/-- What the work of a slope leaves of every slot. -/
theorem workSlope_slot_same (k : Nat) (slope ref : Int) (scale : Nat) (js bad : List Nat) (s : State) (m : Nat) :
    ((workSlope k slope ref scale js bad s).slot m).state = (s.slot m).state ∧
    ((workSlope k slope ref scale js bad s).slot m).frame = (s.slot m).frame := by
  rcases eq_or_ne m k with rfl | hm
  · rw [workSlope_slot]
    simp [countedSlope]
  · rw [workSlope_slot_other _ _ _ _ _ _ _ hm]
    exact ⟨rfl, rfl⟩

/-- R56: SLOPE_WORK works the next slope; after the last one nothing begins where nothing is to be chosen. -/
theorem slopeWork_next {s : State} {w : SegmentWork} {slope : Int} {rest : List Int} (bad : List Nat)
    (hawake : s.resetLow = false) (hwork : s.engine.work = .segment w) (hrest : w.rest = slope :: rest)
    (hnothing : rest = [] → s.nothingToChoose) :
    exec (.slopeWork bad) s = .next (segmentStep w rest (workSlope w.slot slope
      (Table.get zeroes w.refs (w.first + w.worked)) w.scale
      (slopeColumns s.slopeMap w.link (w.first + w.worked)) bad s)) := by
  show execSlopeWork bad s = _
  rw [execSlopeWork, awake, if_neg (by simp [hawake])]
  simp only [hwork, hrest, workNextSlope]
  cases rest with
  | cons _ _ => rfl
  | nil =>
    rw [List.isEmpty_nil, if_pos rfl]
    refine congrArg _ (settle_nothing _ ((hnothing rfl).of_same ?_ ?_ ?_ ?_ (fun m => ?_) (fun m => ?_)))
    · simp
    · simp
    · simp
    · simp [segmentStep]
    · rw [segmentStep_slot]
      exact (workSlope_slot_same ..).1
    · rw [segmentStep_slot]
      exact (workSlope_slot_same ..).2

theorem segmentStep_engine_rest {rest : List Int} (h : rest ≠ []) (w : SegmentWork) (s : State) :
    (segmentStep w rest s).engine =
      { s.engine with work := .segment { w with worked := w.worked + 1, rest := rest } } := by
  obtain ⟨v, vs, rfl⟩ := List.exists_cons_of_ne_nil h
  rfl

/-- Settles O24: the slope is worked with its columns (R26), and the item goes on or ends (R56). -/
theorem slopeWorkAddsProducts : Obligations.SlopeWorkAddsProducts := by
  intro s w slope rest bad hawake hwork hrest hnothing number columns c valid hit b
  let ref := Table.get zeroes w.refs number
  let worked := workSlope w.slot slope ref w.scale columns bad s
  have hevent : exec (.slopeWork bad) s = .next (segmentStep w rest worked) :=
    slopeWork_next bad hawake hwork hrest hnothing
  have hslot : ∀ k, (segmentStep w rest worked).slot k = worked.slot k := segmentStep_slot w rest worked
  have hframe := workSlope_slot w.slot slope ref w.scale columns bad s
  have himage := workSlope_image w.slot slope ref w.scale columns bad s
  obtain ⟨-, -, -, hreceivers, hsensors, hmap, hclosed, hengine, hdram, hloader, htable, -, hhold, hstage, hdrive,
    hloop, hscan, -⟩ := workSlope_leaves w.slot slope ref w.scale columns bad s
  obtain ⟨-, -, -, hreceivers', hsensors', hmap', hstore', -, hclosed', hbanks', hdram', hloader', htable', -, hhold',
    hstage', hdrive', hloop', hscan', htelem', hport', -⟩ := segmentStep_leaves w rest worked
  refine ⟨_, hevent, fun h => ?_, fun h => ?_, fun j => ?_, fun a => ?_, ?_, ?_, ?_, ?_, fun h => ?_, fun i hi => ?_,
    ?_, fun m => ?_, hsensors'.trans hsensors, hmap'.trans hmap, hclosed'.trans hclosed, hdram'.trans hdram,
    hloader'.trans hloader, htable'.trans htable, hhold'.trans hhold, hstage'.trans hstage, hdrive'.trans hdrive,
    hloop'.trans hloop, hscan'.trans hscan, fun k hk => ?_⟩
  · rw [segmentStep_engine_rest h, hengine]
  · rw [h, segmentStep, hengine]
  · rw [hstore']
    exact workSlope_store ..
  · rw [hslot]
    exact workSlope_acc ..
  · rw [hslot]
    exact (congrArg Slot.invalid hframe :).trans (by simp [countedSlope, valid])
  · rw [hslot]
    exact (congrArg Slot.saturated hframe :).trans (by simp [countedSlope, valid, ref])
  · rw [hslot]
    exact workSlope_degraded ..
  · rw [hasCause_congr hport']
    exact workSlope_matrixError ..
  · exact htelem'.trans (himage.1 h)
  · rw [htelem']
    exact himage.2 i hi
  · rw [State.bank, hbanks']
    exact workSlope_errorCount ..
  · rw [State.receiver, hreceivers', hreceivers, State.receiver]
  · rw [hslot]
    exact workSlope_slot_other _ _ _ _ _ _ _ hk

end
end Sys2Proof.Machine

namespace Sys2Proof.Machine

section
set_option Elab.async false

/-! ### Requests that may not be sent as they are (O60) -/

/-- R190: a broadcast that may not be one is refused, whatever its owning block would say. -/
theorem request_broadcastRefused {env : Envelope} {code : Nat} {s : State} (body : State → Verdict)
    (hawake : s.resetLow = false) (hmaster : env.master ≠ 0) (hbroadcast : env.broadcast = true)
    (hcode : code ∉ [0x17, 0x18, 0x25, 0x26, 0x27, 0x28, 0x29, 0x3C]) :
    request env code body s = .next (broadcastRefused env code s) := by
  have hmay : mayBroadcast code = false := by simpa [mayBroadcast] using hcode
  simp [request, awake, takeRequest, verdictOf, conclude, refuse, replyWith, reportRefusal, broadcastRefused, hawake,
    hmaster, hbroadcast, hmay]

/-- R191: an addressed request that its block refuses is answered with the refusal. -/
theorem request_refused {env : Envelope} {code : Nat} {s : State} {body : State → Verdict} {status : Status}
    {position : Nat} {detail : Detail} {value : Option Int} {owner : Option Nat} (h : reaches env s)
    (hv : body (takeFrame env s) = .refused status position detail value owner (takeFrame env s)) :
    request env code body s = .next (refusedReply env code status position detail value owner s) := by
  obtain ⟨-, -, hbroadcast, -⟩ := id h
  rw [request_reaches env code body s h, hv, conclude, reportRefusal_addressed _ _ _ _ hbroadcast, refusedReply]

/-- R188: a command of the wire is a request of its code, judged by its owning block; every block but that of
REF_WRITE first refuses a payload that does not match its fields (R205). -/
theorem exec_of_wire {c : Instr} {env : Envelope} {w : WireRequest} (h : wireOf c = some (env, w)) (s : State) :
    ∃ body, exec c s = request env w.code body s ∧
      ((∀ e a b n xs, c ≠ .refWrite e a b n xs) → env.payloadFits = false → ∀ u, body u = refusePayload u) := by
  cases c <;> cases h
  case refWrite => exact ⟨_, rfl, fun hne => (hne _ _ _ _ _ rfl).elim⟩
  all_goals exact ⟨_, rfl, fun _ hfit u => whenFits_false _ u _ hfit⟩

theorem wireOf_of_envelope_code {c : Instr} {env : Envelope} {code : Nat} (henv : envelopeOf c = some env)
    (hcode : codeOf c = some code) : ∃ w, wireOf c = some (env, w) ∧ w.code = code := by
  obtain ⟨⟨e, w⟩, hwire, rfl⟩ := Option.map_eq_some_iff.mp henv
  exact ⟨w, hwire, by simpa [codeOf, hwire] using hcode⟩

/-- R23: REF_WRITE makes the check of the payload after those of the sensor and the count. -/
theorem refWriteBody_misfit {env : Envelope} {n first count : Nat} {offsets : List Int} {s : State}
    (hfit : env.payloadFits = false) (hlink : s.hasSlopeLink n = true) (hlow : 1 ≤ count) (hhigh : count ≤ 1000) :
    refWriteBody env n first count offsets s = refusePayload s := by
  rw [refWriteBody, if_neg (by simp [hlink]), if_neg (by omega), if_pos (by simp [hfit])]

/-- Settles O60: every command of the wire is a request of its code, and the port (R188) or its block (R205)
refuses it. -/
theorem unsuitableRequestsAreRefused : Obligations.UnsuitableRequestsAreRefused := by
  intro c env code s henv hcode
  obtain ⟨w, hwire, rfl⟩ := wireOf_of_envelope_code henv hcode
  obtain ⟨body, hexec, hmisfit⟩ := exec_of_wire hwire s
  refine ⟨fun hawake hmaster hbroadcast hnot => ?_, fun h hfit hne => ?_,
    fun h hfit n first count offsets hc hlink hlow hhigh => ?_⟩
  · exact hexec.trans (request_broadcastRefused body hawake hmaster hbroadcast hnot)
  · exact hexec.trans (request_refused h (hmisfit hne hfit _))
  · subst hc
    cases hwire
    exact request_refused h (refWriteBody_misfit (s := takeFrame env s) hfit hlink hlow hhigh)

/-! ### Sensor settings and the slope map (O52) -/

section
variable {env : Envelope} {s : State} {n : Nat} (hfit : env.payloadFits = true)
include hfit

theorem sensorRoleBody_absent (hlink : s.hasSlopeLink n = false) (role : Nat) :
    sensorRoleBody env n role s = refuse .notPresent 1 s := by
  rw [sensorRoleBody, whenFits_true _ _ _ hfit, if_pos (by simp [hlink])]

theorem sensorTagBody_absent (hlink : s.hasSlopeLink n = false) (tag : Nat) :
    sensorTagBody env n tag s = refuse .notPresent 1 s := by
  rw [sensorTagBody, whenFits_true _ _ _ hfit, if_pos (by simp [hlink])]

theorem sensorTagBody_above (hlink : s.hasSlopeLink n = true) {tag : Nat} (htag : 15 < tag) :
    sensorTagBody env n tag s = refuse .badArgument 2 s := by
  rw [sensorTagBody, whenFits_true _ _ _ hfit, if_neg (by simp [hlink]), if_pos htag]

theorem sensorTagBody_done (hlink : s.hasSlopeLink n = true) {tag : Nat} (htag : tag ≤ 15) :
    sensorTagBody env n tag s = .done (s.setSensor n { s.sensor n with tag := tag }) := by
  rw [sensorTagBody, whenFits_true _ _ _ hfit, if_neg (by simp [hlink]), if_neg (by omega)]

/-- R19: the role is set, unless a running loop would be left without a REQUIRED sensor. -/
theorem sensorRoleBody_eq (hlink : s.hasSlopeLink n = true) {number : Nat} {role : Role}
    (hrole : roleOf number = some role) : sensorRoleBody env n number s =
      if s.loop.state.running = true ∧ someRequired s n role = false then refuse .conflict 2 s
      else .done (s.setSensor n { s.sensor n with role := role }) := by
  simp [sensorRoleBody, whenFits_true, hfit, hlink, hrole]

theorem sensorScaleBody_done (hlink : s.hasSlopeLink n = true) (scale : Nat) : sensorScaleBody env n scale s =
    .done (markChanged n (s.setSensor n { s.sensor n with scale := scale })) := by
  rw [sensorScaleBody, whenFits_true _ _ _ hfit, if_neg (by simp [hlink])]

theorem sensorCountBody_done (hlink : s.hasSlopeLink n = true) {count : Nat} (hcount : count ≤ 2048)
    (hswap : s.swapPending = false) (hstop : s.loop.state = .stopped)
    (hmap : ∀ e ∈ s.slopeMap, e.sensor = n → e.first + e.count ≤ count) : sensorCountBody env n count s =
      .done (s.setSensor n { s.sensor n with slopeCount := count }) := by
  have hbeyond : entryBeyond s.slopeMap n count = none := by
    simpa [entryBeyond, List.findIdx?_eq_none_iff] using hmap
  rw [sensorCountBody, whenFits_true _ _ _ hfit, if_neg (by simp [hlink]),
    if_neg (show ¬ Config.slopesPerSensor < count from Nat.not_lt.mpr hcount), if_neg (by simp [hswap]),
    if_neg (by simp [hstop]), hbeyond]

theorem refWriteBody_done (hlink : s.hasSlopeLink n = true) {first : Nat} {offsets : List Int}
    (hlow : 1 ≤ offsets.length) (hhigh : offsets.length ≤ 1000) (hlast : first + offsets.length ≤ 2048)
    (hvalid : ∀ v ∈ offsets, v ≠ -32768) : refWriteBody env n first offsets.length offsets s =
      .done (markChanged n (s.setSensor n { s.sensor n with
        refs := Table.setList zeroes (s.sensor n).refs first offsets })) := by
  have hmarker : offsets.findIdx? (fun i => decide (i = invalidMarker)) = none :=
    List.findIdx?_eq_none_iff.mpr fun v hv => decide_eq_false (hvalid v hv)
  rw [refWriteBody, if_neg (by simp [hlink]), if_neg (by omega), if_neg (by simp [hfit]),
    if_neg (show ¬ Config.slopesPerSensor < first + offsets.length from Nat.not_lt.mpr hlast), hmarker]

theorem mapWriteBody_done {entries : List MapEntry} (hlength : entries.length ≤ 32) (hswap : s.swapPending = false)
    (hstop : s.loop.state = .stopped) (hpass : mapFault s [] entries = none) : mapWriteBody env entries s =
      .done { s with slopeMap := entries, store := [] } := by
  rw [mapWriteBody, whenFits_true _ _ _ hfit,
    if_neg (show ¬ Config.mapEntries < entries.length from Nat.not_lt.mpr hlength), if_neg (by simp [hswap]),
    if_neg (by simp [hstop]), hpass]

end

/-- R19: some sensor is REQUIRED with the role given to sensor n. -/
theorem someRequired_iff {s : State} {n : Nat} {role : Role} (hlink : s.hasSlopeLink n = true) :
    someRequired s n role = true ↔
      role = .required ∨ ∃ m, m ≠ n ∧ s.hasSlopeLink m = true ∧ (s.sensor m).role = .required := by
  simp only [someRequired, State.slopeLinkList, State.hasSlopeLink, List.any_eq_true, List.mem_range,
    decide_eq_true_eq] at hlink ⊢
  constructor
  · rintro ⟨m, hm, hrole⟩
    split at hrole
    · exact .inl hrole
    · next hne => exact .inr ⟨m, hne, hm, hrole⟩
  · rintro (hrole | ⟨m, hne, hm, hrole⟩)
    · exact ⟨n, hlink, by rwa [if_pos rfl]⟩
    · exact ⟨m, hm, by rwa [if_neg hne]⟩

/-! #### The changed marks (R27) -/

theorem markSlot_slot (n k : Nat) (s : State) (m : Nat) : (markSlot n k s).slot m =
    if m = k ∧ (s.slot k).state ≠ .free ∧ n ∈ (s.slot k).conditioned then
      { s.slot k with changed := NatSet.add (s.slot k).changed n }
    else s.slot m := by
  unfold markSlot
  by_cases hmark : (s.slot k).state ≠ .free ∧ n ∈ (s.slot k).conditioned
  · rw [if_pos (by simpa using hmark)]
    simp [hmark, eq_comm]
  · rw [if_neg (by simpa using hmark), if_neg fun h => hmark h.2]

/-- R27: each of the two slots that is not FREE and has conditioned sensor n is marked. -/
theorem markChanged_slot (n : Nat) (s : State) {k : Nat} (hk : k < 2) : (markChanged n s).slot k =
    if (s.slot k).state ≠ .free ∧ n ∈ (s.slot k).conditioned then
      { s.slot k with changed := NatSet.add (s.slot k).changed n }
    else s.slot k := by
  obtain rfl | rfl : k = 0 ∨ k = 1 := by omega
  · simp [markChanged, markSlot_slot]
  · simp [markChanged, markSlot_slot]

/-- A request that sets sensor n and marks it is answered OK. -/
theorem request_marks {env : Envelope} {s : State} {n : Nat} {r : Sensor} (h : arrives env s) (code : Nat)
    {body : State → Verdict}
    (hv : body (takeFrame env s) = .done (markChanged n ((takeFrame env s).setSensor n r))) :
    ∃ t, request env code body s = .next t ∧
      t = { s with
        sensors := Table.set Sensor.reset s.sensors n r, slots := t.slots, port := (okAfter env id s).port } ∧
      ∀ k, k < 2 → t.slot k =
        if (s.slot k).state ≠ .free ∧ n ∈ (s.slot k).conditioned then
          { s.slot k with changed := NatSet.add (s.slot k).changed n }
        else s.slot k := by
  obtain ⟨-, -, hbroadcast, -⟩ := h.1
  refine ⟨_, request_of_verdict h code hv, ?_, fun k hk => ?_⟩
  · rw [Verdict.done, conclude, markChanged_frame]
    simp only [okAfter, replyWith, hbroadcast]
    rfl
  · have hreply : (replyWith env .ok false [] (markChanged n ((takeFrame env s).setSensor n r))).slot k =
        (markChanged n ((takeFrame env s).setSensor n r)).slot k := by simp [replyWith, hbroadcast, State.slot]
    exact hreply.trans (markChanged_slot n _ hk)

/-! #### The entries of a map that passes (R29) -/

/-- R29 check 4, of one entry: its sensor is present, and its slopes and columns are in range. -/
def State.entryAllowed (s : State) (e : MapEntry) : Prop :=
  s.hasSlopeLink e.sensor = true ∧ e.first ≤ 2047 ∧ 1 ≤ e.count ∧ e.count ≤ 2048 ∧
    e.first + e.count ≤ (s.sensor e.sensor).slopeCount ∧ e.column + e.count ≤ Config.columns s.variant

/-- R29 check 4, of two entries: they share no column. -/
def entriesApart (e f : MapEntry) : Prop := e.column + e.count ≤ f.column ∨ f.column + f.count ≤ e.column

theorem sharedColumn_none {earlier : List MapEntry} {e : MapEntry} (h : ∀ p ∈ earlier, entriesApart p e) :
    sharedColumn earlier e = none := by
  rw [sharedColumn, List.find?_eq_none]
  intro j hj
  obtain ⟨i, hi, rfl⟩ := List.mem_map.mp hj
  simp only [List.any_eq_true, not_exists, not_and, covers, Bool.and_eq_true, decide_eq_true_eq]
  intro p hp
  have hapart := h p hp
  rw [List.mem_range] at hi
  rw [entriesApart] at hapart
  omega

theorem entryFault_none {s : State} {earlier : List MapEntry} {e : MapEntry} (hallowed : s.entryAllowed e)
    (hapart : ∀ p ∈ earlier, entriesApart p e) : entryFault s earlier e = none := by
  obtain ⟨hlink, hfirst, hlow, hhigh, hslopes, hcolumns⟩ := hallowed
  rw [entryFault, if_neg (by simp [hlink]), if_neg (by omega), if_neg (by omega), if_neg (by omega),
    sharedColumn_none hapart]
  rfl

theorem mapFault_none {s : State} {earlier entries : List MapEntry} (hallowed : ∀ e ∈ entries, s.entryAllowed e)
    (hapart : (earlier ++ entries).Pairwise entriesApart) : mapFault s earlier entries = none := by
  induction entries generalizing earlier with
  | nil => rfl
  | cons e rest ih =>
    obtain ⟨he, hrest⟩ := List.forall_mem_cons.mp hallowed
    obtain ⟨-, -, hbefore⟩ := List.pairwise_append.mp hapart
    have hpass : entryFault s earlier e = none :=
      entryFault_none he fun p hp => hbefore p hp e List.mem_cons_self
    simp only [mapFault, hpass]
    exact ih hrest (by rwa [List.append_assoc, List.singleton_append])

/-- Settles O52: each request is answered with the verdict of its block (R188, R189). -/
theorem sensorSettings : Obligations.SensorSettings := by
  intro env s n h old set marked
  have hfit : env.payloadFits = true := h.2
  refine ⟨fun hlink => ⟨fun role => ?_, fun tag => ?_⟩, fun hlink => ⟨fun tag htag => ?_, fun tag htag => ?_,
    fun number role hnumber hrequired => ?_, fun number role hnumber hrun hrole hothers => ?_,
    fun count hcount hswap hstop hmap => ?_, fun scale => ?_, fun first offsets hlow hhigh hlast hvalid => ?_⟩,
    fun entries hlength hswap hstop hallowed hapart => ?_⟩
  · exact request_refused h.1 (sensorRoleBody_absent (s := takeFrame env s) hfit hlink role)
  · exact request_refused h.1 (sensorTagBody_absent (s := takeFrame env s) hfit hlink tag)
  · exact request_of_verdict h 0x04 (sensorTagBody_done (s := takeFrame env s) hfit hlink htag)
  · exact request_refused h.1 (sensorTagBody_above (s := takeFrame env s) hfit hlink htag)
  · have hkept : ¬ (s.loop.state.running = true ∧ someRequired s n role = false) := by
      rintro ⟨hrun, hnone⟩
      have := (someRequired_iff hlink).mpr (hrequired.resolve_left (by simp [hrun]))
      simp [this] at hnone
    exact request_of_verdict h 0x03 ((sensorRoleBody_eq (s := takeFrame env s) hfit hlink hnumber).trans
      (if_neg hkept))
  · have hnone : someRequired s n role = false := by
      rw [← Bool.not_eq_true, someRequired_iff hlink]
      rintro (hrequired | ⟨m, hne, hm, hrequired⟩)
      · exact hrole hrequired
      · exact hothers m hne hm hrequired
    exact request_refused h.1 ((sensorRoleBody_eq (s := takeFrame env s) hfit hlink hnumber).trans
      (if_pos ⟨hrun, hnone⟩))
  · exact request_of_verdict h 0x06 (sensorCountBody_done (s := takeFrame env s) hfit hlink hcount hswap hstop hmap)
  · exact request_marks h 0x05 (sensorScaleBody_done (s := takeFrame env s) hfit hlink scale)
  · exact request_marks h 0x08 (refWriteBody_done (s := takeFrame env s) hfit hlink hlow hhigh hlast hvalid)
  · exact request_of_verdict h 0x0A (mapWriteBody_done (s := takeFrame env s) hfit hlength hswap hstop
      (mapFault_none (earlier := []) hallowed hapart))

end
end Sys2Proof.Machine

namespace Sys2Proof.Machine

section
variable {s t : State} {k : Nat}

/-! ### The slots agree with the stage, the engine and L (O6)

A slot's state and frame, L, the engine's work and the stage's phase are all that `slotsSound` speaks of. The
stage's part is said apart: between a slot's entry to COMMAND and the stage's beginning, and at the end of the
stage's work, only the other parts hold. -/

/-- What `slotsSound` says of the slots, the engine and L. -/
structure State.SlotsAgree (s : State) : Prop where
  one : s.oneCommand
  engine : s.engineHasSlot
  newer : s.openNewer

theorem State.slotsSound_iff : s.slotsSound ↔ s.SlotsAgree ∧ s.stageHasSlot :=
  ⟨fun ⟨hone, hstage, hengine, hnewer⟩ => ⟨⟨hone, hengine, hnewer⟩, hstage⟩,
    fun ⟨⟨hone, hengine, hnewer⟩, hstage⟩ => ⟨hone, hstage, hengine, hnewer⟩⟩

theorem State.slotsSound.agree (h : s.slotsSound) : s.SlotsAgree := (State.slotsSound_iff.mp h).1

theorem State.slotsSound.stage (h : s.slotsSound) : s.stageHasSlot := (State.slotsSound_iff.mp h).2

/-- The slots of t are in the states of those of s, with their frames. -/
def State.SameSlots (s t : State) : Prop :=
  ∀ k, (t.slot k).state = (s.slot k).state ∧ (t.slot k).frame = (s.slot k).frame

theorem State.SameSlots.of_eq (h : t.slots = s.slots) : s.SameSlots t := fun k => by
  simp [State.slot, h]

/-- A slot rewritten in its state with its frame. -/
theorem setSlot_sameSlots {r : Slot} (hstate : r.state = (s.slot k).state) (hframe : r.frame = (s.slot k).frame) :
    s.SameSlots (s.setSlot k r) := fun m => by
  rw [State.slot_setSlot]
  split
  · next hm => exact hm ▸ ⟨hstate, hframe⟩
  · exact ⟨rfl, rfl⟩

theorem engineHasSlot_congr (hslots : s.SameSlots t) (hwork : t.engine.work = s.engine.work) (h : s.engineHasSlot) :
    t.engineHasSlot := by
  have hstate := fun k => (hslots k).1
  simpa only [State.engineHasSlot, hwork, hstate] using h

theorem State.SlotsAgree.congr (h : s.SlotsAgree) (hslots : s.SameSlots t) (hlast : t.lastClosed = s.lastClosed)
    (hwork : t.engine.work = s.engine.work) : t.SlotsAgree := by
  obtain ⟨hone, hengine, hnewer⟩ := h
  have hstate := fun k => (hslots k).1
  have hframe := fun k => (hslots k).2
  refine ⟨?_, engineHasSlot_congr hslots hwork hengine, ?_⟩
  · simpa only [State.oneCommand, hstate] using hone
  · simpa only [State.openNewer, hstate, hframe, hlast] using hnewer

theorem stageHasSlot_congr (hslots : s.SameSlots t) (hphase : t.stage.phase = s.stage.phase) (h : s.stageHasSlot) :
    t.stageHasSlot := by
  have hstate := fun k => (hslots k).1
  simpa only [State.stageHasSlot, hphase, hstate] using h

theorem State.slotsSound.congr (h : s.slotsSound) (hslots : s.SameSlots t) (hlast : t.lastClosed = s.lastClosed)
    (hwork : t.engine.work = s.engine.work) (hphase : t.stage.phase = s.stage.phase) : t.slotsSound :=
  State.slotsSound_iff.mpr ⟨h.agree.congr hslots hlast hwork, stageHasSlot_congr hslots hphase h.stage⟩

/-- The premises are those that the `_leaves` lemmas give. -/
theorem State.slotsSound.of_frame (h : s.slotsSound) (hframe : t.slots = s.slots ∧ t.lastClosed = s.lastClosed ∧
    t.engine.work = s.engine.work ∧ t.stage.phase = s.stage.phase) : t.slotsSound :=
  have ⟨hslots, hlast, hwork, hphase⟩ := hframe
  h.congr (.of_eq hslots) hlast hwork hphase

theorem State.slotsSound.modifySlot (h : s.slotsSound) (k : Nat) {f : Slot → Slot}
    (hstate : ∀ r, (f r).state = r.state) (hframe : ∀ r, (f r).frame = r.frame) : (s.modifySlot k f).slotsSound :=
  h.congr (setSlot_sameSlots (hstate _) (hframe _)) rfl rfl rfl

/-! #### A slot becomes FREE (R47) -/

/-- The slots of t are FREE, or in the states of those of s with their frames. -/
def State.FreesSlots (s t : State) : Prop :=
  ∀ k, (t.slot k).state = .free ∨ (t.slot k).state = (s.slot k).state ∧ (t.slot k).frame = (s.slot k).frame

theorem freeSlot_freesSlots (k : Nat) (s : State) : s.FreesSlots (freeSlot k s) := fun m => by
  by_cases hm : k = m
  · exact .inl (hm ▸ freeSlot_slot_self k s)
  · exact .inr (by rw [freeSlot_slot_ne hm]; exact ⟨rfl, rfl⟩)

theorem State.FreesSlots.same (h : s.FreesSlots t) {x : SlotState} (hstate : (t.slot k).state = x)
    (hx : x ≠ .free := by decide) :
    (s.slot k).state = x ∧ (t.slot k).frame = (s.slot k).frame := by
  obtain hfree | ⟨hsame, hframe⟩ := h k
  · exact absurd (hstate.symm.trans hfree) hx
  · exact ⟨hsame.symm.trans hstate, hframe⟩

theorem State.oneCommand.frees (h : s.oneCommand) (hslots : s.FreesSlots t) : t.oneCommand :=
  fun ⟨h0, h1⟩ => h ⟨(hslots.same h0).1, (hslots.same h1).1⟩

theorem State.oneCommand.other (h : s.oneCommand) (hk : k < 2) (hcommand : (s.slot k).state = .command) :
    (s.slot (otherSlot k)).state ≠ .command := fun hother => by
  obtain rfl | rfl : k = 0 ∨ k = 1 := by omega
  · exact h ⟨hcommand, hother⟩
  · exact h ⟨hother, hcommand⟩

theorem State.openNewer.frees (h : s.openNewer) (hslots : s.FreesSlots t) (hlast : t.lastClosed = s.lastClosed) :
    t.openNewer := by
  obtain ⟨hnewer, hdistinct⟩ := h
  refine ⟨fun k hk hopen l hl => ?_, fun ⟨h0, h1, hframe⟩ => hdistinct ?_⟩
  · obtain ⟨hopen', hframe⟩ := hslots.same hopen
    rw [hframe]
    exact hnewer k hk hopen' l (hlast ▸ hl)
  · obtain ⟨h0', hframe0⟩ := hslots.same h0
    obtain ⟨h1', hframe1⟩ := hslots.same h1
    exact ⟨h0', h1', by rw [← hframe0, ← hframe1, hframe]⟩

/-- R47: the engine's work on the slot ends with it, and its work on the other goes on. -/
theorem freeSlot_engineHasSlot (h : s.engineHasSlot) : (freeSlot k s).engineHasSlot := by
  by_cases hfree : (s.slot k).state = .free
  · rwa [freeSlot, if_pos hfree]
  · unfold State.engineHasSlot at h ⊢
    cases hw : s.engine.work with
    | idle => rw [freeSlot_work_idle hw]; trivial
    | segment w =>
      rw [hw] at h
      by_cases hk : w.slot = k
      · rw [freeSlot_work_cut hfree (.inl ⟨w, hw, hk⟩)]; trivial
      · rw [freeSlot_work_other (by simp [hw, hk]) (by simp [hw]), hw]
        simpa only [freeSlot_slot_ne (Ne.symm hk)] using h
    | fill w =>
      rw [hw] at h
      by_cases hk : w.slot = k
      · rw [freeSlot_work_cut hfree (.inr ⟨w, hw, hk⟩)]; trivial
      · rw [freeSlot_work_other (by simp [hw]) (by simp [hw, hk]), hw]
        simpa only [freeSlot_slot_ne (Ne.symm hk)] using h

theorem freeSlot_agree (h : s.SlotsAgree) : (freeSlot k s).SlotsAgree where
  one := h.one.frees (freeSlot_freesSlots k s)
  engine := freeSlot_engineHasSlot h.engine
  newer := h.newer.frees (freeSlot_freesSlots k s) (by simp)

/-- A slot that is not in COMMAND is none that the stage works on. -/
theorem freeSlot_stageHasSlot (h : s.stageHasSlot) (hk : (s.slot k).state ≠ .command) :
    (freeSlot k s).stageHasSlot := by
  have hkeeps : ∀ m, (s.slot m).state = .command → ((freeSlot k s).slot m).state = .command := fun m hm => by
    rwa [freeSlot_slot_ne (by rintro rfl; exact hk hm)]
  unfold State.stageHasSlot at h ⊢
  have hphase : (freeSlot k s).stage = s.stage := by simp
  rw [hphase]
  cases hp : s.stage.phase with
  | idle =>
    rw [hp] at h
    exact fun m hm hcommand => h m hm ((freeSlot_freesSlots k s).same hcommand).1
  | building w | sending w _ =>
    rw [hp] at h
    exact ⟨h.1, hkeeps _ h.2⟩

theorem freeSlot_sound (h : s.slotsSound) (hk : (s.slot k).state ≠ .command) : (freeSlot k s).slotsSound :=
  State.slotsSound_iff.mpr ⟨freeSlot_agree h.agree, freeSlot_stageHasSlot h.stage hk⟩

end
end Sys2Proof.Machine

namespace Sys2Proof.Machine

section
variable {s t : State} {k : Nat}

theorem State.SameSlots.frees (h : s.SameSlots t) : s.FreesSlots t := fun k => .inr (h k)

/-! #### A slot goes on to another state (R34) -/

theorem otherSlot_ne (hk : k < 2) : otherSlot k ≠ k := by
  unfold otherSlot
  omega

theorem eq_otherSlot {m : Nat} (hm : m < 2) (hk : k < 2) (hne : m ≠ k) : m = otherSlot k := by
  unfold otherSlot
  omega

section
variable {r : Slot}

theorem setSlot_slot_ne {m : Nat} (hne : m ≠ k) : (s.setSlot k r).slot m = s.slot m := by
  rw [State.slot_setSlot, if_neg (Ne.symm hne)]

theorem setSlot_slot_self : (s.setSlot k r).slot k = r := by
  rw [State.slot_setSlot, if_pos rfl]

theorem setSlot_oneCommand (hk : k < 2)
    (hr : r.state = .command → (s.slot (otherSlot k)).state ≠ .command) : (s.setSlot k r).oneCommand := by
  rintro ⟨h0, h1⟩
  obtain rfl | rfl : k = 0 ∨ k = 1 := by omega
  · rw [setSlot_slot_self] at h0
    rw [setSlot_slot_ne (by omega)] at h1
    exact hr h0 h1
  · rw [setSlot_slot_ne (by omega)] at h0
    rw [setSlot_slot_self] at h1
    exact hr h1 h0

theorem setSlot_stageHasSlot (h : s.stageHasSlot) (hold : (s.slot k).state ≠ .command) (hr : r.state ≠ .command) :
    (s.setSlot k r).stageHasSlot := by
  have hcommand : ∀ m, ((s.setSlot k r).slot m).state = .command ↔ (s.slot m).state = .command := fun m => by
    by_cases hm : m = k
    · simp [hm, hold, hr]
    · rw [setSlot_slot_ne hm]
  simpa only [State.stageHasSlot, State.setSlot_stage, ne_eq, hcommand] using h

/-- R52: work on an OPEN slot goes on in FILL. -/
theorem setSlot_engineHasSlot (h : s.engineHasSlot)
    (hopened : (s.slot k).state = .opened → r.state = .opened ∨ r.state = .fill)
    (hfill : (s.slot k).state = .fill → r.state = .fill) : (s.setSlot k r).engineHasSlot := by
  unfold State.engineHasSlot at h ⊢
  rw [State.setSlot_engine]
  cases hw : s.engine.work with
  | idle => trivial
  | segment w =>
    rw [hw] at h
    obtain ⟨hlt, hstate⟩ := h
    refine ⟨hlt, ?_⟩
    by_cases hm : w.slot = k
    · rw [hm] at hstate ⊢
      rw [setSlot_slot_self]
      exact hstate.elim hopened fun hf => .inr (hfill hf)
    · rwa [setSlot_slot_ne hm]
  | fill w =>
    rw [hw] at h
    obtain ⟨hlt, hstate⟩ := h
    refine ⟨hlt, ?_⟩
    by_cases hm : w.slot = k
    · rw [hm] at hstate ⊢
      rw [setSlot_slot_self]
      exact hfill hstate
    · rwa [setSlot_slot_ne hm]

/-- R35: slot k may stay OPEN under L. -/
def State.OpenUnder (s : State) (k : Nat) : Prop :=
  (s.slot k).state = .opened → ∀ l, s.lastClosed = some l → newer (s.slot k).frame l = true

theorem openNewer_of_closed (hk : k < 2) (hclosed : (s.slot k).state ≠ .opened) (hother : s.OpenUnder (otherSlot k)) :
    s.openNewer := by
  refine ⟨fun m hm hopen => ?_, fun ⟨h0, h1, _⟩ => hclosed ?_⟩
  · by_cases hmk : m = k
    · exact absurd (hmk ▸ hopen) hclosed
    · rw [eq_otherSlot hm hk hmk] at hopen ⊢
      exact hother hopen
  · obtain rfl | rfl : k = 0 ∨ k = 1 := by omega
    · exact h0
    · exact h1

theorem setSlot_openUnder {m : Nat} (h : s.OpenUnder m) (hne : m ≠ k) : (s.setSlot k r).OpenUnder m := by
  unfold State.OpenUnder at h ⊢
  rwa [setSlot_slot_ne hne]

theorem otherSlot_lt (k : Nat) : otherSlot k < 2 := by
  unfold otherSlot
  omega

/-- R35: two OPEN slots hold different frames. -/
theorem State.openNewer.frame_ne (h : s.openNewer) (hk : k < 2) (hopen : (s.slot k).state = .opened)
    (hother : (s.slot (otherSlot k)).state = .opened) :
    (s.slot (otherSlot k)).frame ≠ (s.slot k).frame := fun hsame => by
  obtain rfl | rfl : k = 0 ∨ k = 1 := by omega
  · exact h.2 ⟨hopen, hother, hsame.symm⟩
  · exact h.2 ⟨hother, hopen, hsame⟩

theorem State.openNewer.under (h : s.openNewer) {m : Nat} (hm : m < 2) : s.OpenUnder m := h.1 m hm

end

/-! #### Closure (R43 to R46) -/

/-- Slot k closes: its frame is L already, and no older frame is OPEN beside it. -/
structure State.Closes (k : Nat) (s : State) : Prop where
  one : s.oneCommand
  stage : s.stageHasSlot
  engine : s.engineHasSlot
  opened : (s.slot k).state = .opened
  other : s.OpenUnder (otherSlot k)

theorem State.Closes.fill (h : s.Closes k) (hk : k < 2) :
    (s.modifySlot k (fun r => { r with state := .fill })).slotsSound := by
  obtain ⟨-, hstage, hengine, hopened, hother⟩ := h
  refine ⟨setSlot_oneCommand hk nofun, setSlot_stageHasSlot hstage (by rw [hopened]; exact nofun) nofun,
    setSlot_engineHasSlot hengine (fun _ => .inr rfl) fun _ => rfl, openNewer_of_closed hk ?_ ?_⟩
  · simp
  · exact setSlot_openUnder hother (otherSlot_ne hk)

theorem State.Closes.free (h : s.Closes k) (hk : k < 2) : (freeSlot k s).slotsSound := by
  obtain ⟨hone, hstage, hengine, hopened, hother⟩ := h
  have hslots := freeSlot_freesSlots k s
  refine ⟨hone.frees hslots, freeSlot_stageHasSlot hstage (by rw [hopened]; exact nofun),
    freeSlot_engineHasSlot hengine, openNewer_of_closed hk ?_ ?_⟩
  · rw [freeSlot_slot_self]
    exact nofun
  · unfold State.OpenUnder at hother ⊢
    rw [freeSlot_slot_ne (otherSlot_ne hk).symm, (freeSlot_leaves k s).2.2.2.2.2.2.1]
    exact hother

theorem decideMissed_sound (h : s.Closes k) (hk : k < 2) : (decideMissed k s).slotsSound := by
  unfold decideMissed
  dsimp only
  split
  · exact (h.free hk).of_frame (by simp)
  · exact (h.fill hk).of_frame (by simp)

/-- R44, R46: the OPEN slot beside slot k is abandoned. -/
theorem abandonSlot_closes (hone : s.oneCommand) (hstage : s.stageHasSlot) (hengine : s.engineHasSlot)
    (hk : k < 2) (hopened : (s.slot k).state = .opened) (hother : (s.slot (otherSlot k)).state = .opened) :
    (abandonSlot (otherSlot k) s).Closes k := by
  have hslots : (freeSlot (otherSlot k) s).SameSlots (abandonSlot (otherSlot k) s) := .of_eq (by simp [abandonSlot])
  have hfrees : s.FreesSlots (abandonSlot (otherSlot k) s) := fun m => by
    rw [(hslots m).1, (hslots m).2]
    exact freeSlot_freesSlots (otherSlot k) s m
  refine ⟨hone.frees hfrees, stageHasSlot_congr hslots (by simp [abandonSlot])
    (freeSlot_stageHasSlot hstage (by rw [hother]; exact nofun)), engineHasSlot_congr hslots (by simp [abandonSlot])
    (freeSlot_engineHasSlot hengine), ?_, fun hopen => ?_⟩
  · rw [abandonSlot_slot_ne (otherSlot_ne hk), hopened]
  · rw [(hslots _).1, freeSlot_slot_self] at hopen
    exact nomatch hopen

/-- R3: a frame that is not older than another is that one, or is newer. -/
theorem newer_of_not_older {f g : Frame} (h : older f g = false) (hne : f ≠ g) : newer f g = true := by
  rw [← Bool.not_eq_true, older_iff] at h
  by_contra hold
  exact h ⟨by simpa using hold, hne⟩

theorem closeSlot_sound {cause : CloseCause} (h : s.slotsSound) (hk : k < 2) : (closeSlot k cause s).slotsSound := by
  unfold closeSlot
  split
  case isFalse => exact h
  next hopen =>
  extract_lets f s1 s2 o s3
  have h1 : s1.slotsSound := h.modifySlot k (fun _ => rfl) fun _ => rfl
  have hopen2 : (s2.slot k).state = .opened := by
    change (s1.slot k).state = .opened
    simp [s1, hopen]
  have hframe2 : (s2.slot k).frame = f := by
    change (s1.slot k).frame = f
    simp [s1, f]
  have hne : otherSlot k ≠ k := otherSlot_ne hk
  refine decideMissed_sound ?_ hk
  simp only [s3]
  split
  · next habandon => exact abandonSlot_closes h1.agree.one h1.stage h1.agree.engine hk hopen2 habandon.1
  · next hstays =>
    refine ⟨h1.agree.one, h1.stage, h1.agree.engine, hopen2, fun hother l hl => ?_⟩
    cases hl
    refine newer_of_not_older (by simpa using fun hold => hstays ⟨hother, hold⟩) ?_
    rw [← hframe2]
    exact h1.agree.newer.frame_ne hk hopen2 hother

theorem decideMissed_state (k : Nat) (s : State) :
    ((decideMissed k s).slot k).state = .free ∨ ((decideMissed k s).slot k).state = .fill := by
  unfold decideMissed
  dsimp only
  split
  · exact .inl (by simpa [State.slot] using freeSlot_slot_self k s)
  · exact .inr (by simp [State.slot, State.modifySlot, State.setSlot])

theorem closeSlot_state {cause : CloseCause} (hopen : (s.slot k).state = .opened) :
    ((closeSlot k cause s).slot k).state = .free ∨ ((closeSlot k cause s).slot k).state = .fill := by
  rw [closeSlot, if_pos hopen]
  exact decideMissed_state ..

/-! #### The fate of a head (R36 to R41) -/

variable {n : Nat} {seg : Segment}

theorem beginSegment_sound (h : s.slotsSound) (hk : k < 2)
    (hstate : (s.slot k).state = .opened ∨ (s.slot k).state = .fill) : (beginSegment k n seg s).slotsSound := by
  have hslots : s.SameSlots (beginSegment k n seg s) := setSlot_sameSlots (s := s) rfl rfl
  refine ⟨?_, ?_, ?_, ?_⟩
  · exact h.agree.one.frees hslots.frees
  · exact stageHasSlot_congr hslots (by simp) h.stage
  · change k < 2 ∧ (((beginSegment k n seg s).slot k).state = .opened ∨
      ((beginSegment k n seg s).slot k).state = .fill)
    rw [(hslots k).1]
    exact ⟨hk, hstate⟩
  · exact h.agree.newer.frees hslots.frees (by simp)

theorem acceptSegment_sound (h : s.slotsSound) (hk : k < 2) (hopen : (s.slot k).state = .opened) :
    (acceptSegment k n seg s).slotsSound := by
  unfold acceptSegment
  extract_lets slot before after s1 s2
  have h1 : s1.slotsSound := h.congr (setSlot_sameSlots rfl rfl) rfl rfl rfl
  have hopen1 : (s1.slot k).state = .opened := by simp [s1, slot, hopen]
  have h2 : s2.slotsSound ∧
      ((s2.slot k).state ≠ .free → (s2.slot k).state = .opened ∨ (s2.slot k).state = .fill) := by
    simp only [s2]
    split
    · exact ⟨closeSlot_sound h1 hk, fun hbusy => .inr ((closeSlot_state hopen1).resolve_left hbusy)⟩
    · exact ⟨h1, fun _ => .inl hopen1⟩
  split
  · exact h2.1
  · next hbusy => exact beginSegment_sound h2.1 hk (h2.2 hbusy)

theorem placeHead_sound (h : s.slotsSound) (hk : k < 2) (hopen : (s.slot k).state = .opened) :
    (placeHead k n seg s).slotsSound := by
  have hpopped : (popHead n s).slotsSound := h.of_frame (by simp)
  unfold placeHead
  dsimp only
  split
  · exact hpopped.of_frame (by simp)
  · exact acceptSegment_sound hpopped hk (by simpa [State.slot] using hopen)

/-- R37: a head that is not late has a frame newer than L. -/
theorem newer_of_not_late {f : Frame} (h : headLate s f = false) (l : Frame) (hl : s.lastClosed = some l) :
    newer f l = true := by
  unfold headLate at h
  rw [Bool.or_eq_false_iff, hl] at h
  simpa using h.1

theorem slotOpenFor_none {f : Frame} (h : slotOpenFor s f = none) {m : Nat} (hm : m < 2)
    (hopen : (s.slot m).state = .opened) : (s.slot m).frame ≠ f := fun hframe => by
  have hnone := List.find?_eq_none.mp h m (by simp; omega)
  simp [hopen, hframe] at hnone

theorem slotOpenFor_opened {f : Frame} (h : slotOpenFor s f = some k) : (s.slot k).state = .opened := by
  have := List.find?_some h
  simp at this
  exact this.1

theorem openSlot_slot_self (f : Frame) :
    ((openSlot k f s).slot k).state = .opened ∧ ((openSlot k f s).slot k).frame = f := by
  simp [openSlot]

/-- R35: a FREE slot opens for a frame newer than L that no OPEN slot holds. -/
theorem setSlot_opened_sound {r : Slot} (h : s.slotsSound) (hk : k < 2) (hfree : (s.slot k).state = .free)
    (hr : r.state = .opened) (hnewer : ∀ l, s.lastClosed = some l → newer r.frame l = true)
    (hfresh : (s.slot (otherSlot k)).state = .opened → (s.slot (otherSlot k)).frame ≠ r.frame) :
    (s.setSlot k r).slotsSound := by
  have hne : otherSlot k ≠ k := otherSlot_ne hk
  refine ⟨setSlot_oneCommand hk (by rw [hr]; exact nofun),
    setSlot_stageHasSlot h.stage (by rw [hfree]; exact nofun) (by rw [hr]; exact nofun),
    setSlot_engineHasSlot h.agree.engine (fun _ => .inl hr) (by rw [hfree]; exact nofun), fun m hm => ?_, ?_⟩
  · by_cases hmk : m = k
    · rw [hmk, setSlot_slot_self]
      exact fun _ => hnewer
    · exact setSlot_openUnder (h.agree.newer.under hm) hmk
  · rintro ⟨h0, h1, hframe⟩
    obtain rfl | rfl : k = 0 ∨ k = 1 := by omega
    · rw [setSlot_slot_self, setSlot_slot_ne (by omega)] at hframe
      rw [setSlot_slot_ne (by omega)] at h1
      exact hfresh h1 hframe.symm
    · rw [setSlot_slot_self, setSlot_slot_ne (by omega)] at hframe
      rw [setSlot_slot_ne (by omega)] at h0
      exact hfresh h0 hframe

/-- R38: a head that is neither late nor of an OPEN slot opens a FREE one. -/
theorem openSlot_sound {f : Frame} (h : s.slotsSound) (hk : k < 2) (hfree : (s.slot k).state = .free)
    (hlate : headLate s f = false) (hfor : slotOpenFor s f = none) : (openSlot k f s).slotsSound := by
  have hslot : ∀ m, (applySwap f s).slot m = s.slot m := fun m => by simp [State.slot]
  have hswap : (applySwap f s).slotsSound := h.of_frame (by simp)
  have hnewer : ∀ l, (applySwap f s).lastClosed = some l → newer f l = true := by
    simpa using newer_of_not_late hlate
  have hfresh := slotOpenFor_none hfor (otherSlot_lt k)
  rw [← hslot] at hfree hfresh
  unfold openSlot
  extract_lets s1 _ slot
  have hopened : (s1.setSlot k slot).slotsSound := setSlot_opened_sound hswap hk hfree rfl hnewer hfresh
  exact hopened.of_frame (by simp)

/-- R40: a head that waits displaces the oldest OPEN slot. -/
theorem waitHead_sound (h : s.slotsSound) : (waitHead n s).slotsSound := by
  have hwaits : (s.modifyReceiver n (fun r => { r with headWaiting := true })).slotsSound := h.of_frame (by simp)
  unfold waitHead
  dsimp only
  split
  · next hk => exact closeSlot_sound hwaits (oldestOpen_lt hk)
  · exact hwaits

theorem decideHead_sound (h : s.slotsSound) : (decideHead n seg s).slotsSound := by
  unfold decideHead
  split
  · exact h.of_frame (by simp)
  split
  · exact h.of_frame (by simp)
  next hlate =>
  split
  · next hk => exact placeHead_sound h (slotOpenFor_lt hk) (slotOpenFor_opened hk)
  next hfor =>
  split
  · next hk =>
    exact placeHead_sound (openSlot_sound h (slotFree_lt hk) (slotFree_free hk) (by simpa using hlate) hfor)
      (slotFree_lt hk) (openSlot_slot_self _).1
  · exact waitHead_sound h

/-! #### The arbiter and the engine (R53 to R65) -/

theorem fillCandidate_fill (hk : fillCandidate s = some k) : k < 2 ∧ (s.slot k).state = .fill := by
  unfold fillCandidate at hk
  dsimp only at hk
  repeat' split at hk
  all_goals simp_all
  all_goals omega

theorem withEngine_sound {e : Engine} (h : s.slotsSound) (he : ({ s with engine := e } : State).engineHasSlot) :
    ({ s with engine := e } : State).slotsSound :=
  ⟨h.agree.one, h.stage, he, h.agree.newer⟩

theorem beginFill_sound (h : s.slotsSound) (hk : fillCandidate s = some k) : (beginFill k s).slotsSound :=
  withEngine_sound h (fillCandidate_fill hk)

theorem offerHead_sound (h : s.slotsSound) : (offerHead n s).slotsSound := by
  unfold offerHead
  dsimp only
  split
  · exact h.of_frame (by simp)
  · exact decideHead_sound (h.of_frame (by simp))

theorem arbitrate_sound {fuel : Nat} (h : s.slotsSound) : (arbitrate fuel s).slotsSound := by
  induction fuel generalizing s with
  | zero => exact h
  | succ more ih =>
    unfold arbitrate
    split
    · split
      · next hk => exact beginFill_sound h hk
      split
      · exact ih (offerHead_sound h)
      · exact h
    · exact h

theorem addColumn_sound {j : Nat} {v : Int} {bad : Bool} (h : s.slotsSound) : (addColumn k j v bad s).slotsSound := by
  unfold addColumn
  split
  · exact h
  split
  · have hdegraded := h.modifySlot k (f := fun r => { r with degraded := true }) (fun _ => rfl) fun _ => rfl
    unfold uncorrectableRead
    exact hdegraded.of_frame (by simp)
  · exact h.modifySlot k (fun _ => rfl) fun _ => rfl

theorem workSlope_sound {slope ref : Int} {scale : Nat} {columns bad : List Nat} (h : s.slotsSound) :
    (workSlope k slope ref scale columns bad s).slotsSound := by
  unfold workSlope
  split
  · have hcounted := h.modifySlot k (f := fun r => { r with invalid := r.invalid + columns.length }) (fun _ => rfl)
      fun _ => rfl
    exact hcounted.of_frame (by simp)
  · exact List.foldlRecOn columns _ (h.modifySlot k (fun _ => rfl) fun _ => rfl) fun u hu j _ =>
      addColumn_sound (s := writeImage _ _ _ _) (hu.of_frame (by simp))

theorem fillColumn_sound {w : FillWork} {j : Nat} {bad : Bool} (h : s.slotsSound) :
    (fillColumn w j bad s).slotsSound := by
  have hcounted := h.modifySlot w.slot (f := fun r => { r with substituted := r.substituted + 1 }) (fun _ => rfl)
    fun _ => rfl
  exact addColumn_sound (s := writeImage _ _ _ _) (hcounted.of_frame (by simp))

/-- R63, R65: the engine's pass ends, and its slot is READY. -/
theorem finishPass_sound {w : FillWork} (h : s.slotsSound) (hw : s.engine.work = .fill w) :
    (finishPass w.slot s).slotsSound := by
  have hengine := h.agree.engine
  unfold State.engineHasSlot at hengine
  rw [hw] at hengine
  obtain ⟨hk, hfill⟩ := hengine
  unfold finishPass
  extract_lets slot rs s1
  have hone : s1.oneCommand := setSlot_oneCommand hk (by exact nofun)
  have hstage : s1.stageHasSlot := setSlot_stageHasSlot h.stage (by rw [hfill]; exact nofun) (by exact nofun)
  have hother : s1.OpenUnder (otherSlot w.slot) :=
    setSlot_openUnder (h.agree.newer.under (otherSlot_lt _)) (otherSlot_ne hk)
  exact ⟨hone, hstage, trivial, openNewer_of_closed hk (by simp [State.slot, s1, State.setSlot]) hother⟩

/-! #### The command stage (R48, R110 to R125) -/

/-- The stage's work on the slot in COMMAND ends. -/
theorem endStage_sound (h : s.SlotsAgree) (hk : k < 2) (hcommand : (s.slot k).state = .command) :
    (endStage k s).slotsSound := by
  unfold endStage
  extract_lets s1
  have hslots : s.SameSlots { s1 with stage := { s1.stage with phase := .idle } } := .of_eq (by simp [s1])
  have hagree : State.SlotsAgree { s1 with stage := { s1.stage with phase := .idle } } :=
    h.congr hslots (by simp [s1]) (by simp [s1])
  have hidle : (freeSlot k { s1 with stage := { s1.stage with phase := .idle } }).stage.phase = .idle := by simp
  refine State.slotsSound_iff.mpr ⟨freeSlot_agree hagree, ?_⟩
  unfold State.stageHasSlot
  rw [hidle]
  intro m hm
  by_cases hmk : m = k
  · rw [hmk, freeSlot_slot_self]
    exact nofun
  · rw [freeSlot_slot_ne (Ne.symm hmk), (hslots m).1]
    intro hboth
    rw [eq_otherSlot hm hk hmk] at hboth
    exact h.one.other hk hcommand hboth

theorem holdPath_sound (h : s.SlotsAgree) (hk : k < 2) (hcommand : (s.slot k).state = .command) :
    (holdPath k s).slotsSound :=
  endStage_sound (h.congr (.of_eq (by simp)) (by simp) (by simp)) hk (by simpa [State.slot] using hcommand)

theorem beginBuilding_sound (h : s.SlotsAgree) (hk : k < 2) (hcommand : (s.slot k).state = .command) :
    (beginBuilding k s).slotsSound :=
  State.slotsSound_iff.mpr ⟨h.congr (.of_eq rfl) rfl rfl, hk, hcommand⟩

theorem readyCandidate_lt (hk : readyCandidate s = some k) : k < 2 := by
  unfold readyCandidate at hk
  dsimp only at hk
  repeat' split at hk
  all_goals simp_all
  all_goals omega

theorem readyCandidate_alone (hk : readyCandidate s = some k) {m : Nat} (hm : m < 2) :
    (s.slot m).state ≠ .command := by
  unfold readyCandidate at hk
  dsimp only at hk
  split at hk
  · cases hk
  · next hnone =>
    obtain rfl | rfl : m = 0 ∨ m = 1 := by omega
    · exact fun hcommand => hnone (.inl hcommand)
    · exact fun hcommand => hnone (.inr hcommand)

theorem enterCommand_sound (h : s.slotsSound) (hk : readyCandidate s = some k) : (enterCommand k s).slotsSound := by
  have hlt := readyCandidate_lt hk
  have hready := readyCandidate_ready hk
  unfold enterCommand
  extract_lets s1 s2
  have h1 : s1.SlotsAgree :=
    ⟨setSlot_oneCommand hlt fun _ => readyCandidate_alone hk (otherSlot_lt k),
      setSlot_engineHasSlot h.agree.engine (by rw [hready]; exact nofun) (by rw [hready]; exact nofun),
      openNewer_of_closed hlt (by simp [s1])
        (setSlot_openUnder (h.agree.newer.under (otherSlot_lt k)) (otherSlot_ne hlt))⟩
  have h2 : s2.SlotsAgree := h1.congr (.of_eq (by simp [s2])) (by simp [s2]) (by simp [s2])
  have hcommand : (s2.slot k).state = .command := by
    have hslots : s2.slots = s1.slots := by simp [s2]
    rw [State.slot, hslots, ← State.slot]
    simp [s1]
  split
  · exact holdPath_sound h2 hlt hcommand
  · exact beginBuilding_sound h2 hlt hcommand

theorem enterCommands_sound {fuel : Nat} (h : s.slotsSound) : (enterCommands fuel s).slotsSound := by
  induction fuel generalizing s with
  | zero => exact h
  | succ more ih =>
    unfold enterCommands
    split
    · split
      · next hk => exact ih (enterCommand_sound h hk)
      · exact h
    · exact h

theorem settle_sound (h : s.slotsSound) : (settle s).slotsSound := arbitrate_sound (enterCommands_sound h)

theorem State.stageHasSlot.building (h : s.stageHasSlot) {w : StageFrame} (hw : s.stage.phase = .building w) :
    w.slot < 2 ∧ (s.slot w.slot).state = .command := by
  unfold State.stageHasSlot at h
  rwa [hw] at h

theorem State.stageHasSlot.sending (h : s.stageHasSlot) {w : StageFrame} {shape : Shape}
    (hw : s.stage.phase = .sending w shape) : w.slot < 2 ∧ (s.slot w.slot).state = .command := by
  unfold State.stageHasSlot at h
  rwa [hw] at h

/-- What leaves the slots, L and the engine leaves the stage's work to end. -/
theorem endStage_sound_of_frame (h : s.slotsSound) (hcommand : k < 2 ∧ (s.slot k).state = .command)
    (hframe : t.slots = s.slots ∧ t.lastClosed = s.lastClosed ∧ t.engine.work = s.engine.work) :
    (endStage k t).slotsSound := by
  obtain ⟨hslots, hlast, hwork⟩ := hframe
  refine endStage_sound (h.agree.congr (.of_eq hslots) hlast hwork) hcommand.1 ?_
  rw [State.slot, hslots, ← State.slot]
  exact hcommand.2

theorem strokeDrop_sound {w : StageFrame} {shape : Shape} (h : s.slotsSound) (hw : s.stage.phase = .building w) :
    (strokeDrop w shape s).slotsSound :=
  endStage_sound_of_frame h (h.stage.building hw) (by simp)

theorem handOver_sound {w : StageFrame} {shape : Shape} (h : s.slotsSound) (hw : s.stage.phase = .building w) :
    (handOver w shape s).slotsSound := by
  have hslots : s.SameSlots (handOver w shape s) := .of_eq (by simp)
  refine State.slotsSound_iff.mpr ⟨h.agree.congr hslots (by simp) (by simp), ?_⟩
  obtain ⟨hlt, hcommand⟩ := h.stage.building hw
  exact ⟨hlt, (hslots w.slot).1.trans hcommand⟩

theorem checkShape_sound {w : StageFrame} (h : s.slotsSound) (hw : s.stage.phase = .building w) :
    (checkShape w s).slotsSound := by
  unfold checkShape
  dsimp only
  split
  · exact handOver_sound h hw
  · exact settle_sound (strokeDrop_sound h hw)

theorem commitFrame_sound {bad : List Nat} (h : s.slotsSound) : (commitFrame bad s).slotsSound := by
  unfold commitFrame
  split
  · next hw => exact endStage_sound_of_frame h (h.stage.sending hw) (by simp)
  · exact h

theorem driveDrop_sound {reason : DropReason} (h : s.slotsSound) : (driveDrop reason s).slotsSound := by
  unfold driveDrop
  split
  · next hw =>
    dsimp only
    split
    · exact endStage_sound_of_frame h (h.stage.sending hw) (by simp)
    · exact endStage_sound_of_frame h (h.stage.sending hw) (by simp)
  · exact h

/-! #### Transactions, and the entry to STOPPED and SAFE (R131 to R141, R154 to R156) -/

theorem dropTransaction_sound {reason : DropReason} (h : s.slotsSound) : (dropTransaction reason s).slotsSound := by
  unfold dropTransaction
  split
  · exact h
  next tx _ =>
  have hreleased : (releaseTransaction tx s).slotsSound := h.of_frame (by simp)
  split
  · exact h
  dsimp only
  split
  · exact (driveDrop_sound (reason := reason) hreleased).of_frame (by simp)
  · exact hreleased.of_frame (by simp)

theorem updatePulse_sound {tx : Transaction} {bad : List Nat} (h : s.slotsSound) :
    (updatePulse tx bad s).slotsSound := by
  unfold updatePulse
  extract_lets _ s1 s2 s3
  have h2 : s2.slotsSound := h.of_frame (by simp [s2, s1])
  have h3 : s3.slotsSound := by
    simp only [s3]
    split
    · exact commitFrame_sound h2
    · exact h2.of_frame (by simp)
  exact h3

theorem pulseIfLoaded_sound {bad : List Nat} (h : s.slotsSound) : (pulseIfLoaded bad s).slotsSound := by
  unfold pulseIfLoaded
  split
  · exact h
  split
  · exact updatePulse_sound h
  · exact h

/-- With both slots FREE and the engine and the stage IDLE all agree. -/
theorem slotsSound_of_rest (hfree : ∀ k, k < 2 → (s.slot k).state = .free) (hwork : s.engine.work = .idle)
    (hphase : s.stage.phase = .idle) : s.slotsSound := by
  have hcommand : ∀ k, k < 2 → (s.slot k).state ≠ .command := fun k hk => by
    rw [hfree k hk]
    exact nofun
  have hopened : ∀ k, k < 2 → (s.slot k).state ≠ .opened := fun k hk => by
    rw [hfree k hk]
    exact nofun
  refine ⟨fun ⟨h0, _⟩ => hcommand 0 (by omega) h0, ?_, ?_, fun k hk hopen => absurd hopen (hopened k hk),
    fun ⟨h0, _⟩ => hopened 0 (by omega) h0⟩
  · unfold State.stageHasSlot
    rw [hphase]
    exact hcommand
  · unfold State.engineHasSlot
    rw [hwork]
    trivial

theorem enterRest_sound {entered : LoopState} {cause : LoopCause} {frame : Option Frame} {scanCause : EndCause}
    (h : s.slotsSound) : (enterRest entered cause frame scanCause s).slotsSound :=
  slotsSound_of_rest (fun _ => enterRest_slot_free) (enterRest_work h.agree.engine) enterRest_phase

theorem enterSafe_sound {cause : LoopCause} {f : Option Frame} (h : s.slotsSound) :
    (enterSafe cause f s).slotsSound := by
  have hrest : (enterRest .safe cause f .safe s).slotsSound := enterRest_sound h
  unfold enterSafe
  dsimp only
  split
  · exact h
  split
  · exact hrest.of_frame (by simp)
  · exact hrest.of_frame (by simp)

theorem dropAndSafe_sound {order : SafeOrder} {reason : DropReason} {cause : LoopCause} {f : Option Frame}
    {between : State → State} (h : s.slotsSound) (hb : ∀ u : State, u.slotsSound → (between u).slotsSound) :
    (dropAndSafe order reason cause f between s).slotsSound := by
  cases order with
  | dropFirst => exact enterSafe_sound (hb _ (settle_sound (dropTransaction_sound h)))
  | safeFirst => exact dropTransaction_sound (enterSafe_sound (hb _ h))

/-! #### The resets (R51, R67, R128, R200, R201) -/

theorem softReset_sound (s : State) : (softReset s).slotsSound := by
  refine slotsSound_of_rest (fun k _ => ?_) (by rw [softReset_engine]; rfl) (by rw [softReset_stage]; rfl)
  rw [State.slot, softReset_slots]
  rfl

end
end Sys2Proof.Machine

namespace Sys2Proof.Machine

section
variable {s : State}

/-! #### The events of the links -/

theorem onReceiver_sound {n : Nat} {f : State → State} (h : s.slotsSound) (hf : (f s).slotsSound) :
    (onReceiver n f s).slotsSound := by
  unfold onReceiver
  split
  · exact hf
  · exact h

theorem onDriveLink_sound {l : Nat} {f : State → State} (h : s.slotsSound) (hf : (f s).slotsSound) :
    (onDriveLink l f s).slotsSound := by
  unfold onDriveLink
  split
  · exact hf
  · exact h

theorem arrive_sound {n : Nat} {bytes : List Byte} (h : s.slotsSound) : (arrive n bytes s).slotsSound := by
  have hcounted : ∀ f g, ((s.modifyReceiver n f).modifyReceiver n g).slotsSound := fun f g => h.of_frame (by simp)
  unfold arrive
  split
  · dsimp only
    split
    · exact hcounted _ _
    · exact hcounted _ _
    · exact hcounted _ _
    · exact settle_sound (hcounted _ _)
  · exact h

/-- R56: a slope is worked, and the item goes on or ends. -/
theorem workNextSlope_sound {w : SegmentWork} {slope : Int} {rest : List Int} {bad : List Nat} (h : s.slotsSound)
    (hw : s.engine.work = .segment w) : (workNextSlope w slope rest bad s).slotsSound := by
  unfold workNextSlope
  extract_lets number s1 s2
  have h1 : s1.slotsSound := workSlope_sound h
  have hwork1 : s1.engine.work = .segment w := by simp [s1, hw]
  have hengine1 := h1.agree.engine
  have h2 : s2.slotsSound := by
    unfold State.engineHasSlot at hengine1
    rw [hwork1] at hengine1
    simp only [s2, segmentStep]
    split
    · exact withEngine_sound h1 trivial
    · exact withEngine_sound h1 hengine1
  split
  · exact settle_sound h2
  · exact h2

/-- R62: a column is filled in, and the pass goes on. -/
theorem fillStep_sound {w v : FillWork} {j : Nat} {bad : Bool} (h : s.slotsSound) (hw : s.engine.work = .fill w)
    (hslot : v.slot = w.slot := by rfl) :
    State.slotsSound { fillColumn w j bad s with
      engine := { (fillColumn w j bad s).engine with work := .fill v } } := by
  have hfilled : (fillColumn w j bad s).slotsSound := fillColumn_sound h
  have hengine := hfilled.agree.engine
  unfold State.engineHasSlot at hengine
  rw [show (fillColumn w j bad s).engine.work = .fill w by simpa using hw] at hengine
  refine withEngine_sound hfilled ?_
  change v.slot < 2 ∧ ((fillColumn w j bad s).slot v.slot).state = .fill
  rwa [hslot]

theorem stickLink_sound {l : Nat} {order : SafeOrder} {between : State → State} (h : s.slotsSound)
    (hb : ∀ u : State, u.slotsSound → (between u).slotsSound) : (stickLink l order between s).slotsSound := by
  unfold stickLink
  split
  · exact dropAndSafe_sound (h.of_frame (by simp)) hb
  · exact h

theorem takeTaken_sound {l : Nat} {number : Byte} {bad : List Nat} (h : s.slotsSound) :
    (takeTaken l number bad s).slotsSound := by
  unfold takeTaken
  extract_lets r late s1
  have h1 : s1.slotsSound := h.of_frame ⟨rfl, rfl, rfl, rfl⟩
  split
  · refine settle_sound ?_
    split
    · exact h1.of_frame (by simp)
    · exact pulseIfLoaded_sound h1
  · exact h.of_frame (by simp)

theorem takeRefused_sound {l : Nat} {number : Byte} {reason : RefuseReason} {order : SafeOrder}
    {between : State → State} (h : s.slotsSound) (hb : ∀ u : State, u.slotsSound → (between u).slotsSound) :
    (takeRefused l number reason order between s).slotsSound := by
  unfold takeRefused
  extract_lets r s1
  have h1 : s1.slotsSound := h.of_frame ⟨rfl, rfl, rfl, rfl⟩
  have hended : (checkEnd s1).slotsSound := h1.of_frame (by simp)
  split
  · split
    · cases reason with
      | crc | length => exact hended
      | channelFault => exact enterSafe_sound (hb _ hended)
    · cases reason with
      | crc | length => exact settle_sound (dropTransaction_sound h1)
      | channelFault => exact dropAndSafe_sound h1 hb
  · exact h.of_frame (by simp)

theorem expireReply_sound {l : Nat} (h : s.slotsSound) : (expireReply l s).slotsSound := by
  unfold expireReply
  dsimp only
  split
  · split
    · exact h.of_frame (by simp)
    · exact settle_sound (dropTransaction_sound (h.of_frame (by simp)))
  · exact h

theorem takeFault_sound {l : Nat} {order : SafeOrder} {between : State → State} (h : s.slotsSound)
    (hb : ∀ u : State, u.slotsSound → (between u).slotsSound) : (takeFault l order between s).slotsSound := by
  have hfault : (faultLink l s).slotsSound := h.of_frame (by simp)
  have hleft : (leaveTransaction l (faultLink l s)).slotsSound := hfault.of_frame (by simp)
  have hsafe : ∀ {u : State} {cause f}, u.slotsSound → (enterSafe cause f (between u)).slotsSound := fun hu =>
    enterSafe_sound (hb _ hu)
  unfold takeFault afterFault
  dsimp only
  split
  · exact hsafe hfault
  split
  · exact hsafe (hfault.of_frame (by simp))
  split
  · exact hsafe (hleft.of_frame (by simp))
  split
  · exact hsafe hleft
  · exact dropAndSafe_sound hleft hb

/-! #### Requests -/

theorem conclude_sound {env : Envelope} {code : Nat} {v : Verdict} (h : v.after.slotsSound) :
    (conclude env code v).slotsSound := by
  have hreply : ∀ {u : State} {status clamped payload}, u.slotsSound →
      (replyWith env status clamped payload u).slotsSound := fun hu => hu.of_frame (by simp)
  cases v with
  | ok payload clamped t => exact hreply h
  | accepted t => exact hreply h
  | refused status position detail value owner t =>
    have hrefused : ∀ {u : State}, u.slotsSound → (reportRefusal env code status u).slotsSound :=
      fun hu => hu.of_frame (by simp)
    have hentered : (enterFault env code status position detail value owner t).slotsSound :=
      State.slotsSound.of_frame (s := t) h (by simp)
    exact hreply (hrefused hentered)

theorem takeFrame_sound {env : Envelope} (h : s.slotsSound) : (takeFrame env s).slotsSound := h.of_frame (by simp)

theorem takeRequest_sound {env : Envelope} {code : Nat} {body : State → Verdict} (h : s.slotsSound)
    (hbody : ∀ u : State, u.slotsSound → (body u).after.slotsSound) : (takeRequest env code body s).slotsSound := by
  have htaken : (takeFrame env s).slotsSound := takeFrame_sound h
  unfold takeRequest
  split
  · exact h.of_frame (by simp)
  split
  · exact h
  refine conclude_sound ?_
  unfold verdictOf
  split
  · exact htaken
  · exact hbody _ htaken

/-- A payload that does not match its fields changes nothing (R205). -/
theorem whenFits_sound {env : Envelope} {body : Verdict} (h : s.slotsSound) (hbody : body.after.slotsSound) :
    (whenFits env s body).after.slotsSound := by
  unfold whenFits
  split
  · exact hbody
  · exact h

@[simp] theorem refuseDetail_after (status : Status) (position : Nat) (detail : Detail) (value : Option Int)
    (t : State) : (refuseDetail status position detail value t).after = t := rfl

@[simp] theorem Verdict.refused_after (status : Status) (position : Nat) (detail : Detail) (value : Option Int)
    (owner : Option Nat) (t : State) : (Verdict.refused status position detail value owner t).after = t := rfl

@[simp] theorem Verdict.accepted_after (t : State) : (Verdict.accepted t).after = t := rfl

/-- R27: the changed marks. -/
theorem markChanged_sound {n : Nat} (h : s.slotsSound) : (markChanged n s).slotsSound := by
  have hmark : ∀ {u : State} k, u.slotsSound → (markSlot n k u).slotsSound := fun k hu => by
    unfold markSlot
    split
    · exact hu.modifySlot k (fun _ => rfl) fun _ => rfl
    · exact hu
  exact hmark 1 (hmark 0 h)

theorem sensorScaleBody_sound {env : Envelope} {n scale : Nat} (h : s.slotsSound) :
    (sensorScaleBody env n scale s).after.slotsSound := by
  refine whenFits_sound h ?_
  split
  · exact h
  · exact markChanged_sound (s := s.setSensor _ _) (h.of_frame (by simp))

theorem refWriteBody_sound {env : Envelope} {n first count : Nat} {offsets : List Int} (h : s.slotsSound) :
    (refWriteBody env n first count offsets s).after.slotsSound := by
  unfold refWriteBody
  iterate 5
    split
    · exact h
  · exact markChanged_sound (s := s.setSensor _ _) (h.of_frame (by simp))

theorem takeEdit_sound {e : Edit} (h : s.slotsSound) : (takeEdit e s).after.slotsSound := by
  unfold takeEdit
  split
  · split
    · exact h
    · exact h.of_frame (by simp)
  · exact h.of_frame (by simp)

/-- An outcome whose next state has sound slots. -/
def leadsSound (o : Host.Outcome State Fault Refusal) : Prop := ∀ t, o = .next t → t.slotsSound

theorem next_leadsSound (h : s.slotsSound) : leadsSound (.next s) := by
  rintro t ⟨⟩
  exact h

theorem awake_leadsSound {f : State → State} (h : s.slotsSound) (hf : (f s).slotsSound) : leadsSound (awake s f) := by
  refine next_leadsSound ?_
  split
  · exact h
  · exact hf

theorem request_leadsSound {env : Envelope} {code : Nat} {body : State → Verdict} (h : s.slotsSound)
    (hbody : ∀ u : State, u.slotsSound → (body u).after.slotsSound) : leadsSound (request env code body s) :=
  awake_leadsSound h (takeRequest_sound h hbody)

theorem done_sound {t : State} (h : t.slotsSound) : (Verdict.done t).after.slotsSound := h

theorem loadOpenTest_sound {b rows columns shift block master : Nat} (h : s.slotsSound) :
    (loadOpenTest b rows columns shift block master s).after.slotsSound := by
  unfold loadOpenTest
  repeat' split
  all_goals exact h.of_frame (by simp)

theorem whenLoading_sound {env : Envelope} {act : Nat → Nat → Verdict} (h : s.slotsSound)
    (hact : ∀ b owner, (act b owner).after.slotsSound) : (whenLoading env s act).after.slotsSound := by
  unfold whenLoading
  split
  · exact h
  · split
    · exact hact _ _
    · exact h
  · split
    · exact h
    · exact h

theorem openNow_sound (h : s.slotsSound) : (openNow s).after.slotsSound := by
  unfold openNow openFromStopped leaveHold
  repeat' split
  all_goals exact h.of_frame (by simp)

theorem closeNow_sound (h : s.slotsSound) : (closeNow s).after.slotsSound := by
  unfold closeNow leaveHold
  repeat' split
  all_goals exact h.of_frame (by simp)

theorem schedule_sound {env : Envelope} {target : Target} {f : Frame} (h : s.slotsSound) :
    (schedule env target f s).after.slotsSound := by
  unfold schedule
  repeat' split
  all_goals exact h.of_frame (by simp)

theorem resetSoftBody_sound {env : Envelope} (h : s.slotsSound) : (resetSoftBody env s).after.slotsSound := by
  refine whenFits_sound h ?_
  split
  · exact done_sound (softReset_sound _)
  · exact done_sound (h.of_frame (by simp))

theorem blockReopenBody_sound {env : Envelope} {bank block : Nat} (h : s.slotsSound) :
    (blockReopenBody env bank block s).after.slotsSound := by
  refine whenFits_sound h ?_
  split
  · exact h
  dsimp only
  repeat' split
  all_goals exact h.of_frame (by simp)

theorem actModeBody_sound {env : Envelope} {a mode : Nat} {value : Option Nat} (h : s.slotsSound) :
    (actModeBody env a mode value s).after.slotsSound := by
  refine whenFits_sound h ?_
  split
  · exact h
  split
  · exact h
  · exact h
  · dsimp only
    split
    · exact h
    · exact takeEdit_sound h
  · exact h
  · exact takeEdit_sound h

theorem pairWriteBody_sound {env : Envelope} {a b dmax : Nat} (h : s.slotsSound) :
    (pairWriteBody env a b dmax s).after.slotsSound := by
  refine whenFits_sound h ?_
  dsimp only
  iterate 8
    split
    · exact h
  · exact takeEdit_sound h

/-- Every request keeps the slots sound; an event is no request. Most requests change neither a slot nor L, the
engine or the stage. -/
theorem runRequest_leadsSound {i : Instr} (h : s.slotsSound) : leadsSound (runRequest i s) := by
  cases i
  case sensorScale => exact request_leadsSound h fun _ hu => sensorScaleBody_sound hu
  case refWrite => exact request_leadsSound h fun _ hu => refWriteBody_sound hu
  case loopStop =>
    refine request_leadsSound h fun _ hu => whenFits_sound hu ?_
    split
    · exact hu
    · exact done_sound (enterRest_sound hu)
  case loopSafe => exact request_leadsSound h fun _ hu => whenFits_sound hu (done_sound (enterSafe_sound hu))
  case resetSoft => exact request_leadsSound h fun _ hu => resetSoftBody_sound hu
  case loopOpen atFrame =>
    refine request_leadsSound h fun _ hu => whenFits_sound hu ?_
    cases atFrame with
    | none => exact openNow_sound hu
    | some f => exact schedule_sound hu
  case loopClose atFrame =>
    refine request_leadsSound h fun _ hu => whenFits_sound hu ?_
    cases atFrame with
    | none => exact closeNow_sound hu
    | some f => exact schedule_sound hu
  case loadSegment =>
    refine request_leadsSound h fun _ hu => whenFits_sound hu ?_
    iterate 2
      split
      · exact hu
    refine whenLoading_sound hu fun _ _ => ?_
    repeat' split
    all_goals exact hu.of_frame (by simp)
  case loadFlush =>
    refine request_leadsSound h fun _ hu => whenFits_sound hu (whenLoading_sound hu fun _ _ => ?_)
    exact hu.of_frame (by simp)
  case loadClose =>
    refine request_leadsSound h fun _ hu => whenFits_sound hu (whenLoading_sound hu fun _ _ => ?_)
    dsimp only
    split
    all_goals exact hu.of_frame (by simp)
  case loadOpen =>
    refine request_leadsSound h fun _ hu => whenFits_sound hu ?_
    iterate 8
      split
      · exact hu
    · exact loadOpenTest_sound hu
  case blockReopen => exact request_leadsSound h fun _ hu => blockReopenBody_sound hu
  case actMode => exact request_leadsSound h fun _ hu => actModeBody_sound hu
  case pairWrite => exact request_leadsSound h fun _ hu => pairWriteBody_sound hu
  case actWrite =>
    refine request_leadsSound h fun _ hu => whenFits_sound hu ?_
    iterate 4
      split
      · exact hu
    · exact takeEdit_sound hu
  case pairRemove =>
    refine request_leadsSound h fun _ hu => whenFits_sound hu ?_
    iterate 3
      split
      · exact hu
    · exact takeEdit_sound hu
  case mapRead | slotStatus | engineStatus | gainRead | stageStatus | loopStatus | scanStatus | telemStatus |
      ident | portStatus | faultDetail | attnRead =>
    exact request_leadsSound h fun _ hu => whenFits_sound hu hu
  case swapCancel | scanStop | telemReset | loopConfig =>
    exact request_leadsSound h fun _ hu => whenFits_sound hu (hu.of_frame (by simp))
  case linkCountersClear | mapWrite | loadAbort | bankClear | swap | actCount | flatten | scanStart | telemPop |
      linkStatus | sensorRole | sensorTag | sensorCount | sensorRead | refRead | storeRead | loadStatus | actRead |
      gainWrite | pairRead | linkReset | linkConfig | telemSelect | captureRead | featureSet | featureGet |
      attnMask | attnAck =>
    refine request_leadsSound h fun _ hu => whenFits_sound hu ?_
    repeat' split
    all_goals exact hu.of_frame (by simp)
  all_goals exact next_leadsSound h

/-! #### Complete frames (R186 to R188) -/

theorem requestFrame_leadsSound {bytes : List Byte} {uncorrectable : List Nat} (h : s.slotsSound) :
    leadsSound (execRequestFrameComplete bytes uncorrectable s) := by
  have hport : ∀ p, State.slotsSound { s with port := p } := fun p => h.of_frame (by simp)
  have hbegun := hport { s.port with reception := none }
  unfold execRequestFrameComplete
  split
  · exact next_leadsSound h
  unfold checkFrame
  dsimp only
  split
  · exact next_leadsSound (hport _)
  split
  · exact next_leadsSound (hport _)
  unfold checkSound
  split
  · exact next_leadsSound (hport _)
  split
  · unfold takeSound
    split
    · exact runRequest_leadsSound hbegun
    · exact next_leadsSound (conclude_sound (takeFrame_sound hbegun))
  · exact next_leadsSound hbegun

/-- R154: what a frame does between the act of a link and the entry to SAFE. -/
theorem takeBetween_sound (between : Option BusFrame) (u : State) (h : u.slotsSound) :
    (takeBetween between u).slotsSound := by
  cases between with
  | none => exact h
  | some f =>
    rcases takeBetween_frame f u with hnext | hsame
    · exact requestFrame_leadsSound h _ hnext
    · rw [hsame]
      exact h

/-! #### Every command -/

theorem exec_leadsSound {i : Instr} (h : s.slotsSound) : leadsSound (exec i s) := by
  have hrequest : leadsSound (runRequest i s) := runRequest_leadsSound h
  cases i
  case lockAchieved | lossOfLock | startDelimiter | idleFillCut | excessByte =>
    exact awake_leadsSound h (onReceiver_sound h (h.of_frame (by simp)))
  case silenceTimerExpiry =>
    refine awake_leadsSound h (onReceiver_sound h ?_)
    split
    · exact h.of_frame (by simp)
    · exact h
  case segmentArrival => exact awake_leadsSound h (onReceiver_sound h (arrive_sound h))
  case slopeWork =>
    unfold exec execSlopeWork
    refine awake_leadsSound h ?_
    split
    · next hw =>
      split
      · exact h
      · exact workNextSlope_sound h hw
    · exact h
  case deadlineExpiry =>
    refine awake_leadsSound h ?_
    split
    · next hopen => exact settle_sound (closeSlot_sound h hopen.1)
    · exact h
  case fillInColumn =>
    unfold exec execFillInColumn
    refine awake_leadsSound h ?_
    split
    · next w hw =>
      split
      · next e _ => exact fillStep_sound h hw
      · exact h
    · exact h
  case residualsDone =>
    unfold exec execResidualsDone
    refine awake_leadsSound h ?_
    split
    · next hw =>
      split
      · exact h
      · exact settle_sound (finishPass_sound h hw)
    · exact h
  case shapeChecked =>
    unfold exec execShapeChecked
    refine awake_leadsSound h ?_
    split
    · next hw => exact checkShape_sound h hw
    · exact h
  case transactionBegin =>
    unfold exec execTransactionBegin
    refine awake_leadsSound h ?_
    repeat' split
    all_goals exact h.of_frame (by simp)
  case recoveryLineIdle | appliedReply | applyTimerExpiry =>
    exact awake_leadsSound h (onDriveLink_sound h (h.of_frame (by simp)))
  case recoveryWindowExpiry =>
    exact awake_leadsSound h (onDriveLink_sound h (stickLink_sound h (takeBetween_sound _)))
  case takenReply => exact awake_leadsSound h (onDriveLink_sound h (takeTaken_sound h))
  case refusedReply =>
    exact awake_leadsSound h (onDriveLink_sound h (takeRefused_sound h (takeBetween_sound _)))
  case replyTimerExpiry => exact awake_leadsSound h (onDriveLink_sound h (expireReply_sound h))
  case returnFrameDiscard =>
    refine awake_leadsSound h (onDriveLink_sound h ?_)
    split
    · exact h.of_frame (by simp)
    · exact h
  case faultReport =>
    exact awake_leadsSound h (onDriveLink_sound h (takeFault_sound h (takeBetween_sound _)))
  case verifyColumnRead =>
    unfold exec execVerifyColumnRead
    refine awake_leadsSound h ?_
    split
    · exact h.of_frame (by simp)
    · exact h
  case busSilenceGap =>
    unfold exec execBusSilenceGap
    exact awake_leadsSound h (h.of_frame (by simp))
  case overlengthHeader =>
    unfold exec execOverlengthHeader
    exact awake_leadsSound h (h.of_frame (by simp))
  case requestFrameComplete => exact requestFrame_leadsSound h
  case replySent =>
    refine awake_leadsSound h ?_
    unfold replyDone
    split
    · split
      · exact softReset_sound _
      · exact h.of_frame (by simp)
    · exact h
  case replyLost => exact awake_leadsSound h (h.of_frame (by simp))
  case replyWouldHaveEnded =>
    refine awake_leadsSound h ?_
    unfold replyEnded
    split
    · exact softReset_sound _
    · exact h
  case hardReset => exact next_leadsSound (slotsSound_of_rest (fun _ _ => rfl) rfl rfl)
  case resetRelease =>
    refine next_leadsSound ?_
    unfold releaseReset
    split
    · exact h.of_frame (by simp)
    · exact h
  all_goals exact hrequest

/-- Settles O6: every operation of the assembler, the engine, the stage and the entries to rest keeps the slots in
agreement, and the other commands do not touch them. -/
theorem slotsStaySound : Obligations.SlotsStaySound := by
  intro s t h hstep
  rcases step_cases hstep with rfl | ⟨c, rest, hexec⟩
  · exact h
  · exact exec_leadsSound (s := { s with pending := rest }) h t hexec

end
end Sys2Proof.Machine

namespace Sys2Proof.Machine

section
variable (v : Variant) (straps : Nat)

/-! ### The state after reset (O4) -/

theorem resetOf_bounded : (State.resetOf v straps).bounded :=
  ⟨Nat.zero_le _, fun _ => Nat.zero_le _, Nat.zero_le _, rfl, rfl⟩

theorem resetOf_slotsSound : (State.resetOf v straps).slotsSound := slotsSound_of_rest (fun _ _ => rfl) rfl rfl

/-- R93, R201: the blocks of the part's banks, slots and loop are those of the hard reset. -/
theorem resetOf_banksSound : (State.resetOf v straps).banksSound :=
  (State.banksSound_iff _).mpr ((hardReset_banksAgree (State.resetOf v straps)).of_queues rfl rfl rfl rfl rfl rfl
    (fun _ _ => id) rfl rfl)

/-- R184: no record and no capture. -/
theorem resetOf_capturesNamed : (State.resetOf v straps).capturesNamed := fun _ _ => rfl

theorem resetOf_inRange : (State.resetOf v straps).InRange where
  loop := Loop.reset_inRange
  features := Features.reset_inRange
  links := DriveLink.reset_inRange v
  sensors _ hn := Sensor.reset_inRange (slopeLink_le (v := v) (of_decide_eq_true hn))
  slopeMap := ⟨Nat.zero_le _, nofun⟩
  gains _ := ⟨Nat.zero_le _, Nat.zero_le _⟩
  table := .of_nothingHeld (ActTable.reset_inRange v) rfl
  pending := nofun

/-- R108: a record is reset to its bias in the middle of the stroke. -/
theorem Actuator.reset_sound (a : Nat) : (Actuator.reset a).sound := by
  simp [sound, reset]

theorem resetOf_limitsSound : (State.resetOf v straps).limitsSound :=
  ⟨Actuator.reset_sound, trivial, trivial, fun _ => rfl, fun _ => rfl, nofun, nofun, nofun, nofun⟩

/-- R130, R145: with N at 0 no link is enabled. -/
theorem resetOf_linksSettled : (State.resetOf v straps).linksSettled := fun _ _ _ => rfl

end

/-- Settles O4, invariant by invariant. -/
theorem resetMeetsInvariants : Obligations.ResetMeetsInvariants := fun v straps =>
  ⟨resetOf_bounded v straps, resetOf_slotsSound v straps, resetOf_banksSound v straps,
    resetOf_capturesNamed v straps, State.configured_iff.mpr (resetOf_inRange v straps),
    resetOf_limitsSound v straps, resetOf_linksSettled v straps⟩

end Sys2Proof.Machine

namespace Sys2Proof.Machine

section
variable {s t : State} {k n : Nat}

/-! ### What a closure does (R42 to R47) -/

/-! #### Records and images -/

/-- R176, R177: a record without a capture joins the FIFO where it is selected, and there is room. -/
theorem offer_none_fifo (r : Record) (s : State) : (offer r none s).telem.fifo =
    if s.telem.selects r.kind = true ∧ s.telem.overflow = false ∧ s.telem.fifo.length < Config.fifoRecords then
      s.telem.fifo ++ [r]
    else s.telem.fifo := by
  unfold offer joinFifo
  split
  · next hselects =>
    split
    · next hoverflow => simp [hoverflow]
    · next hoverflow =>
      split
      · next hfull => exact (if_neg fun hjoins => absurd hjoins.2.2 (Nat.not_lt.mpr hfull)).symm
      · next hroom =>
        refine Eq.trans ?_ (if_pos ⟨hselects, by simpa using hoverflow, Nat.lt_of_not_le hroom⟩).symm
        dsimp only
        split <;> rfl
  · next hselects => simp [hselects]

theorem offer_none_fifo_congr {r : Record} (hfifo : t.telem.fifo = s.telem.fifo)
    (hoverflow : t.telem.overflow = s.telem.overflow) (hselection : t.telem.selection = s.telem.selection) :
    (offer r none t).telem.fifo = (offer r none s).telem.fifo := by
  have hselects : t.telem.selects r.kind = s.telem.selects r.kind := by
    unfold Telem.selects
    rw [hselection]
  simp only [offer_none_fifo, hselects, hfifo, hoverflow]

@[simp] theorem offer_images (r : Record) (copy : Option CaptureCopy) (s : State) :
    (offer r copy s).telem.images = s.telem.images := by
  unfold offer joinFifo
  dsimp only
  repeat' split
  all_goals rfl

@[simp] theorem scanAbort_images (cause : EndCause) (s : State) :
    (scanAbort cause s).telem.images = s.telem.images := by
  unfold scanAbort offerScanEnd
  split <;> simp

@[simp] theorem changeLoop_images (entered : LoopState) (cause : LoopCause) (frame : Option Frame) (s : State) :
    (changeLoop entered cause frame s).telem.images = s.telem.images := by simp [changeLoop]

@[simp] theorem enterHold_images (cause : LoopCause) (frame : Option Frame) (s : State) :
    (enterHold cause frame s).telem.images = s.telem.images := by simp [enterHold]

@[simp] theorem compareRun_images (run threshold : Nat) (cause : LoopCause) (frame : Option Frame) (s : State) :
    (compareRun run threshold cause frame s).telem.images = s.telem.images := by
  unfold compareRun
  repeat' split
  all_goals simp

@[simp] theorem reportMissed_images (f : Frame) (s : State) : (reportMissed f s).telem.images = s.telem.images := by
  unfold reportMissed
  split <;> simp

theorem image_congr (h : t.telem.images = s.telem.images) (k : Nat) : t.telem.image k = s.telem.image k := by
  unfold Telem.image
  rw [h]

/-! #### A slot becomes FREE -/

theorem cutWork_telem (k : Nat) (s : State) : (cutWork k s).telem = s.telem := by simp

/-- R47: what the end of an occupied slot leaves of the telemetry is all but the slot's image. -/
theorem freeSlot_telem (hbusy : (s.slot k).state ≠ .free) : (freeSlot k s).telem =
    { s.telem with images := Table.set noImage s.telem.images k none } := by
  rw [freeSlot, if_neg hbusy]
  simp [State.setImage, State.setSlot]

theorem freeSlot_slot_reset (hbusy : (s.slot k).state ≠ .free) : (freeSlot k s).slot k = Slot.reset k := by
  rw [freeSlot, if_neg hbusy]
  simp [State.slot, State.setSlot]

/-- R40, R47: every waiting head waits no longer. -/
theorem freeSlot_receiver_released (hbusy : (s.slot k).state ≠ .free) (n : Nat) (hn : s.hasSlopeLink n = true) :
    (freeSlot k s).receiver n = { s.receiver n with headWaiting := false } := by
  rw [freeSlot, if_neg hbusy]
  dsimp only
  rw [releaseHeads_receiver, if_pos (by simpa [State.hasSlopeLink] using hn)]
  simp [State.receiver]

theorem freeSlot_slotFreed (hk : k < 2) (hbusy : (s.slot k).state ≠ .free) : slotFreed k s (freeSlot k s) := by
  have hne : k ≠ 1 - k := by omega
  refine ⟨freeSlot_slot_reset hbusy, freeSlot_slot_ne hne s, freeSlot_receiver_released hbusy, ?_, ?_⟩
  · rw [freeSlot_telem hbusy]
    exact Table.get_set_self noImage s.telem.images k none
  · rw [freeSlot_telem hbusy]
    exact Table.get_set_ne noImage s.telem.images k (1 - k) none hne

/-- What changes neither slots, receivers nor images leaves a slot freed. -/
theorem slotFreed.of_frame {u : State} (h : slotFreed k s t)
    (hframe : u.slots = t.slots ∧ u.receivers = t.receivers ∧ u.telem.images = t.telem.images) : slotFreed k s u := by
  obtain ⟨slots, receivers, images⟩ := hframe
  obtain ⟨hself, hother, hreceivers, himage, himage'⟩ := h
  refine ⟨?_, ?_, fun n hn => ?_, ?_, ?_⟩
  · rw [State.slot, slots]
    exact hself
  · rw [State.slot, slots]
    exact hother
  · rw [State.receiver, receivers]
    exact hreceivers n hn
  · rw [image_congr images]
    exact himage
  · rw [image_congr images]
    exact himage'

/-- A slot that is freed is so after a change of itself, or of waiting heads. -/
theorem slotFreed.since {u : State} (h : slotFreed k u t) (variant : u.variant = s.variant)
    (other : u.slot (1 - k) = s.slot (1 - k)) (images : u.telem.images = s.telem.images)
    (receivers : ∀ n, ({ u.receiver n with headWaiting := false } : Receiver) =
      { s.receiver n with headWaiting := false }) :
    slotFreed k s t := by
  obtain ⟨hself, hother, hreceivers, himage, himage'⟩ := h
  refine ⟨hself, hother.trans other, fun n hn => ?_, himage, himage'.trans (image_congr images _)⟩
  rw [← receivers n]
  exact hreceivers n (by rwa [State.hasSlopeLink, variant])

/-! #### The run of missed frames (R159, R160) -/

theorem compareRun_loop (run threshold : Nat) (cause : LoopCause) (frame : Option Frame) (s : State) :
    (compareRun run threshold cause frame s).loop.missedRun = s.loop.missedRun ∧
    (compareRun run threshold cause frame s).loop.state =
      if (s.loop.state = .opened ∨ s.loop.state = .closed) ∧ threshold ≤ run then .hold else s.loop.state := by
  unfold compareRun
  cases hstate : s.loop.state <;> by_cases hrun : threshold ≤ run <;> simp [hstate, hrun, enterHold, changeLoop]

theorem reportMissed_loop (f : Frame) (hrun : s.loop.state.running = true) :
    (reportMissed f s).loop.missedRun = bumpRun s.loop.missedRun ∧
    (reportMissed f s).loop.state = if (s.loop.state = .opened ∨ s.loop.state = .closed) ∧
      s.loop.missedThreshold ≤ bumpRun s.loop.missedRun then .hold else s.loop.state := by
  rw [reportMissed, if_pos hrun]
  exact compareRun_loop ..

/-! #### The closure of slot k -/

theorem slotMissed_iff (s : State) (slot : Slot) : slotMissed s slot = true ↔
    ∃ n, s.hasSlopeLink n = true ∧ (s.sensor n).role = .required ∧ arrivalOf slot.arrivals n = .none := by
  simp [slotMissed, State.slopeLinkList, State.hasSlopeLink]

/-- R43: slot k has its close cause, and its frame is L. -/
def closing (k : Nat) (cause : CloseCause) (s : State) : State :=
  { s.modifySlot k (fun r => { r with closeCause := some cause, deadline := none }) with
    lastClosed := some (s.slot k).frame }

/-- R43, R45, R159: slot k has closed with a frame that is used. -/
def closedUsed (k : Nat) (cause : CloseCause) (s : State) : State :=
  { s.modifySlot k (fun r => { r with closeCause := some cause, deadline := none, state := .fill }) with
    lastClosed := some (s.slot k).frame, loop := { s.loop with missedRun := 0 } }

variable {cause : CloseCause}

theorem closing_slot_self : (closing k cause s).slot k =
    { s.slot k with closeCause := some cause, deadline := none } := by
  simp [closing, State.slot, State.modifySlot, State.setSlot]

theorem closing_slot_ne {m : Nat} (hne : m ≠ k) : (closing k cause s).slot m = s.slot m := by
  simp [closing, State.slot, State.modifySlot, State.setSlot, Table.get_set_ne _ _ _ _ _ hne.symm]

/-- R43: with no older OPEN slot beside it, only the MISSED decision is left. -/
theorem closeSlot_alone (hk : k < 2) (hopen : (s.slot k).state = .opened)
    (hother : (s.slot (1 - k)).state = .opened → older (s.slot (1 - k)).frame (s.slot k).frame = false) :
    closeSlot k cause s = decideMissed k (closing k cause s) := by
  have hstays : ¬ (((closing k cause s).slot (otherSlot k)).state = .opened ∧
      older ((closing k cause s).slot (otherSlot k)).frame (s.slot k).frame = true) := fun ⟨hopen', hold⟩ => by
    rw [closing_slot_ne (otherSlot_ne hk)] at hopen' hold
    exact absurd ((hother hopen').symm.trans hold) nofun
  rw [closeSlot, if_pos hopen]
  exact congrArg (decideMissed k) (if_neg hstays)

/-- R44: an older frame that is OPEN beside it is abandoned first. -/
theorem closeSlot_abandons (hk : k < 2) (hopen : (s.slot k).state = .opened)
    (hother : (s.slot (1 - k)).state = .opened) (hold : older (s.slot (1 - k)).frame (s.slot k).frame = true) :
    closeSlot k cause s = decideMissed k (abandonSlot (1 - k) (closing k cause s)) := by
  have habandons : ((closing k cause s).slot (otherSlot k)).state = .opened ∧
      older ((closing k cause s).slot (otherSlot k)).frame (s.slot k).frame = true := by
    rw [closing_slot_ne (otherSlot_ne hk)]
    exact ⟨hother, hold⟩
  rw [closeSlot, if_pos hopen]
  exact congrArg (decideMissed k) (if_pos habandons)

theorem closing_used (h : slotMissed s (s.slot k) = false) (hrun : s.loop.state.running = true) :
    decideMissed k (closing k cause s) = closedUsed k cause s := by
  have hmissed : slotMissed (closing k cause s) ((closing k cause s).slot k) = false := by
    rw [closing_slot_self]
    exact h
  have htwice := s.modifySlot_modifySlot k (fun r => { r with closeCause := some cause, deadline := none })
    (fun r => { r with state := .fill })
  have hclosed := congrArg (fun u : State =>
    ({ u with lastClosed := some (s.slot k).frame, loop := { s.loop with missedRun := 0 } } : State)) htwice
  exact (decideMissed_used hmissed hrun).trans hclosed

/-- R45, R47, R159: what the closure of slot k with a MISSED frame does. -/
structure MissedAfter (k : Nat) (s t : State) : Prop where
  freed : slotFreed k s t
  lastClosed : t.lastClosed = some (s.slot k).frame
  missedRun : t.loop.missedRun = bumpRun s.loop.missedRun
  state : t.loop.state = if (s.loop.state = .opened ∨ s.loop.state = .closed) ∧
    s.loop.missedThreshold ≤ t.loop.missedRun then .hold else s.loop.state
  stage : t.stage = s.stage
  store : t.store = s.store
  table : t.table = s.table
  drive : t.drive = s.drive

theorem decideMissed_missed (hmissed : slotMissed s (s.slot k) = true) : decideMissed k s =
    reportMissed (s.slot k).frame (offer (slotRecord .missed s.loop.state (s.slot k)) none (freeSlot k s)) :=
  if_pos hmissed

theorem closing_missed (hk : k < 2) (hopen : (s.slot k).state = .opened) (h : slotMissed s (s.slot k) = true)
    (hrun : s.loop.state.running = true) : MissedAfter k s (decideMissed k (closing k cause s)) := by
  have hself : (closing k cause s).slot k = { s.slot k with closeCause := some cause, deadline := none } :=
    closing_slot_self
  have hmissed : slotMissed (closing k cause s) ((closing k cause s).slot k) = true := by
    rw [hself]
    exact h
  have hfreed : slotFreed k s (freeSlot k (closing k cause s)) :=
    (freeSlot_slotFreed hk (by rw [hself, hopen]; exact nofun)).since rfl (closing_slot_ne (by omega)) rfl fun _ => rfl
  rw [decideMissed_missed hmissed]
  generalize hu : offer (slotRecord .missed _ _) none (freeSlot k (closing k cause s)) = u
  have hloop : u.loop = s.loop := by simp [← hu, closing]
  obtain ⟨hbumped, hstate⟩ :=
    reportMissed_loop (s := u) ((closing k cause s).slot k).frame (by rw [hloop]; exact hrun)
  have hoffered : slotFreed k s u := hfreed.of_frame (by simp [← hu])
  refine ⟨hoffered.of_frame (by simp), ?_, ?_, ?_, ?_, ?_, ?_, ?_⟩
  · simp [← hu, closing]
  · rw [hbumped, hloop]
  · rw [hstate, hbumped, hloop]
  all_goals simp [← hu, closing]

end
end Sys2Proof.Machine

namespace Sys2Proof.Machine

section
variable {s t : State} {k n : Nat} {f : Frame}

/-! ### A head that is not accepted (O21) -/

theorem headLate_iff (s : State) (f : Frame) : headLate s f = true ↔
    (∃ l, s.lastClosed = some l ∧ newer f l = false) ∨ ∃ k, k < 2 ∧ (s.slot k).frame = f ∧
      ((s.slot k).state = .fill ∨ (s.slot k).state = .ready ∨ (s.slot k).state = .command) := by
  have hslots : (∃ k, k < 2 ∧ (s.slot k).frame = f ∧
      ((s.slot k).state = .fill ∨ (s.slot k).state = .ready ∨ (s.slot k).state = .command)) ↔
      [0, 1].any (fun k => decide ((s.slot k).frame = f) && (decide ((s.slot k).state = .fill) ||
        decide ((s.slot k).state = .ready) || decide ((s.slot k).state = .command))) = true := by
    simp only [Nat.exists_lt_succ_right, Nat.not_lt_zero, false_and, exists_false, false_or]
    simp [or_assoc]
  rw [hslots]
  unfold headLate
  rw [Bool.or_eq_true]
  cases hl : s.lastClosed <;> simp

theorem slotOpenFor_eq_some (hk : k < 2) (hopen : (s.slot k).state = .opened) (hframe : (s.slot k).frame = f)
    (hother : (s.slot (1 - k)).frame ≠ f) : slotOpenFor s f = some k := by
  obtain rfl | rfl : k = 0 ∨ k = 1 := by omega
  · simp [slotOpenFor, hopen, hframe]
  · simp_all [slotOpenFor]

theorem slotOpenFor_eq_none (h : ∀ k, k < 2 → (s.slot k).state = .opened → (s.slot k).frame ≠ f) :
    slotOpenFor s f = none := by
  have h0 := h 0 (by omega)
  have h1 := h 1 (by omega)
  simpa [slotOpenFor] using ⟨h0, h1⟩

theorem slotFree_eq_none (h : ∀ k, k < 2 → (s.slot k).state ≠ .free) : slotFree s = none := by
  simp [slotFree, h 0, h 1]

theorem oldestOpen_eq_none (h : ∀ k, k < 2 → (s.slot k).state ≠ .opened) : oldestOpen s = none := by
  simp [oldestOpen, h 0, h 1]

/-- R3: of two frames at most one is newer than the other. -/
theorem not_newer_of_newer {g : Frame} (h : newer f g = true) : newer g f = false := by
  rw [newer_iff] at h
  rw [← Bool.not_eq_true, newer_iff]
  have hf := f.isLt
  have hg := g.isLt
  omega

theorem not_older_of_newer {g : Frame} (h : newer f g = true) : older f g = false := by
  rw [← Bool.not_eq_true, older_iff, h]
  exact fun hold => nomatch hold.1

/-- R40: of two OPEN slots the one that the other is newer than is the oldest. -/
theorem oldestOpen_eq_some (hk : k < 2) (hopen : (s.slot k).state = .opened)
    (hother : (s.slot (1 - k)).state = .opened → newer (s.slot (1 - k)).frame (s.slot k).frame = true) :
    oldestOpen s = some k := by
  unfold oldestOpen
  obtain rfl | rfl : k = 0 ∨ k = 1 := by omega
  · by_cases h1 : (s.slot 1).state = .opened
    · simp [hopen, h1, hother h1]
    · simp [hopen, h1]
  · by_cases h0 : (s.slot 0).state = .opened
    · simp [hopen, h0, hother h0, not_newer_of_newer (hother h0)]
    · simp [hopen, h0]

variable {head : Segment}

theorem decideHead_ignored (hrole : (s.sensor n).role = .ignored) : decideHead n head s = popHead n s :=
  if_pos hrole

theorem decideHead_late (hrole : (s.sensor n).role ≠ .ignored) (hlate : headLate s head.frame = true) :
    decideHead n head s = (popHead n s).modifyReceiver n (fun r => { r with late := r.late + 1 }) := by
  rw [decideHead, if_neg hrole, if_pos hlate]

theorem decideHead_open (hrole : (s.sensor n).role ≠ .ignored) (hlate : headLate s head.frame = false)
    (hfor : slotOpenFor s head.frame = some k) : decideHead n head s = placeHead k n head s := by
  simp only [decideHead, hrole, hlate, hfor, if_false, Bool.false_eq_true]

theorem decideHead_waits (hrole : (s.sensor n).role ≠ .ignored) (hlate : headLate s head.frame = false)
    (hfor : slotOpenFor s head.frame = none) (hfree : slotFree s = none) :
    decideHead n head s = waitHead n s := by
  simp only [decideHead, hrole, hlate, hfor, hfree, if_false, Bool.false_eq_true]

/-- R39. -/
theorem placeHead_duplicate (hcovered : ∃ i, i < head.count ∧
      ∃ j ∈ slopeColumns s.slopeMap head.sensor (head.first + i), j ∈ (s.slot k).coverage) :
    placeHead k n head s = (popHead n s).modifyReceiver n (fun r => { r with duplicate := r.duplicate + 1 }) := by
  refine if_pos ?_
  simpa [segmentColumns] using hcovered

/-- The head of a link waits. -/
def headWaits (n : Nat) (s : State) : State := s.modifyReceiver n (fun r => { r with headWaiting := true })

theorem waitHead_none (h : oldestOpen s = none) : waitHead n s = headWaits n s := by
  have h' : oldestOpen (headWaits n s) = none := h
  unfold waitHead
  dsimp only
  rw [show s.modifyReceiver n _ = headWaits n s from rfl, h']

theorem waitHead_some (h : oldestOpen s = some k) : waitHead n s = closeSlot k .displaced (headWaits n s) := by
  have h' : oldestOpen (headWaits n s) = some k := h
  unfold waitHead
  dsimp only
  rw [show s.modifyReceiver n _ = headWaits n s from rfl, h']

/-- R47: what the end of slot k makes of a head that waited. -/
theorem MissedAfter.since_wait (h : MissedAfter k (headWaits n s) t) : MissedAfter k s t where
  freed := h.freed.since rfl rfl rfl fun m => by
    rw [headWaits, State.receiver_modifyReceiver]
    split
    · next hm => rw [hm]
    · rfl
  lastClosed := h.lastClosed
  missedRun := h.missedRun
  state := h.state
  stage := h.stage
  store := h.store
  table := h.table
  drive := h.drive

/-- Settles O21: the fates in the order in which they are tried; the slot that a waiting head displaces closes. -/
theorem offeredHeadIsDiscardedOrWaits : Obligations.OfferedHeadIsDiscardedOrWaits := by
  intro n head rest s hqueue hwaiting hsensor late
  have htail : (s.receiver n).queue.tail = rest := by rw [hqueue]; rfl
  have hlate : headLate s head.frame = true ↔ late := headLate_iff s head.frame
  have hfresh : ¬ late → headLate s head.frame = false := fun hnot => by simpa using mt hlate.mp hnot
  refine ⟨fun hrole => ?_, fun hrole h => ?_, fun hrole h k hk hopen hframe hother hcovered => ?_,
    fun hrole h hbusy => ?_, fun hrole h hrun k hk hopen hframe hfree hother => ?_⟩
  · rw [decideHead_ignored hrole]
    exact modifyReceiver_congr (by simp [htail, hwaiting])
  · rw [decideHead_late hrole (hlate.mpr h), popHead, State.modifyReceiver_modifyReceiver]
    exact modifyReceiver_congr (by simp [htail, hwaiting])
  · rw [decideHead_open hrole (hfresh h) (slotOpenFor_eq_some hk hopen hframe hother),
      placeHead_duplicate (by rw [hsensor]; exact hcovered), popHead, State.modifyReceiver_modifyReceiver]
    exact modifyReceiver_congr (by simp [htail, hwaiting])
  · have hopen : ∀ k, k < 2 → (s.slot k).state ≠ .opened := fun k hk => (hbusy k hk).2
    rw [decideHead_waits hrole (hfresh h) (slotOpenFor_eq_none fun k hk ho => absurd ho (hopen k hk))
      (slotFree_eq_none fun k hk => (hbusy k hk).1), waitHead_none (oldestOpen_eq_none hopen)]
    rfl
  · have hfor : slotOpenFor s head.frame = none := slotOpenFor_eq_none fun m hm ho => by
      by_cases hmk : m = k
      · rwa [hmk]
      · rw [eq_otherSlot hm hk hmk] at ho ⊢
        exact (hother ho).1
    have hoccupied : ∀ m, m < 2 → (s.slot m).state ≠ .free := fun m hm => by
      by_cases hmk : m = k
      · rw [hmk, hopen]
        exact nofun
      · rw [eq_otherSlot hm hk hmk]
        exact hfree
    have hclosing : decideHead n head s = decideMissed k (closing k .displaced (headWaits n s)) := by
      rw [decideHead_waits hrole (hfresh h) hfor (slotFree_eq_none hoccupied),
        waitHead_some (oldestOpen_eq_some hk hopen fun ho => (hother ho).2)]
      exact closeSlot_alone hk hopen fun ho => not_older_of_newer (hother ho).2
    have hmissing := slotMissed_iff s (s.slot k)
    rw [hclosing]
    refine ⟨fun hused => ?_, fun hmissed => ?_⟩
    · have hnone : slotMissed s (s.slot k) = false := by simpa using mt hmissing.mp hused
      exact closing_used (s := headWaits n s) hnone hrun
    · have hafter : MissedAfter k s _ := (closing_missed (s := headWaits n s) (cause := .displaced) hk hopen
        (hmissing.mpr hmissed) hrun).since_wait
      exact ⟨hafter.freed, hafter.lastClosed, hafter.missedRun, hafter.state, hafter.stage, hafter.store,
        hafter.table, hafter.drive⟩

end
end Sys2Proof.Machine

namespace Sys2Proof.Machine

section
variable {s t : State} {k : Nat} {cause : CloseCause}

/-! ### The deadline of an OPEN slot (O26) -/

theorem deadlineExpiry_stays (hk : (s.slot k).state ≠ .opened) : exec (.deadlineExpiry k) s = .next s := by
  change awake s _ = _
  unfold awake
  split
  · rfl
  · exact congrArg _ (if_neg fun h => hk h.2.1)

theorem deadlineExpiry_closes (hawake : s.resetLow = false) (hk : k < 2) (hopen : (s.slot k).state = .opened)
    (htimer : (s.slot k).deadline.isSome = true) :
    exec (.deadlineExpiry k) s = .next (settle (closeSlot k .deadline s)) := by
  change awake s _ = _
  rw [awake, if_neg (by simp [hawake])]
  exact congrArg _ (if_pos ⟨hk, hopen, htimer⟩)

theorem closedUsed_slot_self : (closedUsed k cause s).slot k =
    { s.slot k with closeCause := some cause, deadline := none, state := .fill } :=
  ((State.slot_modifySlot s k k fun r => { r with
    closeCause := some cause, deadline := none, state := .fill }).trans (if_pos rfl) :)

theorem closedUsed_slot_ne {m : Nat} (hne : m ≠ k) : (closedUsed k cause s).slot m = s.slot m :=
  ((State.slot_modifySlot s k m fun r => { r with
    closeCause := some cause, deadline := none, state := .fill }).trans (if_neg hne.symm) :)

/-- R54: the only slot in FILL is the one whose pass may begin. -/
theorem fillCandidate_only (hk : k < 2) (hfill : (s.slot k).state = .fill) (hother : (s.slot (1 - k)).state ≠ .fill) :
    fillCandidate s = some k := by
  unfold fillCandidate
  obtain rfl | rfl : k = 0 ∨ k = 1 := by omega
  · simp_all
  · simp_all

/-- R53, R61: an IDLE engine in a running loop begins the pass of the only slot in FILL. -/
theorem arbiter_fills (hidle : s.engine.work = .idle) (hrun : s.loop.state.running = true)
    (hfill : fillCandidate s = some k) : arbiter s = beginFill k s := by
  obtain ⟨more, hfuel⟩ : ∃ more, arbiterFuel s = more + 1 := ⟨_, rfl⟩
  rw [arbiter, hfuel, arbitrate, if_pos ⟨hidle, hrun⟩]
  simp only [hfill]

/-- R47, R60, R65: work on the other slot is not cut. -/
theorem cutWork_other (hsegment : ∀ w, s.engine.work = .segment w → w.slot ≠ k)
    (hfill : ∀ w, s.engine.work = .fill w → w.slot ≠ k) : cutWork k s = s := by
  unfold cutWork
  split
  · next w hw => exact if_neg (hsegment w hw)
  · next w hw => exact if_neg (hfill w hw)
  · rfl

theorem freeSlot_engine_other (hsegment : ∀ w, s.engine.work = .segment w → w.slot ≠ k)
    (hfill : ∀ w, s.engine.work = .fill w → w.slot ≠ k) : (freeSlot k s).engine = s.engine := by
  unfold freeSlot
  split
  · rfl
  · simp [cutWork_other hsegment hfill]

theorem slotMissed_congr {x : Slot} (variant : t.variant = s.variant) (sensors : t.sensors = s.sensors) :
    slotMissed t x = slotMissed s x := by
  unfold slotMissed State.slopeLinkList State.sensor
  rw [variant, sensors]

theorem closing_missed_engine (hsegment : ∀ w, s.engine.work = .segment w → w.slot ≠ k)
    (hfill : ∀ w, s.engine.work = .fill w → w.slot ≠ k) (h : slotMissed s (s.slot k) = true) :
    (decideMissed k (closing k cause s)).engine = s.engine := by
  have hmissed : slotMissed (closing k cause s) ((closing k cause s).slot k) = true := by
    rw [closing_slot_self]
    exact h
  rw [decideMissed_missed hmissed]
  have hengine : (freeSlot k (closing k cause s)).engine = s.engine := freeSlot_engine_other hsegment hfill
  simpa using hengine

theorem decideMissed_used_slot (h : slotMissed s (s.slot k) = false) (hrun : s.loop.state.running = true) (m : Nat) :
    (decideMissed k s).slot m = if k = m then { s.slot k with state := .fill } else s.slot m := by
  rw [decideMissed_used h hrun]
  exact s.slot_modifySlot k m fun r => { r with state := .fill }

/-- R44 to R47: slot k has closed with a frame that is used, and the older frame in the other slot is abandoned. -/
structure AbandonedBeside (k : Nat) (cause : CloseCause) (s t : State) : Prop where
  closed : t.slot k = (closedUsed k cause s).slot k
  freed : t.slot (1 - k) = Slot.reset (1 - k)
  lastClosed : t.lastClosed = some (s.slot k).frame
  loop : t.loop = (closedUsed k cause s).loop
  receivers : ∀ n, s.hasSlopeLink n = true → t.receiver n = { s.receiver n with headWaiting := false }
  fifo : t.telem.fifo = (offer { slotRecord .abandoned s.loop.state (s.slot (1 - k)) with closeCause := none } none
    s).telem.fifo
  image : t.telem.image (1 - k) = none
  engine : t.engine = s.engine
  stage : t.stage = s.stage
  store : t.store = s.store
  table : t.table = s.table

theorem closing_abandons (hk : k < 2) (hother : (s.slot (1 - k)).state = .opened)
    (hrun : s.loop.state.running = true) (h : slotMissed s (s.slot k) = false)
    (hsegment : ∀ w, s.engine.work = .segment w → w.slot = k)
    (hfill : ∀ w, s.engine.work = .fill w → w.slot = k) :
    AbandonedBeside k cause s (decideMissed k (abandonSlot (1 - k) (closing k cause s))) := by
  have hne : 1 - k ≠ k := by omega
  have hbeside : (closing k cause s).slot (1 - k) = s.slot (1 - k) := closing_slot_ne hne
  have hbusy : ((closing k cause s).slot (1 - k)).state ≠ .free := by
    rw [hbeside, hother]
    exact nofun
  generalize hu : abandonSlot (1 - k) (closing k cause s) = u
  have hself : u.slot k = { s.slot k with closeCause := some cause, deadline := none } := by
    rw [← hu, abandonSlot_slot_ne hne, closing_slot_self]
  have hfreed : slotFreed (1 - k) (closing k cause s) u := by
    rw [← hu]
    exact (freeSlot_slotFreed (by omega) hbusy).of_frame (by simp [abandonSlot])
  obtain ⟨hreset, -, hreceivers, himage, -⟩ := hfreed
  have hmissed : slotMissed u (u.slot k) = false := by
    rw [hself, slotMissed_congr (s := s) (by simp [← hu, closing]) (by simp [← hu, closing])]
    exact h
  have hloop : u.loop = s.loop := by simp [← hu, closing]
  have hengine : (freeSlot (1 - k) (closing k cause s)).engine = s.engine :=
    freeSlot_engine_other (fun w hw hslot => hne (hslot.symm.trans (hsegment w hw)))
      fun w hw hslot => hne (hslot.symm.trans (hfill w hw))
  have hfifo : u.telem.fifo =
      (offer { slotRecord .abandoned s.loop.state (s.slot (1 - k)) with closeCause := none } none s).telem.fifo := by
    have htelem := freeSlot_telem hbusy
    rw [← hu, abandonSlot, hbeside]
    exact offer_none_fifo_congr (by rw [htelem]; rfl) (by rw [htelem]; rfl) (by rw [htelem]; rfl)
  have hrun' : u.loop.state.running = true := by rw [hloop]; exact hrun
  have hslot := decideMissed_used_slot hmissed hrun'
  have hused := decideMissed_used hmissed hrun'
  constructor
  case closed => rw [hslot, if_pos rfl, hself, closedUsed_slot_self]
  case freed => rw [hslot, if_neg hne.symm, hreset]
  case lastClosed => simp [← hu, closing]
  case loop => rw [hused, hloop]; rfl
  case receivers => rw [hused]; exact hreceivers
  case fifo => rw [hused]; exact hfifo
  case image => rw [hused]; exact himage
  case engine => rw [hused]; simpa [← hu, abandonSlot] using hengine
  case stage | store | table => simp [← hu, closing]

/-- Settles O26: `closeSlot` closes slot k alone (the frame used or MISSED) or abandons the older frame beside it,
and an IDLE engine begins the pass of a slot that went to FILL. -/
theorem deadlineClosesFrame : Obligations.DeadlineClosesFrame := by
  intro k s hawake hk f o missing used
  have hmissing := slotMissed_iff s (s.slot k)
  have hnone : ¬ missing → slotMissed s (s.slot k) = false := fun hused => by simpa using mt hmissing.mp hused
  refine ⟨deadlineExpiry_stays, fun hopen htimer hrun => ?_⟩
  rw [deadlineExpiry_closes hawake hk hopen htimer]
  refine ⟨fun hstage hother => ?_, fun hopen' hold hused hbusy hsegment hfill => ?_⟩
  · rw [closeSlot_alone hk hopen hother]
    refine ⟨fun hused hbusy => ?_, fun hused hidle hfill => ?_, fun hmissed hbusy hsegment hfill => ?_⟩
    · have hstill : (closedUsed k .deadline s).busy := ⟨hbusy, hstage⟩
      rw [closing_used (hnone hused) hrun, settle_busy _ hstill]
      rfl
    · have hcandidate : fillCandidate (closedUsed k .deadline s) = some k := by
        refine fillCandidate_only hk (by rw [closedUsed_slot_self]) ?_
        rw [closedUsed_slot_ne (by omega : 1 - k ≠ k)]
        exact hfill
      have hstays : enterCommands 2 (closedUsed k .deadline s) = closedUsed k .deadline s :=
        enterCommands_stage _ _ hstage
      rw [closing_used (hnone hused) hrun, settle, hstays,
        arbiter_fills (s := closedUsed k .deadline s) hidle hrun hcandidate, beginFill, closedUsed_slot_self]
      rfl
    · have hafter := closing_missed (cause := .deadline) hk hopen (hmissing.mpr hmissed) hrun
      have hengine := closing_missed_engine (cause := .deadline) hsegment hfill (hmissing.mpr hmissed)
      rw [settle_busy _ ⟨by rw [hengine]; exact hbusy, by rw [hafter.stage]; exact hstage⟩]
      exact ⟨_, rfl, hafter.freed.1, hafter.freed.2.1, hafter.lastClosed, hafter.missedRun, hafter.state, hengine,
        hafter.stage, hafter.store, hafter.table⟩
  · have hafter := closing_abandons (cause := .deadline) hk hopen' hrun (hnone hused) hsegment hfill
    have hstill : ∀ m, m < 2 → ((closeSlot k .deadline s).slot m).state ≠ .ready := fun m hm => by
      rw [closeSlot_abandons hk hopen hopen' hold]
      by_cases hmk : m = k
      · rw [hmk, hafter.closed, closedUsed_slot_self]
        exact nofun
      · rw [eq_otherSlot hm hk hmk]
        exact ne_of_eq_of_ne (congrArg Slot.state hafter.freed) nofun
    rw [← closeSlot_abandons hk hopen hopen' hold] at hafter
    rw [settle_alone _ (by rw [hafter.engine]; exact hbusy) (hstill 0 (by omega)) (hstill 1 (by omega))]
    exact ⟨_, rfl, hafter.closed, hafter.freed, hafter.lastClosed, hafter.loop, hafter.receivers, hafter.fifo,
      hafter.image, hafter.engine, hafter.stage, hafter.store, hafter.table⟩

end
end Sys2Proof.Machine

namespace Sys2Proof.Machine

section
variable {s t : State} {k : Nat}

/-! ### The end of a pass (O28) -/

/-! #### What there is to choose (R48, R54) -/

theorem each_slot {p : Nat → Prop} (hk : k < 2) (hself : p k) (hother : p (1 - k)) (m : Nat) (hm : m < 2) : p m := by
  by_cases hmk : m = k
  · rw [hmk]
    exact hself
  · rw [eq_otherSlot hm hk hmk]
    exact hother

theorem readyCandidate_only (hk : k < 2) (hready : (s.slot k).state = .ready)
    (hother : (s.slot (1 - k)).state ≠ .ready) (hfree : (s.slot (1 - k)).state ≠ .command) :
    readyCandidate s = some k := by
  unfold readyCandidate
  obtain rfl | rfl : k = 0 ∨ k = 1 := by omega
  · simp_all
  · simp_all

theorem readyCandidate_none (h : ∀ m, m < 2 → (s.slot m).state ≠ .ready) : readyCandidate s = none := by
  simp [readyCandidate, h 0, h 1]

theorem fillCandidate_none (h : ∀ m, m < 2 → (s.slot m).state ≠ .fill) : fillCandidate s = none := by
  simp [fillCandidate, h 0, h 1]

theorem linkCandidate_congr (variant : t.variant = s.variant) (receivers : t.receivers = s.receivers)
    (served : t.engine.lastServed = s.engine.lastServed) : linkCandidate t = linkCandidate s := by
  simp only [linkCandidate, linkOrder, State.receiver, variant, receivers, served]

/-- R54: the round robin names only links of the variant. -/
theorem hasSlopeLink_of_mem {n : Nat} (h : n ∈ linkOrder s) : s.hasSlopeLink n = true := by
  unfold linkOrder at h
  obtain ⟨i, hi, rfl⟩ := List.mem_map.mp h
  have hlt := List.mem_range.mp hi
  simpa [State.hasSlopeLink] using Nat.mod_lt _ (by omega)

theorem linkCandidate_empty (h : ∀ n, s.hasSlopeLink n = true → (s.receiver n).queue = []) :
    linkCandidate s = none :=
  List.find?_eq_none.mpr fun n hn => by simp [h n (hasSlopeLink_of_mem hn)]

/-! #### The residuals (R63 to R65) -/

/-- R63: the residuals of the rows of slot k's bank. -/
def passResiduals (k : Nat) (s : State) : List Int :=
  residuals (s.slot k).acc (s.bankRows (s.slot k).bank) ((s.bank (s.slot k).bank).shift.getD 0)

theorem passResiduals_eq (k : Nat) (s : State) : passResiduals k s =
    (List.range (s.bankRows (s.slot k).bank)).map (fun a => saturate (-8388608) 8388607
      (roundDiv (Table.get zeroes (s.slot k).acc a) (2 ^ ((s.bank (s.slot k).bank).shift.getD 0)))) := by
  simp [passResiduals, residuals, Table.getList, residual]

/-- R63, R64: slot k with its residuals and their peak, READY. -/
def residualSlot (k : Nat) (s : State) : Slot :=
  { s.slot k with
    state := .ready, acc := Table.setList zeroes (s.slot k).acc 0 (passResiduals k s)
    peak := some (peakOf (passResiduals k s)) }

theorem finishPass_slot (k m : Nat) (s : State) :
    (finishPass k s).slot m = if k = m then residualSlot k s else s.slot m :=
  s.slot_setSlot k m (residualSlot k s)

/-- R63 to R65: in t the pass of slot k in s is done, and the slot has gone to a state with its residuals. -/
structure PassFinished (k : Nat) (x : SlotState) (s t : State) : Prop where
  slot : t.slot k = { residualSlot k s with state := x }
  other : t.slot (1 - k) = s.slot (1 - k)
  engine : t.engine = { s.engine with work := .idle, passesDone := s.engine.passesDone + 1 }
  variant : t.variant = s.variant
  banks : t.banks = s.banks
  receivers : t.receivers = s.receivers
  store : t.store = s.store
  lastClosed : t.lastClosed = s.lastClosed

theorem finishPass_finished (hk : k < 2) : PassFinished k .ready s (finishPass k s) where
  slot := by rw [finishPass_slot, if_pos rfl, residualSlot]
  other := by rw [finishPass_slot, if_neg (by omega)]
  engine := rfl
  variant := rfl
  banks := rfl
  receivers := rfl
  store := rfl
  lastClosed := rfl

theorem PassFinished.of_frame {x : SlotState} {u : State} (h : PassFinished k x s t)
    (hframe : u.slots = t.slots ∧ u.engine = t.engine ∧ u.variant = t.variant ∧ u.banks = t.banks ∧
      u.receivers = t.receivers ∧ u.store = t.store ∧ u.lastClosed = t.lastClosed) : PassFinished k x s u := by
  obtain ⟨hslots, hengine, hvariant, hbanks, hreceivers, hstore, hlast⟩ := hframe
  have hslot : ∀ m, u.slot m = t.slot m := fun m => by rw [State.slot, hslots, ← State.slot]
  exact ⟨(hslot k).trans h.slot, (hslot (1 - k)).trans h.other, hengine.trans h.engine, hvariant.trans h.variant,
    hbanks.trans h.banks, hreceivers.trans h.receivers, hstore.trans h.store, hlast.trans h.lastClosed⟩

/-- R63: an accumulator of a row is its residual, and the others stay. -/
theorem PassFinished.acc {x : SlotState} (h : PassFinished k x s t) (a : Nat) :
    Table.get zeroes (t.slot k).acc a = (passResiduals k s).getD a (Table.get zeroes (s.slot k).acc a) := by
  have hget := Table.get_setList zeroes (passResiduals k s) (s.slot k).acc 0 a
  rw [if_pos (Nat.zero_le a), Nat.sub_zero, ← List.getD_eq_getElem?_getD] at hget
  rw [h.slot]
  exact hget

/-- R54: with no slot in FILL and no head to offer, an engine whose pass has ended chooses nothing. -/
theorem PassFinished.arbiter {x : SlotState} (h : PassFinished k x s t) (hk : k < 2) (hx : x ≠ .fill)
    (hother : (s.slot (1 - k)).state ≠ .fill) (hlink : linkCandidate s = none) : arbiter t = t := by
  have hself : (t.slot k).state ≠ .fill := by
    rw [h.slot]
    exact hx
  have hnone : ∀ m, m < 2 → (t.slot m).state ≠ .fill :=
    each_slot (p := fun m => (t.slot m).state ≠ .fill) hk hself (by rw [h.other]; exact hother)
  refine arbiter_nothing t (fillCandidate_none hnone) ?_
  rw [linkCandidate_congr h.variant h.receivers (by rw [h.engine])]
  exact hlink

/-! #### The READY slot enters COMMAND (R48, R111, R153) -/

/-- R48: the slot whose pass has ended, in COMMAND. -/
def commanded (k : Nat) (s : State) : State :=
  (finishPass k s).modifySlot k fun r => { r with state := .command }

theorem commanded_slot_self :
    (commanded k s).slot k = { (finishPass k s).slot k with state := .command } :=
  setSlot_slot_self

theorem commanded_finished (hk : k < 2) : PassFinished k .command s (commanded k s) where
  slot := by rw [commanded_slot_self, (finishPass_finished hk).slot]
  other := (setSlot_slot_ne (by omega)).trans (finishPass_finished hk).other
  engine := rfl
  variant := rfl
  banks := rfl
  receivers := rfl
  store := rfl
  lastClosed := rfl

theorem commanded_frame (hk : k < 2) : ((commanded k s).slot k).frame = (s.slot k).frame := by
  rw [(commanded_finished hk).slot, residualSlot]

theorem enterCommand_finishPass (hk : k < 2) : enterCommand k (finishPass k s) =
    match (testScheduled (s.slot k).frame (commanded k s)).loop.state with
    | .hold => holdPath k (testScheduled (s.slot k).frame (commanded k s))
    | _ => beginBuilding k (testScheduled (s.slot k).frame (commanded k s)) := by
  rw [← commanded_frame hk]
  rfl

/-- R48: the slot whose pass has ended is the only one that may enter COMMAND. -/
theorem settle_finishPass (hk : k < 2) (hidle : s.stage.phase = .idle) (hrun : s.loop.state.running = true)
    (hready : (s.slot (1 - k)).state ≠ .ready) (hcommand : (s.slot (1 - k)).state ≠ .command) :
    settle (finishPass k s) = arbiter (enterCommands 1 (enterCommand k (finishPass k s))) := by
  have hfinished := finishPass_finished (s := s) hk
  have hcandidate : readyCandidate (finishPass k s) = some k :=
    readyCandidate_only hk (by rw [hfinished.slot]) (by rw [hfinished.other]; exact hready)
      (by rw [hfinished.other]; exact hcommand)
  rw [settle, enterCommands, if_pos ⟨hrun, hidle⟩, hcandidate]

/-- What the stage reads when slot k of s enters COMMAND in a loop state (R111). -/
def stageWork (k : Nat) (loopRead : LoopState) (s : State) : StageFrame :=
  { slot := k, frame := (s.slot k).frame, loopRead := loopRead, n := s.table.n, records := s.table.records,
    gains := s.gains, pairs := s.table.pairs, poke := readPoke s }

theorem readPoke_eq (s : State) : readPoke s =
    if s.scan.state = .running then s.scan.run.map (fun r => { actuator := r.actuator, offset := r.offset })
    else none := by
  unfold readPoke
  split
  · next hstate hrun => simp [hstate, hrun]
  · next hnone =>
    split
    · next hstate =>
      cases hrun : s.scan.run with
      | none => rfl
      | some r => exact absurd hrun (hnone r hstate)
    · rfl

/-- R48, R111, R153: slot k has entered COMMAND with its residuals, after a due transition, and the stage has begun
its frame. -/
structure FrameBegun (k : Nat) (s t : State) : Prop where
  finished : PassFinished k .command s t
  stage : t.stage = { s.stage with
    phase := .building (stageWork k (testScheduled (s.slot k).frame (commanded k s)).loop.state s) }
  loop : t.loop = (testScheduled (s.slot k).frame (commanded k s)).loop
  telem : t.telem = (testScheduled (s.slot k).frame (commanded k s)).telem

theorem settle_begins (hk : k < 2) (hidle : s.stage.phase = .idle) (hrun : s.loop.state.running = true)
    (hready : (s.slot (1 - k)).state ≠ .ready) (hcommand : (s.slot (1 - k)).state ≠ .command)
    (hfill : (s.slot (1 - k)).state ≠ .fill) (hlink : linkCandidate s = none)
    (hstate : (testScheduled (s.slot k).frame (commanded k s)).loop.state ≠ .hold) :
    FrameBegun k s (settle (finishPass k s)) := by
  generalize hv : testScheduled (s.slot k).frame (commanded k s) = v at hstate
  have hslots : v.slots = (commanded k s).slots := by simp [← hv]
  have henters : enterCommand k (finishPass k s) = beginBuilding k v := by
    rw [enterCommand_finishPass hk, hv]
    split
    · next hhold => exact absurd hhold hstate
    · rfl
  have hfinished : PassFinished k .command s (beginBuilding k v) :=
    (commanded_finished hk).of_frame (by simp [← hv])
  have hphase : (beginBuilding k v).stage.phase ≠ .idle := nofun
  rw [settle_finishPass hk hidle hrun hready hcommand, henters, enterCommands_stage _ _ hphase,
    hfinished.arbiter hk nofun hfill hlink]
  refine ⟨hfinished, ?_, by rw [hv]; rfl, by rw [hv]; rfl⟩
  have hframe : (v.slot k).frame = (s.slot k).frame := by
    rw [State.slot, hslots, ← State.slot, commanded_frame hk]
  have hpoke : readPoke v = readPoke s := by
    unfold readPoke
    rw [show v.scan = s.scan by simp [← hv, commanded]]
  have htable : v.table = s.table := by simp [← hv, commanded]
  have hgains : v.gains = s.gains := by simp [← hv, commanded]
  have hstage : v.stage = s.stage := by simp [← hv, commanded]
  rw [beginBuilding, hframe, hpoke, htable, hgains, hstage, hv]
  rfl

/-! #### A scheduled transition (R153, R158) -/

theorem testScheduled_waits {g : Frame}
    (h : ∀ p, s.loop.pendingTransition = some p → ¬ (g = p.frame ∨ newer g p.frame = true)) :
    testScheduled g s = s := by
  unfold testScheduled
  split
  · rfl
  · next p hp => exact if_neg (h p hp)

/-- R153: the scheduled transition is no longer pending. -/
def unscheduled (s : State) : State := { s with loop := { s.loop with pendingTransition := none } }

theorem testScheduled_due {g : Frame} {p : PendingTransition} {e : LoopState} {c : LoopCause}
    (hp : s.loop.pendingTransition = some p) (hdue : g = p.frame ∨ newer g p.frame = true)
    (htarget : p.target = .opened ∧ e = .opened ∧ c = .scheduledOpen ∨
      p.target = .closed ∧ e = .closed ∧ c = .scheduledClose) :
    testScheduled g s =
      if e = s.loop.state then unscheduled s else clearRuns (changeLoop e c (some g) (unscheduled s)) := by
  unfold testScheduled
  rw [hp]
  refine (if_pos hdue).trans ?_
  obtain ⟨htarget, rfl, rfl⟩ | ⟨htarget, rfl, rfl⟩ := htarget
  · simp only [htarget, eq_comm (a := LoopState.opened)]
    rfl
  · simp only [htarget, eq_comm (a := LoopState.closed)]
    rfl

/-- R149, R158: what a transition that takes effect makes of the loop. -/
theorem clearRuns_changeLoop_loop (e : LoopState) (c : LoopCause) (f : Option Frame) (s : State) :
    (clearRuns (changeLoop e c f s)).loop = { s.loop with
      state := e, missedRun := 0, strokeRun := 0, driveRun := 0
      lastTransition := some { entered := e, cause := c, frame := f } } := by
  simp [clearRuns, changeLoop]

/-- R149: the loop has entered a state, whose record is not made yet. -/
def entering (e : LoopState) (c : LoopCause) (f : Option Frame) (s : State) : State :=
  { s with loop := { s.loop with
      state := e, lastTransition := some { entered := e, cause := c, frame := f } } }

theorem changeLoop_offers (e : LoopState) (c : LoopCause) (f : Option Frame) (s : State) : changeLoop e c f s =
    offer (eventRecord (entering e c f s) (.loopState e c) f s.activeBank) none (entering e c f s) := rfl

/-- R149: the LOOP_STATE record is made in the state that the loop enters. -/
theorem clearRuns_changeLoop_fifo (e : LoopState) (c : LoopCause) (f : Option Frame) (htelem : t.telem = s.telem)
    (hactive : t.activeBank = s.activeBank) : (clearRuns (changeLoop e c f t)).telem.fifo =
      (offer (eventRecord { s with loop := { s.loop with state := e } } (.loopState e c) f s.activeBank) none
        s).telem.fifo := by
  have hkept : (clearRuns (changeLoop e c f t)).telem = (changeLoop e c f t).telem := rfl
  have hentering : (entering e c f t).telem = s.telem := htelem
  rw [hkept, changeLoop_offers, hactive]
  exact offer_none_fifo_congr (by rw [hentering]) (by rw [hentering]) (by rw [hentering])

theorem testScheduled_tracks {g : Frame} (h : s.loop.state ≠ .hold) : (testScheduled g s).loop.state ≠ .hold := by
  have hdue : ∀ {p : PendingTransition} {e : LoopState} {c : LoopCause}, s.loop.pendingTransition = some p →
      g = p.frame ∨ newer g p.frame = true → e ≠ .hold →
      (p.target = .opened ∧ e = .opened ∧ c = .scheduledOpen ∨
        p.target = .closed ∧ e = .closed ∧ c = .scheduledClose) → (testScheduled g s).loop.state ≠ .hold := by
    intro p e c hp hdue he htarget
    rw [testScheduled_due hp hdue htarget]
    split
    · exact h
    · rw [clearRuns_changeLoop_loop]
      exact he
  by_cases hwaits : ∀ p, s.loop.pendingTransition = some p → ¬ (g = p.frame ∨ newer g p.frame = true)
  · rw [testScheduled_waits hwaits]
    exact h
  · push Not at hwaits
    obtain ⟨p, hp, hframe⟩ := hwaits
    cases htarget : p.target with
    | opened => exact hdue (e := .opened) hp hframe nofun (.inl ⟨htarget, rfl, rfl⟩)
    | closed => exact hdue (e := .closed) hp hframe nofun (.inr ⟨htarget, rfl, rfl⟩)

/-! #### The HOLD path (R123) -/

/-- R47, R123: in t the stage's work on slot k of s has ended, with the engine IDLE and nothing held. -/
structure WorkEnded (k : Nat) (s t : State) : Prop where
  freed : slotFreed k s t
  drive : sameDrive s t
  table : t.table = s.table
  hold : t.hold = []
  engine : t.engine = s.engine
  banks : t.banks = s.banks
  stage : t.stage = { s.stage with phase := .idle }
  fifo : t.telem.fifo = s.telem.fifo

theorem freeSlot_banks (hbank : (s.bank (s.slot k).bank).state ≠ .retiring) : (freeSlot k s).banks = s.banks := by
  unfold freeSlot
  split
  · rfl
  · have hkept : ∀ u : State, u.banks = s.banks → releaseBank (s.slot k).bank u = u := fun u hu =>
      if_neg fun h => hbank (by rw [State.bank, ← hu]; exact h.1)
    dsimp only
    rw [hkept _ (by simp [State.setImage])]
    simp [State.setImage]

theorem endStage_ended (hk : k < 2) (hbusy : (s.slot k).state ≠ .free) (hidle : s.engine.work = .idle)
    (hbank : (s.bank (s.slot k).bank).state ≠ .retiring) (hhold : s.hold = []) (hsettled : s.linksSettled) :
    WorkEnded k s (endStage k s) := by
  obtain ⟨htable, hempty, hlinks⟩ := applyHold_settled s hhold hsettled
  generalize hu : ({ applyHold s with stage := { (applyHold s).stage with phase := .idle } } : State) = u
  have hended : endStage k s = freeSlot k u := by rw [← hu, endStage]
  have hslots : u.slots = s.slots := by simp [← hu]
  have hslot : ∀ m, u.slot m = s.slot m := fun m => by rw [State.slot, hslots, ← State.slot]
  have hwork : u.engine.work = .idle := by simpa [← hu] using hidle
  have hbusy' : (u.slot k).state ≠ .free := by rw [hslot]; exact hbusy
  have hbanks : u.banks = s.banks := by simp [← hu]
  have hreceivers : u.receivers = s.receivers := by simp [← hu]
  rw [hended]
  constructor
  case freed =>
    exact (freeSlot_slotFreed hk hbusy').since (by simp [← hu]) (hslot _) (by simp [← hu]) fun n => by
      rw [State.receiver, hreceivers, ← State.receiver]
  case drive =>
    refine ⟨fun l => ?_, ?_⟩
    · rw [← hlinks l, ← hu]
      simp [State.driveLink]
    · simp [← hu, applyHold]
  case table => simpa [← hu] using htable
  case hold => simpa [← hu] using hempty
  case engine =>
    rw [freeSlot_engine_other (by simp [hwork]) (by simp [hwork])]
    simp [← hu]
  case banks =>
    rw [freeSlot_banks (by rw [hslot, State.bank, hbanks]; exact hbank), hbanks]
  case stage => simp [← hu]
  case fifo =>
    rw [freeSlot_telem hbusy']
    simp [← hu]

/-- R123: in t the frame whose pass ended in s has ended HELD. -/
structure PassHeld (k : Nat) (s t : State) : Prop where
  variant : t.variant = s.variant
  freed : slotFreed k s t
  drive : sameDrive s t
  table : t.table = s.table
  hold : t.hold = []
  engine : t.engine = { s.engine with work := .idle, passesDone := s.engine.passesDone + 1 }
  banks : t.banks = s.banks
  store : t.store = s.store
  lastClosed : t.lastClosed = s.lastClosed
  stage : t.stage = { s.stage with held := s.stage.held + 1 }
  loop : t.loop = s.loop
  fifo : t.telem.fifo =
    (offer (slotRecord .held .hold { s.slot k with peak := some (peakOf (passResiduals k s)) }) none s).telem.fifo

theorem holdPath_held (hk : k < 2) (hphase : s.stage.phase = .idle) (hhold : s.hold = []) (hsettled : s.linksSettled)
    (hbank : (s.bank (s.slot k).bank).state ≠ .retiring) : PassHeld k s (holdPath k (commanded k s)) := by
  have hfinished := commanded_finished (s := s) hk
  unfold holdPath
  extract_lets c
  generalize hu : ({ c with stage := { c.stage with held := c.stage.held + 1 } } : State) = u
  have hslots : u.slots = (commanded k s).slots := by simp [← hu, c]
  have hslot : ∀ m, u.slot m = (commanded k s).slot m := fun m => by rw [State.slot, hslots, ← State.slot]
  have hself : u.slot k = { residualSlot k s with state := .command } := (hslot k).trans hfinished.slot
  have hbanks : u.banks = s.banks := by simp [← hu, c, hfinished.banks]
  have hengine : u.engine = { s.engine with work := .idle, passesDone := s.engine.passesDone + 1 } := by
    simp [← hu, c, hfinished.engine]
  have hreceivers : u.receivers = s.receivers := by simp [← hu, c, hfinished.receivers]
  have hvariant : u.variant = s.variant := by simp [← hu, c, commanded]
  have hdrive : u.drive = s.drive := by simp [← hu, c, commanded]
  have htable : u.table = s.table := by simp [← hu, c, commanded]
  have hlinks : u.linksSettled := by
    unfold State.linksSettled State.driveLink State.restState State.hasDriveLink
    rw [hdrive, htable, hvariant]
    exact hsettled
  have hended : WorkEnded k u (endStage k u) := by
    refine endStage_ended hk (by rw [hself]; exact nofun) (by rw [hengine]) ?_ ?_ hlinks
    · rw [hself, State.bank, hbanks]
      exact hbank
    · simpa [← hu, c, commanded] using hhold
  obtain ⟨hfreed, hsame, htable', hempty, hengine', hbanks', hstage, hfifo⟩ := hended
  constructor
  case freed =>
    exact hfreed.since hvariant ((hslot _).trans hfinished.other)
      (by simp [← hu, c, commanded]) fun n => by rw [State.receiver, hreceivers, ← State.receiver]
  case variant => simp [hvariant]
  case drive => simpa only [sameDrive, State.driveLink, hdrive, hvariant] using hsame
  case table => rw [htable', htable]
  case hold => exact hempty
  case engine => rw [hengine', hengine]
  case banks => rw [hbanks', hbanks]
  case store | lastClosed | loop => simp [← hu, c, commanded]
  case stage =>
    rw [hstage, ← hu]
    simp [c, commanded, ← hphase]
  case fifo =>
    rw [hfifo, ← hu]
    change (offer (slotRecord .held .hold ((commanded k s).slot k)) none (commanded k s)).telem.fifo = _
    rw [hfinished.slot]
    exact offer_none_fifo_congr rfl rfl rfl

theorem settle_holds (hk : k < 2) (hphase : s.stage.phase = .idle) (hloop : s.loop.state = .hold)
    (hnone : s.loop.pendingTransition = none) (hready : (s.slot (1 - k)).state ≠ .ready)
    (hcommand : (s.slot (1 - k)).state ≠ .command) (hfill : (s.slot (1 - k)).state ≠ .fill)
    (hhold : s.hold = []) (hsettled : s.linksSettled)
    (hqueues : ∀ n, s.hasSlopeLink n = true → (s.receiver n).queue = [])
    (hbank : (s.bank (s.slot k).bank).state ≠ .retiring) : PassHeld k s (settle (finishPass k s)) := by
  have hheld := holdPath_held hk hphase hhold hsettled hbank
  have hscheduled : testScheduled (s.slot k).frame (commanded k s) = commanded k s :=
    testScheduled_waits fun p hp => nomatch hnone.symm.trans hp
  have henters : enterCommand k (finishPass k s) = holdPath k (commanded k s) := by
    rw [enterCommand_finishPass hk, hscheduled, show (commanded k s).loop.state = .hold from hloop]
  rw [settle_finishPass hk hphase (by rw [hloop]; rfl) hready hcommand, henters]
  generalize holdPath k (commanded k s) = t at hheld
  obtain ⟨hself, hother, hreceivers, -, -⟩ := hheld.freed
  have hfree : ∀ x : SlotState, x ≠ .free → (s.slot (1 - k)).state ≠ x → ∀ m, m < 2 → (t.slot m).state ≠ x :=
    fun x hx hne => each_slot (p := fun m => (t.slot m).state ≠ x) hk (by rw [hself]; exact hx.symm)
      (by rw [hother]; exact hne)
  rw [enterCommands_none _ _ (readyCandidate_none (hfree .ready nofun hready)),
    arbiter_nothing _ (fillCandidate_none (hfree .fill nofun hfill)) ?_]
  · exact hheld
  · refine linkCandidate_empty fun n hn => ?_
    have hlink : s.hasSlopeLink n = true := by rwa [State.hasSlopeLink, hheld.variant] at hn
    rw [hreceivers n hlink]
    exact hqueues n hlink

/-! #### The obligation -/

theorem residualsDone_finishes {w : FillWork} (hawake : s.resetLow = false) (hw : s.engine.work = .fill w)
    (hnext : s.fillNext w = none) : exec .residualsDone s = .next (settle (finishPass w.slot s)) := by
  change execResidualsDone s = _
  rw [execResidualsDone, awake, if_neg (by simp [hawake])]
  simp only [hw, hnext]

/-- Settles O28: the pass leaves its residuals, and what `settle` then does is the stage's choice: nothing with a busy
stage, the frame's begin in OPEN and CLOSED, after a due transition, and its end in HOLD. -/
theorem residualsReplaceAccumulators : Obligations.ResidualsReplaceAccumulators := by
  intro s w hawake hw hnext hk hfill hlink k g b rs finished due poke work begins ended
  have hrs : passResiduals k s = rs := passResiduals_eq k s
  have hfinished : ∀ {t : State} {x : SlotState}, PassFinished k x s t → ended t ∧ finished t x := fun {t x} h =>
    ⟨⟨h.engine, h.store, h.lastClosed⟩, fun a => by rw [h.acc, hrs], by rw [h.slot, residualSlot, hrs], h.other,
      h.banks, h.receivers⟩
  have hbegins : ∀ e, ({ s.stage with phase := .building (stageWork k e s) } : Stage) = begins e := fun e => by
    rw [stageWork, readPoke_eq]
  refine ⟨_, residualsDone_finishes hawake hw hnext, fun hbusy => ?_, fun hidle hready hcommand => ⟨fun hloop => ?_,
    fun hloop hnone hhold hsettled hqueues hbank => ?_⟩⟩
  · have hpass := finishPass_finished (s := s) hk
    rw [settle, enterCommands_stage _ (finishPass k s) hbusy, hpass.arbiter hk nofun hfill hlink]
    exact ⟨(hfinished hpass).1, (hfinished hpass).2, rfl, rfl⟩
  · have hrun : s.loop.state.running = true := by rcases hloop with h | h <;> rw [h] <;> rfl
    have hbegun : FrameBegun k s (settle (finishPass k s)) :=
      settle_begins hk hidle hrun hready hcommand hfill hlink
        (testScheduled_tracks (s := commanded k s) (by rcases hloop with h | h <;> exact ne_of_eq_of_ne h nofun))
    obtain ⟨hended, hslot⟩ := hfinished hbegun.finished
    refine ⟨hended, fun hwaits => ?_, fun p e c hp hdue htarget => ?_⟩
    · have hkeeps : testScheduled g (commanded k s) = commanded k s := testScheduled_waits hwaits
      exact ⟨hslot, by rw [hbegun.stage, hkeeps]; exact hbegins _, by rw [hbegun.loop, hkeeps]; rfl⟩
    · have htaken := testScheduled_due (s := commanded k s) hp hdue htarget
      by_cases he : e = s.loop.state
      · have hkept := htaken.trans (if_pos he)
        refine ⟨hslot, ?_, fun _ => by rw [hbegun.loop, hkept]; rfl, fun hne => absurd he hne⟩
        rw [hbegun.stage, hkept, he]
        exact hbegins _
      · have hentered := htaken.trans (if_neg he)
        refine ⟨hslot, ?_, fun heq => absurd heq he, fun _ => ⟨?_, ?_⟩⟩
        · rw [hbegun.stage, hentered, clearRuns_changeLoop_loop]
          exact hbegins _
        · rw [hbegun.loop, hentered, clearRuns_changeLoop_loop]
          rfl
        · rw [hbegun.telem, hentered]
          exact clearRuns_changeLoop_fifo e c (some g) rfl rfl
  · obtain ⟨-, hfreed, hdrive, htable, hhold', hengine, hbanks, hstore, hlast, hstage, hloop', hfifo⟩ :=
      settle_holds hk hidle hloop hnone hready hcommand hfill hhold hsettled hqueues hbank
    rw [← hrs]
    exact ⟨⟨hengine, hstore, hlast⟩, hfreed, hstage, hloop', htable, hhold', hdrive, hbanks, hfifo⟩

end
end Sys2Proof.Machine

namespace Sys2Proof.Machine

/-! ### The sum of a frame's columns (O25) -/

/-- R59: what a list of columns adds to row a, each column given by its value and its coefficients. -/
def rowProducts (xs : List (Int × List Int)) (a : Nat) : Int := (xs.map fun x => x.2.getD a 0 * x.1).sum

/-- R59: adding columns one after the other adds the sum of their products, row by row. -/
theorem get_accumulateColumns (xs : List (Int × List Int)) (acc : Table Int) (a : Nat) :
    Table.get zeroes (xs.foldl (fun t x => accumulate t x.1 0 x.2) acc) a =
      Table.get zeroes acc a + rowProducts xs a := by
  induction xs generalizing acc with
  | nil => simp [rowProducts]
  | cons x xs ih =>
    rw [List.foldl_cons, ih, get_accumulate]
    simp [rowProducts, add_assoc]

theorem rowProducts_perm {xs ys : List (Int × List Int)} (h : xs.Perm ys) (a : Nat) :
    rowProducts xs a = rowProducts ys a :=
  (h.map _).sum_eq

/-- A row the column does not reach has coefficient 0, which the bound holds for too. -/
theorem coefficient_natAbs_le {ms : List Int} {c : Nat} (h : ∀ m ∈ ms, m.natAbs ≤ c) (a : Nat) :
    (ms.getD a 0).natAbs ≤ c := by
  by_cases ha : a < ms.length
  · rw [List.getD_eq_getElem _ _ ha]
    exact h _ (List.getElem_mem ha)
  · rw [List.getD_eq_default _ _ (not_lt.mp ha)]
    exact Nat.zero_le c

/-- R59: the width of a row's sum grows with the count of columns alone. -/
theorem rowProducts_natAbs_le {v c : Nat} {xs : List (Int × List Int)}
    (h : ∀ x ∈ xs, x.1.natAbs ≤ v ∧ ∀ m ∈ x.2, m.natAbs ≤ c) (a : Nat) :
    (rowProducts xs a).natAbs ≤ xs.length * (c * v) := by
  induction xs with
  | nil => simp [rowProducts]
  | cons x xs ih =>
    obtain ⟨⟨hv, hc⟩, hrest⟩ := List.forall_mem_cons.mp h
    calc (rowProducts (x :: xs) a).natAbs
        ≤ (x.2.getD a 0 * x.1).natAbs + (rowProducts xs a).natAbs := by
          simpa [rowProducts] using Int.natAbs_add_le _ _
      _ ≤ c * v + xs.length * (c * v) := by
          rw [Int.natAbs_mul]
          exact Nat.add_le_add (Nat.mul_le_mul (coefficient_natAbs_le hc a) hv) (ih hrest)
      _ = (x :: xs).length * (c * v) := by rw [List.length_cons]; ring

/-- Settles O25: each row of the accumulators is a sum of products over the columns added. -/
theorem accumulationIsExact : Obligations.AccumulationIsExact := by
  unfold Obligations.AccumulationIsExact
  simp only [get_accumulateColumns]
  refine ⟨fun v ms acc a => by simp [get_accumulate], fun xs ys acc h a => ?_, fun xs hlen hx a => ?_⟩
  · rw [rowProducts_perm h]
  · calc (Table.get zeroes [] a + rowProducts xs a).natAbs
        = (rowProducts xs a).natAbs := congrArg Int.natAbs (zero_add _)
      _ ≤ xs.length * (32768 * 32767) := rowProducts_natAbs_le hx a
      _ ≤ 8192 * (32768 * 32767) := Nat.mul_le_mul_right _ hlen
      _ = 8795824586752 := rfl

end Sys2Proof.Machine

namespace Sys2Proof.Machine

section
variable {rs : List Int} {p : Nat × Nat}

/-! ### The peak residual (O29) -/

/-- R64: p is the largest magnitude of rs with the lowest row that has it; (0, 0) where there is no row. -/
structure IsPeak (rs : List Int) (p : Nat × Nat) : Prop where
  largest : ∀ r ∈ rs, r.natAbs ≤ p.1
  attained : rs = [] ∧ p = (0, 0) ∨ ∃ r, rs[p.2]? = some r ∧ r.natAbs = p.1
  lowest : ∀ i r, i < p.2 → rs[i]? = some r → r.natAbs < p.1

theorem IsPeak.nil : IsPeak [] (0, 0) := ⟨nofun, .inl ⟨rfl, rfl⟩, nofun⟩

theorem IsPeak.row_le_length (h : IsPeak rs p) : p.2 ≤ rs.length := by
  obtain ⟨-, rfl⟩ | ⟨r, hr, -⟩ := h.attained
  · exact Nat.zero_le _
  · exact (List.getElem?_eq_some_iff.mp hr).1.le

/-- A strictly larger residual is the new peak at its own row. -/
theorem IsPeak.concat_larger {r : Int} (h : IsPeak rs p) (hr : p.1 < r.natAbs) :
    IsPeak (rs ++ [r]) (r.natAbs, rs.length) where
  largest x hx := by
    obtain hx | rfl := by simpa using hx
    · exact (h.largest x hx).trans hr.le
    · exact le_rfl
  attained := .inr ⟨r, by simp, rfl⟩
  lowest i x hi hx := by
    rw [List.getElem?_append_left hi] at hx
    exact (h.largest x (List.mem_of_getElem? hx)).trans_lt hr

/-- A residual that is not larger leaves the peak at its lower row; where there was no row, it is 0 itself. -/
theorem IsPeak.concat_notLarger {r : Int} (h : IsPeak rs p) (hr : r.natAbs ≤ p.1) : IsPeak (rs ++ [r]) p where
  largest x hx := by
    obtain hx | rfl := by simpa using hx
    · exact h.largest x hx
    · exact hr
  attained := by
    obtain ⟨rfl, rfl⟩ | ⟨x, hx, heq⟩ := h.attained
    · exact .inr ⟨r, rfl, Nat.le_zero.mp hr⟩
    · exact .inr ⟨x, by rw [List.getElem?_append_left (List.getElem?_eq_some_iff.mp hx).1, hx], heq⟩
  lowest i x hi hx := by
    rw [List.getElem?_append_left (hi.trans_le h.row_le_length)] at hx
    exact h.lowest i x hi hx

/-- The scan keeps the peak of the rows it has seen. -/
theorem IsPeak.scan (h : IsPeak rs p) (rest : List Int) : IsPeak (rs ++ rest) (peakFrom p rs.length rest) := by
  induction rest generalizing rs p with
  | nil => simpa [peakFrom] using h
  | cons r rest ih =>
    have hnext : IsPeak (rs ++ [r]) (if p.1 < r.natAbs then (r.natAbs, rs.length) else p) := by
      split
      next hr => exact h.concat_larger hr
      next hr => exact h.concat_notLarger (not_lt.mp hr)
    simpa [peakFrom] using ih hnext

theorem peakOf_isPeak (rs : List Int) : IsPeak rs (peakOf rs) := IsPeak.nil.scan rs

end

/-- Settles O29: the scan from the empty list ends at the peak. -/
theorem peakIsLargestMagnitude : Obligations.PeakIsLargestMagnitude := fun rs =>
  have h := peakOf_isPeak rs
  ⟨h.largest, fun hne => h.attained.resolve_left fun hnil => hne hnil.1, h.lowest⟩

end Sys2Proof.Machine

namespace Sys2Proof.Machine

section
set_option Elab.async false

/-! ### Loads that open, close and are abandoned (O44, O46) -/

/-- R191: an addressed request that its block refuses, with the state that the block leaves. -/
theorem request_refused_after {env : Envelope} {code : Nat} {s t : State} {body : State → Verdict} {status : Status}
    {position : Nat} {detail : Detail} {value : Option Int} {owner : Option Nat} (h : reaches env s)
    (hv : body (takeFrame env s) = .refused status position detail value owner t) :
    request env code body s =
      .next (replyWith env status false [] (enterFault env code status position detail value owner t)) := by
  obtain ⟨-, -, hbroadcast, -⟩ := id h
  rw [request_reaches env code body s h, hv, conclude, reportRefusal_addressed _ _ _ _ hbroadcast]

/-! #### What the loader's checks answer -/

section
variable {env : Envelope} {s : State} {b : Nat} (hfit : env.payloadFits = true)
include hfit

/-- R70 checks 1 to 4: LOAD_OPEN with arguments in range, of a bank that is not in use, is the loader's matter. -/
theorem loadOpenBody_available {rows columns shift block : Nat} (hbank : b ≤ 1) (hrows : 1 ≤ rows)
    (hrows' : rows ≤ Config.actuators s.variant) (hcolumns : 1 ≤ columns)
    (hcolumns' : columns ≤ Config.columns s.variant) (hshift : shift ≤ 31) (hblock : 16 ≤ block)
    (hblock' : block ≤ 512) (huse : (s.bank b).state.inUse = false) :
    loadOpenBody env b rows columns shift block s =
      loadOpenTest b rows columns shift block env.master s := by
  rw [loadOpenBody, whenFits_true _ _ _ hfit, if_neg (by omega), if_neg (by omega), if_neg (by omega),
    if_neg (by omega), if_neg (by omega), if_neg (by omega), if_neg (by omega), if_neg (by simp [huse])]

theorem bankClearBody_replaceable (hbank : b ≤ 1) (hstate : (s.bank b).state.replaceable = true) :
    bankClearBody env b s = .done (s.setBank b (Bank.reset b)) := by
  rw [bankClearBody, whenFits_true _ _ _ hfit, if_neg (by omega), if_pos hstate]

theorem bankClearBody_held (hbank : b ≤ 1) (hstate : (s.bank b).state.replaceable = false) :
    bankClearBody env b s = refuse .wrongState 0 s := by
  rw [bankClearBody, whenFits_true _ _ _ hfit, if_neg (by omega), if_neg (by simp [hstate])]

theorem bankClearBody_beyond (hbank : 1 < b) : bankClearBody env b s = refuse .badArgument 1 s := by
  rw [bankClearBody, whenFits_true _ _ _ hfit, if_pos hbank]

theorem loadAbortBody_owner
    (hload : s.loader.state = .loading b env.master ∨ s.loader.state = .verifying b env.master) :
    loadAbortBody env s = .done (abortLoad b s) := by
  rw [loadAbortBody, whenFits_true _ _ _ hfit]
  obtain hload | hload := hload <;> simp [hload]

/-- R83: the owner recorded in a LOADED bank reopens it. -/
theorem blockReopenBody_loaded {block : Nat} (hbank : b ≤ 1) (hblock : block < (s.bank b).blockCount)
    (hstate : (s.bank b).state = .loaded) (hidle : s.loader.state = .idle)
    (howner : (s.bank b).recordedOwner = some env.master) :
    blockReopenBody env b block s = .done (reopenLoaded b block env.master s) := by
  rw [blockReopenBody, whenFits_true _ _ _ hfit, if_neg (by omega)]
  simp [hstate, hidle, howner, Nat.not_le.mpr hblock]

/-- R83: the owner of a reopened load reopens a further block. -/
theorem blockReopenBody_reopened {block : Nat} (hbank : b ≤ 1) (hblock : block < (s.bank b).blockCount)
    (hstate : (s.bank b).state = .loading) (hload : s.loader.state = .loading b env.master)
    (hreopened : s.loader.reopened = true) :
    blockReopenBody env b block s = .done (markReopened (uncommitBlock b block s)) := by
  rw [blockReopenBody, whenFits_true _ _ _ hfit, if_neg (by omega)]
  simp [hstate, hload, hreopened, LoaderState.owner, Nat.not_le.mpr hblock]

end

/-- R69: the owner in LOADING gets the act that the request asks for. -/
theorem whenLoading_owner {env : Envelope} {s : State} {b : Nat} {act : Nat → Nat → Verdict}
    (hload : s.loader.state = .loading b env.master) : whenLoading env s act = act b env.master := by
  rw [whenLoading, hload]
  exact if_pos rfl

section
variable {s : State} {b rows columns shift block master : Nat}

theorem loadOpenTest_idle (hload : s.loader.state = .idle) (hstate : (s.bank b).state.replaceable = true) :
    loadOpenTest b rows columns shift block master s = .done (openLoad b rows columns shift block master s) := by
  simp [loadOpenTest, hload, hstate]

/-- R71: the owner of the load of the bank starts it again. -/
theorem loadOpenTest_restart (hload : s.loader.state = .loading b master) :
    loadOpenTest b rows columns shift block master s = .done (openLoad b rows columns shift block master s) := by
  simp [loadOpenTest, hload]

section
variable {old owner : Nat} (hload : s.loader.state = .loading old owner) (hother : old ≠ b ∨ owner ≠ master)
include hload hother

/-- R72: another load is taken over once it has been idle for too long. -/
theorem loadOpenTest_takeover (hidle : loadIsIdle s = true) : loadOpenTest b rows columns shift block master s =
    .done (openLoad b rows columns shift block master (emptyOldLoad old s)) := by
  simp only [loadOpenTest, hload]
  rw [if_neg (by omega), if_pos hidle]

theorem loadOpenTest_busy (hidle : loadIsIdle s = false) : loadOpenTest b rows columns shift block master s =
    refuseOwner .busy 0 (some owner) s := by
  simp only [loadOpenTest, hload]
  rw [if_neg (by omega), if_neg (by simp [hidle])]

end

theorem loadOpenTest_verifying {old owner : Nat} (hload : s.loader.state = .verifying old owner) :
    loadOpenTest b rows columns shift block master s = refuseOwner .busy 0 (some owner) s := by
  simp [loadOpenTest, hload]

end

theorem loadIsIdle_iff (s : State) : loadIsIdle s = true ↔
    1000 * s.port.features.loadIdleLimit < s.now - s.loader.lastActivity := by
  simp [loadIsIdle, Nat.mul_comm]

theorem replaceable_iff (x : BankState) : x.replaceable = true ↔ x = .empty ∨ x = .loaded ∨ x = .ready := by
  cases x <;> simp [BankState.replaceable]

/-- R75: an empty buffer is not flushed. -/
theorem flushBuffer_empty {b : Nat} {name : BufferName} {s : State} (h : s.loader.buffer name = none) :
    flushBuffer b name s = s := by
  rw [flushBuffer, h]

theorem flushBoth_empty {b : Nat} {s : State} (ha : s.loader.bufferA = none) (hb : s.loader.bufferB = none) :
    flushBoth b s = s := by
  rw [flushBoth, flushBuffer_empty (name := .a) ha, flushBuffer_empty (name := .b) hb]

theorem lowestUncommitted_eq_none {r : Bank} (h : ∀ j, j < r.columnCount → j ∈ r.committed) :
    r.lowestUncommitted = none := by
  simpa [Bank.lowestUncommitted, NatSet.lowestMissing] using h

theorem lowestUncommitted_eq_some {r : Bank} {j : Nat} (hj : j < r.columnCount) (hout : j ∉ r.committed)
    (hbelow : ∀ i, i < j → i ∈ r.committed) : r.lowestUncommitted = some j := by
  simpa [Bank.lowestUncommitted, NatSet.lowestMissing, List.find?_range_eq_some, hj, hout] using hbelow

section
variable {env : Envelope} {s : State} {b : Nat} (hfit : env.payloadFits = true)
  (hload : s.loader.state = .loading b env.master) (ha : s.loader.bufferA = none) (hb : s.loader.bufferB = none)
include hfit hload ha hb

/-- R77: the verify pass begins once every column is committed. -/
theorem loadCloseBody_complete (hall : (s.bank b).lowestUncommitted = none) (expected : BitVec 32) :
    loadCloseBody env expected s = .accepted (beginVerify b env.master expected (touchLoader s)) := by
  have hbank : ((touchLoader s).bank b).lowestUncommitted = none := hall
  rw [loadCloseBody, whenFits_true _ _ _ hfit, whenLoading_owner hload]
  simp only [flushBoth_empty ha hb, hbank]

theorem loadCloseBody_incomplete {j : Nat} (hlowest : (s.bank b).lowestUncommitted = some j)
    (expected : BitVec 32) : loadCloseBody env expected s = refuseValue .incomplete 0 j (touchLoader s) := by
  have hbank : ((touchLoader s).bank b).lowestUncommitted = some j := hlowest
  rw [loadCloseBody, whenFits_true _ _ _ hfit, whenLoading_owner hload]
  simp only [flushBoth_empty ha hb, hbank]

end

/-! #### The obligations -/

theorem reopenLoaded_eq (b block owner : Nat) (s : State) : reopenLoaded b block owner s =
    { s.modifyBank b (fun r => { r with
        committed := r.committed.filter (fun j =>
          !(decide (block * r.blockSize ≤ j) && decide (j < (block + 1) * r.blockSize))),
        state := .loading, recordedOwner := none }) with
      loader := { s.loader with
        state := .loading b owner, bufferA := none, bufferB := none, reopened := true, lastActivity := s.now } } := by
  rw [reopenLoaded, uncommitBlock, State.modifyBank_modifyBank]
  rfl

/-- R83: a reopened load stays reopened. -/
theorem markReopened_eq {s : State} (h : s.loader.reopened = true) :
    markReopened s = { s with loader := { s.loader with lastActivity := s.now } } := by
  rw [markReopened, touchLoader, ← h]

/-- Settles O46: each request is answered with the verdict of its block, whose effect is the stated one. -/
theorem loadIsAbandonedReopenedOrCleared : Obligations.LoadIsAbandonedReopenedOrCleared := by
  intro env s harrives
  obtain ⟨hreaches, hfit⟩ := id harrives
  refine ⟨fun b hload => ?_, fun b hb => ⟨fun hfree => ?_, fun hempty hloaded hready => ?_⟩, fun b hb => ?_,
    fun b block hb hblock => ⟨fun hstate hidle howner => ?_, fun hstate hload hreopened => ?_⟩⟩
  · exact request_of_verdict harrives 0x13 (loadAbortBody_owner hfit hload)
  · exact request_of_verdict harrives 0x15 (bankClearBody_replaceable hfit hb ((replaceable_iff _).mpr hfree))
  · refine request_refused hreaches (bankClearBody_held hfit hb (Bool.eq_false_iff.mpr fun hfree => ?_))
    obtain h | h | h := (replaceable_iff _).mp hfree
    exacts [hempty h, hloaded h, hready h]
  · exact request_refused hreaches (bankClearBody_beyond hfit hb)
  · refine (request_of_verdict harrives 0x14 (blockReopenBody_loaded hfit hb hblock hstate hidle howner)).trans ?_
    rw [reopenLoaded_eq]
    rfl
  · refine (request_of_verdict harrives 0x14
      (blockReopenBody_reopened hfit hb hblock hstate hload hreopened)).trans ?_
    rw [markReopened_eq (by simpa using hreopened)]
    rfl

/-- Settles O44: the loader's test of LOAD_OPEN by the loader's state, and the lowest column that LOAD_CLOSE finds
uncommitted. -/
theorem loadOpensAndCloses : Obligations.LoadOpensAndCloses := by
  intro env s harrives
  obtain ⟨hreaches, hfit⟩ := id harrives
  refine ⟨?_, fun b expected hload ha hb hall => ?_, fun b expected j hload ha hb hj hout hbelow => ?_⟩
  · intro bank rows columns shift block hbank hrows hrows' hcolumns hcolumns' hshift hblock hblock' opened answer
      busy unused
    have hbody : (s.bank bank).state.inUse = false →
        loadOpenBody env bank rows columns shift block (takeFrame env s) =
          loadOpenTest bank rows columns shift block env.master (takeFrame env s) :=
      loadOpenBody_available (s := takeFrame env s) hfit hbank hrows hrows' hcolumns hcolumns' hshift hblock hblock'
    have hunused : unused → (s.bank bank).state.inUse = false := by
      rintro (h | h | h) <;> rw [h] <;> rfl
    have hload_unused : ∀ {old : Nat} {x : BankState}, x.inUse = false →
        unused ∨ (old = bank ∧ (s.bank bank).state = x) → (s.bank bank).state.inUse = false :=
      fun hx h => h.elim hunused fun ⟨_, hstate⟩ => hstate ▸ hx
    refine ⟨fun hidle hfree => ?_, fun hload hstate => ?_, fun old owner hload hother hfree => ⟨fun hlate => ?_,
      fun hsoon => ?_⟩, fun old owner hload hfree => ?_⟩
    · exact request_of_verdict harrives 0x0F ((hbody (hunused hfree)).trans
        (loadOpenTest_idle hidle ((replaceable_iff _).mpr hfree)))
    · exact request_of_verdict harrives 0x0F ((hbody (by rw [hstate]; rfl)).trans (loadOpenTest_restart hload))
    · exact request_of_verdict harrives 0x0F ((hbody (hload_unused rfl hfree)).trans
        (loadOpenTest_takeover hload hother ((loadIsIdle_iff _).mpr hlate)))
    · refine request_refused hreaches ((hbody (hload_unused rfl hfree)).trans (loadOpenTest_busy hload hother ?_))
      exact Bool.eq_false_iff.mpr fun hidle => absurd ((loadIsIdle_iff _).mp hidle) (Nat.not_lt.mpr hsoon)
    · exact request_refused hreaches ((hbody (hload_unused rfl hfree)).trans (loadOpenTest_verifying hload))
  · exact request_of_verdict harrives 0x12 (loadCloseBody_complete (s := takeFrame env s) hfit hload ha hb
      (lowestUncommitted_eq_none hall) expected)
  · exact request_refused_after hreaches (loadCloseBody_incomplete (s := takeFrame env s) hfit hload ha hb
      (lowestUncommitted_eq_some hj hout hbelow) expected)

end
end Sys2Proof.Machine

namespace Sys2Proof.Machine

section
set_option Elab.async false
variable {s : State} {b owner : Nat}

/-! ### The verify pass (O47, O48) -/

theorem exec_verifyColumnRead {bad : Bool} (hawake : s.resetLow = false)
    (hload : s.loader.state = .verifying b owner) :
    exec (.verifyColumnRead bad) s = .next (verifyColumn b owner bad s) := by
  simp [exec, execVerifyColumnRead, awake, hawake, hload]

/-- R80: an uncorrectable read fails the pass at its column. -/
theorem verifyColumn_bad (hleft : (s.bank b).verified < (s.bank b).columnCount) :
    verifyColumn b owner true s = failVerify b owner (s.bank b).verified s := by
  simp [verifyColumn, Nat.not_le.mpr hleft]

theorem verifyColumn_middle (hleft : (s.bank b).verified + 1 < (s.bank b).columnCount) :
    verifyColumn b owner false s = readColumn b (s.bank b).verified s := by
  simp [verifyColumn, show ¬ (s.bank b).columnCount ≤ (s.bank b).verified by omega, hleft.ne]

theorem verifyColumn_last (hleft : (s.bank b).verified + 1 = (s.bank b).columnCount) :
    verifyColumn b owner false s = endVerify b owner (readColumn b (s.bank b).verified s) := by
  simp [verifyColumn, show ¬ (s.bank b).columnCount ≤ (s.bank b).verified by omega, hleft]

/-- R78: the block CRC register with column j. -/
def State.blockRegAfter (s : State) (b j : Nat) : BitVec 32 := crc32Feed s.loader.blockReg (columnBytes s b j)

/-- R78: the whole-bank CRC register with column j. -/
def State.wholeRegAfter (s : State) (b j : Nat) : BitVec 32 := crc32Feed s.loader.wholeReg (columnBytes s b j)

/-- R78: the column is not the last of its block. -/
theorem readColumn_inBlock {j : Nat} (hend : (s.bank b).endsBlock j = false) :
    readColumn b j s =
      { s.modifyBank b (fun r => { r with verified := r.verified + 1 }) with
        loader := { s.loader with wholeReg := s.wholeRegAfter b j, blockReg := s.blockRegAfter b j } } := by
  simp [readColumn, hend, State.wholeRegAfter, State.blockRegAfter]

/-- R78: the block's last column adds its CRC, and a new block begins. -/
theorem readColumn_endsBlock {j : Nat} (hend : (s.bank b).endsBlock j = true) :
    readColumn b j s =
      { s.modifyBank b (fun r =>
          { r with verified := r.verified + 1, blockCrcs := r.blockCrcs ++ [~~~ s.blockRegAfter b j] }) with
        loader := { s.loader with wholeReg := s.wholeRegAfter b j, blockReg := 0xFFFFFFFF#32 } } := by
  simp [readColumn, hend, State.wholeRegAfter, State.blockRegAfter, crc32Final, crc32Start]

theorem endsBlock_eq_false {r : Bank} {j : Nat} (hmod : (j + 1) % r.blockSize ≠ 0) (hlast : j + 1 ≠ r.columnCount) :
    r.endsBlock j = false := by
  simp [Bank.endsBlock, hmod, hlast]

theorem endsBlock_of_mod {r : Bank} {j : Nat} (hmod : (j + 1) % r.blockSize = 0) : r.endsBlock j = true := by
  simp [Bank.endsBlock, hmod]

theorem endsBlock_of_last {r : Bank} {j : Nat} (hlast : j + 1 = r.columnCount) : r.endsBlock j = true := by
  simp [Bank.endsBlock, hlast]

/-- R79: the descriptor of a bank whose pass read every column and found a whole-bank CRC. -/
def Bank.judged (r : Bank) (owner : Nat) (whole : BitVec 32) : Bank :=
  if r.expectedCrc = some whole then
    { r with wholeCrc := some whole, outcome := some .matched, recordedOwner := none, state := .ready }
  else
    { r with wholeCrc := some whole, outcome := some .mismatch, recordedOwner := some owner, state := .loaded }

theorem endVerify_bank (c : Nat) : (endVerify b owner s).bank c =
    if b = c then (s.bank b).judged owner (~~~ s.loader.wholeReg) else s.bank c :=
  Table.get_set ..

/-- R80: the descriptor of a bank whose pass failed at column j. -/
def Bank.failed (r : Bank) (owner j : Nat) : Bank :=
  { r with
    outcome := some .failed, failingColumn := some j, unverified := some (r.columnCount - j),
    errorCount := r.errorCount + 1, state := .loaded, recordedOwner := some owner }

theorem failVerify_bank (j c : Nat) : (failVerify b owner j s).bank c =
    if b = c then (s.bank b).failed owner j else s.bank c :=
  State.bank_modifyBank s b c (Bank.failed · owner j)

theorem readColumn_bank (j c : Nat) : (readColumn b j s).bank c =
    if b = c then { s.bank b with
      verified := (s.bank b).verified + 1,
      blockCrcs := if (s.bank b).endsBlock j then (s.bank b).blockCrcs ++ [~~~ s.blockRegAfter b j]
        else (s.bank b).blockCrcs }
    else s.bank c :=
  Table.get_set ..

theorem readColumn_wholeReg (j : Nat) : (readColumn b j s).loader.wholeReg = s.wholeRegAfter b j := rfl

/-- R79, R80: what the end of a pass leaves besides the bank's own descriptor. -/
structure VerifyEnds (s : State) (b : Nat) (t : State) : Prop where
  loader : t.loader = { s.loader with
    state := .idle, bufferA := none, bufferB := none, reopened := false,
    wholeReg := t.loader.wholeReg, blockReg := t.loader.blockReg }
  loadDone : t.hasCause .loadDone = true
  other : t.bank (1 - b) = s.bank (1 - b)
  dram : t.dram = s.dram

theorem failVerify_ends (hb : b < 2) (j : Nat) : VerifyEnds s b (failVerify b owner j s) where
  loader := rfl
  loadDone := raise_hasCause ..
  other := by rw [failVerify_bank, if_neg (by omega)]
  dram := rfl

/-- The loader after the pass ends; the CRC registers stand as they are. -/
theorem endVerify_loader : (endVerify b owner s).loader =
    { s.loader with state := .idle, bufferA := none, bufferB := none, reopened := false } := rfl

theorem readColumn_loader (j : Nat) : (readColumn b j s).loader = { s.loader with
    wholeReg := s.wholeRegAfter b j,
    blockReg := if (s.bank b).endsBlock j then crc32Start else s.blockRegAfter b j } := rfl

theorem endVerify_loadDone : (endVerify b owner s).hasCause .loadDone = true := raise_hasCause ..

theorem endVerify_ends (hb : b < 2) (j : Nat) : VerifyEnds s b (endVerify b owner (readColumn b j s)) where
  loader := by rw [endVerify_loader, readColumn_loader]
  loadDone := endVerify_loadDone
  other := by rw [endVerify_bank, if_neg (by omega), readColumn_bank, if_neg (by omega)]
  dram := by simp

/-- R79: the bank after the last column. -/
theorem verifyColumn_last_bank (hlast : (s.bank b).verified + 1 = (s.bank b).columnCount) :
    (verifyColumn b owner false s).bank b = { s.bank b with
      verified := (s.bank b).verified + 1,
      blockCrcs := (s.bank b).blockCrcs ++ [~~~ s.blockRegAfter b (s.bank b).verified] }.judged owner
        (~~~ s.wholeRegAfter b (s.bank b).verified) := by
  rw [verifyColumn_last hlast, endVerify_bank, if_pos rfl, readColumn_bank, if_pos rfl,
    if_pos (endsBlock_of_last hlast), readColumn_wholeReg]

/-- Settles O47, by where the next column stands: inside its block, at the block's end, at the bank's end. -/
theorem verifyReadsOneColumn : Obligations.VerifyReadsOneColumn := by
  intro s b owner hawake hload hleft j bytes whole blockReg done
  refine ⟨fun hmore hmod => ?_, fun hmore hmod => ?_, fun hb hlast => ?_, fun hb => ?_⟩
  · rw [exec_verifyColumnRead hawake hload, verifyColumn_middle hmore,
      readColumn_inBlock (endsBlock_eq_false hmod hmore.ne)]
    rfl
  · rw [exec_verifyColumnRead hawake hload, verifyColumn_middle hmore, readColumn_endsBlock (endsBlock_of_mod hmod)]
    rfl
  · have hbank := verifyColumn_last_bank (owner := owner) hlast
    obtain ⟨hloader, hcause, hother, hdram⟩ := verifyColumn_last hlast ▸ endVerify_ends (owner := owner) hb j
    refine ⟨_, exec_verifyColumnRead hawake hload, ⟨hloader, hcause, hother, hdram⟩, fun hmatch => ?_, fun hmiss => ?_⟩
    · exact hbank.trans (if_pos hmatch)
    · exact hbank.trans (if_neg hmiss)
  · refine ⟨_, exec_verifyColumnRead hawake hload, ?_⟩
    obtain ⟨hloader, hcause, hother, hdram⟩ := failVerify_ends (s := s) (owner := owner) hb j
    rw [verifyColumn_bad hleft]
    exact ⟨⟨hloader, hcause, hother, hdram⟩, (failVerify_bank j b).trans (if_pos rfl)⟩

/-! #### The whole pass -/

theorem columnBytes_congr {t : State} (hdram : t.dram = s.dram) (hrows : (t.bank b).rows = (s.bank b).rows) (j : Nat) :
    columnBytes t b j = columnBytes s b j := by
  rw [columnBytes, columnBytes, State.column, State.column, State.bankRows, State.bankRows, hdram, hrows]

theorem crc32Feed_append (r : BitVec 32) (xs ys : List Byte) :
    crc32Feed r (xs ++ ys) = crc32Feed (crc32Feed r xs) ys := List.foldl_append

/-- R78: the bytes of the columns from j on, `count` of them. -/
def columnsBytes (s : State) (b j count : Nat) : List Byte :=
  (List.range' j count).flatMap (columnBytes s b)

theorem judged_state (r : Bank) (owner : Nat) (whole : BitVec 32) :
    (r.judged owner whole).state = .ready ↔ r.expectedCrc = some whole := by
  unfold Bank.judged
  split <;> simp [*]

theorem judged_wholeCrc (r : Bank) (owner : Nat) (whole : BitVec 32) :
    (r.judged owner whole).wholeCrc = some whole := by
  unfold Bank.judged
  split <;> rfl

theorem judged_verified (r : Bank) (owner : Nat) (whole : BitVec 32) :
    (r.judged owner whole).verified = r.verified := by
  unfold Bank.judged
  split <;> rfl

/-- R79: the bank and the loader after a pass whose whole-bank CRC register ended with a value. -/
structure VerifiedWith (s : State) (b : Nat) (reg : BitVec 32) (t : State) : Prop where
  wholeCrc : (t.bank b).wholeCrc = some (~~~ reg)
  verified : (t.bank b).verified = (s.bank b).columnCount
  idle : t.loader.state = .idle
  ready_iff : (t.bank b).state = .ready ↔ (s.bank b).expectedCrc = some (~~~ reg)

theorem verifyColumn_last_verified (hlast : (s.bank b).verified + 1 = (s.bank b).columnCount) :
    VerifiedWith s b (s.wholeRegAfter b (s.bank b).verified) (verifyColumn b owner false s) where
  wholeCrc := by rw [verifyColumn_last_bank hlast, judged_wholeCrc]
  verified := by rw [verifyColumn_last_bank hlast, judged_verified, hlast]
  idle := by rw [verifyColumn_last hlast, endVerify_loader]
  ready_iff := by rw [verifyColumn_last_bank hlast, judged_state]

/-- A column that is read leaves the bank its sizes and the expected CRC. -/
theorem readColumn_bank_keeps (j : Nat) : ((readColumn b j s).bank b).verified = (s.bank b).verified + 1 ∧
    ((readColumn b j s).bank b).columnCount = (s.bank b).columnCount ∧
    ((readColumn b j s).bank b).rows = (s.bank b).rows ∧
    ((readColumn b j s).bank b).expectedCrc = (s.bank b).expectedCrc := by
  rw [readColumn_bank, if_pos rfl]
  exact ⟨rfl, rfl, rfl, rfl⟩

/-- R78, R79: the reads of the columns that are left feed them, in order, to the whole-bank register. -/
theorem runAll_verify (count : Nat) (hawake : s.resetLow = false) (hload : s.loader.state = .verifying b owner)
    (hleft : (s.bank b).verified + (count + 1) = (s.bank b).columnCount) :
    ∃ t, runAll (List.replicate (count + 1) (.verifyColumnRead false)) s = .next t ∧ VerifiedWith s b
      (crc32Feed s.loader.wholeReg (columnsBytes s b (s.bank b).verified (count + 1))) t := by
  induction count generalizing s with
  | zero =>
    refine ⟨verifyColumn b owner false s, by simp [runAll, exec_verifyColumnRead hawake hload], ?_⟩
    simpa [columnsBytes, State.wholeRegAfter] using verifyColumn_last_verified (owner := owner) hleft
  | succ count ih =>
    obtain ⟨hverified, hcolumns, hrows, hexpected⟩ := readColumn_bank_keeps (s := s) (b := b) (s.bank b).verified
    have hbytes : columnsBytes (readColumn b (s.bank b).verified s) b = columnsBytes s b := by
      funext j n
      exact congrArg (List.flatMap · _) (funext (columnBytes_congr (by simp) hrows))
    obtain ⟨t, hrun, hwhole, hread, hidle, hready⟩ :=
      ih (s := readColumn b (s.bank b).verified s) (by simpa using hawake) hload (by omega)
    have hreg : crc32Feed s.loader.wholeReg (columnsBytes s b (s.bank b).verified (count + 1 + 1)) =
        crc32Feed (s.wholeRegAfter b (s.bank b).verified) (columnsBytes s b ((s.bank b).verified + 1) (count + 1)) :=
      crc32Feed_append ..
    rw [readColumn_wholeReg, hbytes, hverified, ← hreg] at hwhole hready
    refine ⟨t, ?_, hwhole, hread.trans hcolumns, hidle, hready.trans (by rw [hexpected])⟩
    rw [List.replicate_succ, runAll, exec_verifyColumnRead hawake hload, verifyColumn_middle (by omega)]
    exact hrun

/-- Settles O48: the run of all the columns, begun with the register at its start. -/
theorem verifyPassReadsWholeBank : Obligations.VerifyPassReadsWholeBank := by
  intro s b owner hawake hload _ hverified hpos hreg bytes
  obtain ⟨count, hcount⟩ : ∃ count, (s.bank b).columnCount = count + 1 := Nat.exists_eq_add_one.mpr hpos
  obtain ⟨t, hrun, hwhole, hread, hidle, hready⟩ := runAll_verify (s := s) count hawake hload (by omega)
  have hbytes : columnsBytes s b (s.bank b).verified (count + 1) = bytes := by
    rw [columnsBytes, hverified, ← List.range_eq_range', ← hcount]
  rw [hbytes, hreg] at hwhole hready
  exact ⟨t, hcount ▸ hrun, hwhole, hread, hidle, hready⟩

end
end Sys2Proof.Machine

namespace Sys2Proof.Machine

section
set_option Elab.async false
variable {env : Envelope} {s : State} {b : Nat}

/-! ### Swaps that wait or take effect (O49) -/

/-! #### Requests that may be broadcast -/

/-- R190: a request that may be a broadcast reaches its block, addressed or broadcast. -/
theorem request_of_either {code : Nat} {body : State → Verdict} {v : Verdict} (hcode : mayBroadcast code = true)
    (hmaster : env.master ≠ 0) (hawake : s.resetLow = false)
    (haddress : env.broadcast = false → s.port.address ≠ Config.broadcastAddress)
    (hv : body (takeFrame env s) = v) : request env code body s = .next (conclude env code v) := by
  cases hbroadcast : env.broadcast <;>
    simp_all [request, awake, takeRequest, verdictOf]

/-- R190: a SWAP broadcast too late raises both causes. -/
theorem conclude_swapLate (hbroadcast : env.broadcast = true) (u : State) :
    conclude env 0x17 (refuse .tooLate 2 u) =
      raise .swapLate (raise .broadcastRefused (enterFault env 0x17 .tooLate 2 .none none none u)) := by
  simp [conclude, refuse, replyWith, reportRefusal, hbroadcast]

/-! #### SWAP -/

/-- R87, R88: a READY bank that fits, with no swap pending. -/
structure State.Swappable (s : State) (b : Nat) : Prop where
  bank : b < 2
  none : s.swapPending = false
  ready : (s.bank b).state = .ready
  rows : (s.bank b).rowCount = s.table.n
  columns : mapFits s.slopeMap (s.bank b).columnCount = true

theorem State.Swappable.taken (h : s.Swappable b) : (takeFrame env s).Swappable b :=
  ⟨h.bank, h.none, h.ready, h.rows, h.columns⟩

/-- R86: SWAP of a bank that may be swapped, by the loop's state and the frame. -/
theorem swapBody_swappable (hfit : env.payloadFits = true) (h : s.Swappable b) (hsafe : s.loop.state ≠ .safe)
    (atFrame : Option Frame) : swapBody env b atFrame s =
      if s.loop.state = .stopped then .done (swapNow b s)
      else if (atFrame.map (swapTooLate s)).getD false then refuse .tooLate 2 s
      else .done (swapLater b atFrame s) := by
  obtain ⟨hbank, hnone, hready, hrows, hcolumns⟩ := h
  rw [swapBody, whenFits_true _ _ _ hfit, if_neg (by omega), if_neg hsafe, if_neg (by simp [hnone]),
    if_neg (by simp [hready]), if_neg (by simp [hrows]), if_neg (by simp [hcolumns])]

/-- R88: a frame that is not newer than L, or than that of an OPEN slot. -/
theorem swapTooLate_iff (s : State) (f : Frame) : swapTooLate s f = true ↔
    (∃ g, s.lastClosed = some g ∧ newer f g = false) ∨
      ∃ k, k < 2 ∧ (s.slot k).state = .opened ∧ newer f (s.slot k).frame = false := by
  have hslots : ∀ p : Nat → Prop, (p 0 ∨ p 1) ↔ ∃ k, k < 2 ∧ p k := fun p => by
    constructor
    · rintro (h | h)
      exacts [⟨0, by omega, h⟩, ⟨1, by omega, h⟩]
    · rintro ⟨k, hk, h⟩
      obtain rfl | rfl : k = 0 ∨ k = 1 := by omega
      exacts [.inl h, .inr h]
  rw [← hslots fun k => (s.slot k).state = .opened ∧ newer f (s.slot k).frame = false]
  unfold swapTooLate
  cases s.lastClosed <;> simp

theorem activeBank_ne_of_ready (hready : (s.bank b).state = .ready) : s.activeBank ≠ some b := fun hactive => by
  rw [(activeBank_active hactive).2] at hready
  cases hready

/-- R87: the bank becomes ACTIVE at once, and the one that was becomes READY. -/
theorem swapNow_bank (hinactive : s.activeBank ≠ some b) (c : Nat) : (swapNow b s).bank c =
    if b = c then { s.bank b with state := .active, pendingFrame := none }
    else if s.activeBank = some c then { s.bank c with state := .ready } else s.bank c := by
  have hoffer : ∀ u : State, (offerSwap b none (raise .swapDone u)).bank c = u.bank c := fun u => by
    simp [State.bank]
  cases hold : s.activeBank with
  | none => simp [swapNow, hold, hoffer, activate_bank]
  | some o =>
    have hob : o ≠ b := fun h => hinactive (h ▸ hold)
    simp only [swapNow, hold, hoffer, activate_bank, State.bank_modifyBank, Option.some.injEq, if_neg hob]
    by_cases hoc : o = c
    · subst hoc
      rfl
    · rw [if_neg hoc, if_neg hoc]

/-- The banks once the SWAP is answered. -/
theorem swapNow_answered_bank (hready : (s.bank b).state = .ready) (c : Nat) :
    (replyWith env .ok false [] (swapNow b (takeFrame env s))).bank c =
      if b = c then { s.bank b with state := .active, pendingFrame := none }
      else if s.activeBank = some c then { s.bank c with state := .ready } else s.bank c :=
  Eq.trans (by simp [State.bank]) (swapNow_bank (s := takeFrame env s) (activeBank_ne_of_ready hready) c)

theorem swapNow_swapDone : (swapNow b s).hasCause .swapDone = true := offer_keeps_cause (raise_hasCause ..)

/-! #### SWAP_CANCEL -/

theorem cancelSwap_of_none (h : s.pendingBank = none) : cancelSwap s = s := by
  simp only [cancelSwap, h]

/-- R91. -/
theorem cancelSwap_of_some (h : s.pendingBank = some b) : cancelSwap s =
    raise .swapCancelled (s.modifyBank b (fun r => { r with state := .ready, pendingFrame := none })) := by
  simp only [cancelSwap, h]

/-! #### The requests as the port answers them -/

section
variable (hfit : env.payloadFits = true) (hmaster : env.master ≠ 0) (hawake : s.resetLow = false)
  (haddress : env.broadcast = false → s.port.address ≠ Config.broadcastAddress)
include hfit hmaster hawake haddress

theorem exec_swap_stopped (h : s.Swappable b) (hstop : s.loop.state = .stopped) (atFrame : Option Frame) :
    exec (.swap env b atFrame) s = .next (replyWith env .ok false [] (swapNow b (takeFrame env s))) := by
  refine request_of_either (v := .done (swapNow b (takeFrame env s))) rfl hmaster hawake haddress ?_
  exact (swapBody_swappable hfit h.taken (by simp [hstop]) atFrame).trans (if_pos hstop)

theorem exec_swap_running (h : s.Swappable b) (hrun : s.loop.state.running = true) (atFrame : Option Frame) :
    exec (.swap env b atFrame) s = .next (conclude env 0x17
      (if (atFrame.map (swapTooLate s)).getD false then refuse .tooLate 2 (takeFrame env s)
        else .done (swapLater b atFrame (takeFrame env s)))) := by
  refine request_of_either rfl hmaster hawake haddress ?_
  have hstate : s.loop.state ≠ .safe ∧ s.loop.state ≠ .stopped := by
    constructor <;> · intro hs; simp [hs, LoopState.running] at hrun
  exact (swapBody_swappable hfit h.taken hstate.1 atFrame).trans (if_neg hstate.2)

theorem exec_swapCancel : exec (.swapCancel env) s =
    .next (replyWith env .ok false [] (cancelSwap (takeFrame env s))) :=
  request_of_either (body := swapCancelBody env) (v := .done (cancelSwap (takeFrame env s))) rfl hmaster hawake
    haddress (whenFits_true env _ _ hfit)

end

/-- Settles O49: the checks of SWAP that a bank which fits passes leave the loop's state and the frame to decide. -/
theorem swapsWaitOrTakeEffect : Obligations.SwapsWaitOrTakeEffect := by
  intro env s hfit hmaster hawake haddress fit later
  have hfits : ∀ {b : Nat}, fit b → s.Swappable b := fun ⟨hbank, hnone, hready, hrows, hcolumns⟩ =>
    ⟨hbank, hnone, hready, hrows, hcolumns⟩
  have hrunning : ∀ {b : Nat}, fit b → s.loop.state.running = true → ∀ atFrame, _ := fun h =>
    exec_swap_running hfit hmaster hawake haddress (hfits h)
  have hcancel := exec_swapCancel hfit hmaster hawake haddress
  refine ⟨fun b atFrame h hstop => ?_, fun b h hrun => hrunning h hrun none, fun b f h hrun hclosed hopen => ?_,
    fun b f h hrun hlate => ?_, fun hnone => ?_, fun b hb => ?_⟩
  · obtain ⟨hb, -, hready, -, -⟩ := id h
    have hbank := swapNow_answered_bank (env := env) hready
    refine ⟨_, exec_swap_stopped hfit hmaster hawake haddress (hfits h) hstop atFrame,
      (hbank b).trans (if_pos rfl), fun hnone => ?_, fun o ho => ?_,
      (replyWith_hasCause ..).trans swapNow_swapDone, by simp, by simp, by simp, by simp, by simp, by simp⟩
    · rw [hbank, if_neg (by omega), hnone, if_neg nofun]
    · have hob : b ≠ o := fun hbo => activeBank_ne_of_ready hready (hbo ▸ ho)
      rw [hbank, if_neg hob, if_pos ho]
  · have hintime : swapTooLate s f ≠ true := fun hlate => by
      obtain ⟨g, hg, hold⟩ | ⟨k, hk, hopened, hold⟩ := (swapTooLate_iff s f).mp hlate
      · rw [hclosed g hg] at hold
        cases hold
      · rw [hopen k hk hopened] at hold
        cases hold
    rw [hrunning h hrun, Option.map_some, Option.getD_some, if_neg hintime]
    rfl
  · rw [hrunning h hrun, Option.map_some, Option.getD_some, if_pos ((swapTooLate_iff s f).mpr hlate)]
    refine ⟨fun hbroadcast => by rw [conclude_swapLate hbroadcast], fun hbroadcast => ?_⟩
    simp [conclude, refuse, refusedReply, reportRefusal_addressed, hbroadcast]
  · rw [hcancel, cancelSwap_of_none (s := takeFrame env s) hnone]
  · rw [hcancel, cancelSwap_of_some (s := takeFrame env s) hb]

end
end Sys2Proof.Machine

namespace Sys2Proof.Machine

section
set_option Elab.async false
variable {s : State} {b : Nat}

/-! ### Columns of a bank in DRAM (O45, O8) -/

/-- R75: a read of a column that was written, row by row. -/
theorem coefficient_writeColumn_row (s : State) (b j : Nat) (values : List Int) (a : Nat) :
    (s.writeColumn b j values).coefficient b j a = (values[a]?).getD (s.coefficient b j a) := by
  refine (Table.get_setList ..).trans ?_
  have haddress : dramAddress b j a - dramAddress b j 0 = a := by unfold dramAddress; omega
  rw [if_pos (by unfold dramAddress; omega), haddress]
  rfl

/-- R68: a column's write leaves every other column of either bank. -/
theorem coefficient_writeColumn_other {b c j k : Nat} {values : List Int} (hlength : values.length ≤ 1024)
    (hj : j < 8192) (hk : k < 8192) (hother : c ≠ b ∨ k ≠ j) {a : Nat} (ha : a < 1024) :
    (s.writeColumn b j values).coefficient c k a = s.coefficient c k a := by
  refine (Table.get_setList ..).trans ?_
  split
  · rw [List.getElem?_eq_none]
    · rfl
    · unfold dramAddress at *
      omega
  · rfl

@[simp] theorem State.bank_writeColumn (s : State) (b j : Nat) (values : List Int) (c : Nat) :
    (s.writeColumn b j values).bank c = s.bank c := rfl

theorem commitColumn_coefficient (s : State) (b j : Nat) (values : List Int) (c k a : Nat) :
    (commitColumn b j values s).coefficient c k a = (s.writeColumn b j values).coefficient c k a := rfl

theorem commitColumn_bank (s : State) (b j : Nat) (values : List Int) (c : Nat) :
    (commitColumn b j values s).bank c =
      if b = c then { s.bank b with committed := NatSet.add (s.bank b).committed j } else s.bank c :=
  State.bank_modifyBank (s.writeColumn b j values) b c
    fun r => { r with committed := NatSet.add r.committed j }

/-! #### The combining buffers -/

theorem column0_length (x : Buffer) (rows : Nat) : (x.column0 rows).length = rows := by
  simp [Buffer.column0, Table.getList]

theorem column0_getElem? (x : Buffer) {rows a : Nat} (ha : a < rows) :
    (x.column0 rows)[a]? = some (Table.get zeroes x.values a) := by
  simp [Buffer.column0, Table.getList, ha]

/-- R75: the descriptor of a bank with the column of buffer x committed, and counted where rows are missing. -/
def Bank.flushed (r : Bank) (x : Buffer) : Bank :=
  { r with
    committed := NatSet.add r.committed x.column
    zeroFilled := r.zeroFilled + if x.rows.length < r.rowCount then 1 else 0 }

/-- R75: a buffer that holds x is flushed. -/
theorem flushBuffer_held {name : BufferName} {x : Buffer} (hx : s.loader.buffer name = some x) :
    flushBuffer b name s =
      { (s.writeColumn b x.column (x.column0 (s.bank b).rowCount)).modifyBank b (Bank.flushed · x) with
        loader := s.loader.setBuffer name none } := by
  have hrows : s.bankRows b = (s.bank b).rowCount := rfl
  simp only [flushBuffer, hx, hrows, commitColumn]
  split
  · next hmissing =>
    rw [State.modifyBank_modifyBank, State.modifyBank, State.modifyBank, Bank.flushed, State.bank_writeColumn,
      if_pos hmissing]
    rfl
  · next hcomplete =>
    rw [State.modifyBank, State.modifyBank, Bank.flushed, State.bank_writeColumn, if_neg hcomplete]
    rfl

theorem flushBuffer_bank {name : BufferName} {x : Buffer} (hx : s.loader.buffer name = some x) (c : Nat) :
    (flushBuffer b name s).bank c = if b = c then (s.bank b).flushed x else s.bank c := by
  rw [flushBuffer_held hx]
  exact State.bank_modifyBank (s.writeColumn b x.column (x.column0 (s.bank b).rowCount)) b c (Bank.flushed · x)

/-! #### Sets of rows -/

theorem NatSet.mem_add (t : NatSet) (k i : Nat) : i ∈ NatSet.add t k ↔ i = k ∨ i ∈ t := by
  induction t with
  | nil => simp [NatSet.add]
  | cons e rest ih =>
    unfold NatSet.add
    split
    · simp
    split
    · next hke => simp [hke]
    · simp only [List.mem_cons, ih]
      tauto

theorem NatSet.mem_addAll (t : NatSet) (ks : List Nat) (i : Nat) : i ∈ NatSet.addAll t ks ↔ i ∈ t ∨ i ∈ ks := by
  induction ks generalizing t with
  | nil => simp [NatSet.addAll]
  | cons k ks ih =>
    refine (ih (NatSet.add t k)).trans ?_
    rw [NatSet.mem_add, List.mem_cons]
    tauto

theorem NatSet.length_add (t : NatSet) (k : Nat) : (NatSet.add t k).length ≤ t.length + 1 := by
  induction t with
  | nil => simp [NatSet.add]
  | cons e rest ih =>
    unfold NatSet.add
    split
    · simp
    split
    · simp
    · simpa using ih

theorem NatSet.length_addAll (t : NatSet) (ks : List Nat) : (NatSet.addAll t ks).length ≤ t.length + ks.length := by
  induction ks generalizing t with
  | nil => simp [NatSet.addAll]
  | cons k ks ih =>
    have hstep := NatSet.length_add t k
    have hrest := ih (NatSet.add t k)
    rw [List.length_cons]
    exact hrest.trans (by omega)

/-! #### What LOAD_SEGMENT and LOAD_FLUSH place -/

/-- R74: a whole column that no buffer holds goes to the bank at once. -/
theorem placeCoefficients_whole {column firstRow : Nat} {ms : List Int} (hholder : s.loader.holder column = none)
    (hlength : ms.length = (s.bank b).rowCount) :
    placeCoefficients b column firstRow ms s = commitColumn b column ms s := by
  simp only [placeCoefficients, hholder]
  exact if_pos hlength

/-- R74: the buffer that a first part of a column fills. -/
def partBuffer (column firstRow : Nat) (ms : List Int) (serial : Nat) : Buffer :=
  Buffer.fill { column := column, rows := [], values := [], touched := 0 } firstRow ms serial

theorem mem_partBuffer_rows {column firstRow serial : Nat} {ms : List Int} {a : Nat} :
    a ∈ (partBuffer column firstRow ms serial).rows ↔ firstRow ≤ a ∧ a < firstRow + ms.length := by
  rw [partBuffer, Buffer.fill, NatSet.mem_addAll]
  simp only [List.not_mem_nil, false_or, List.mem_map, List.mem_range]
  constructor
  · rintro ⟨i, hi, rfl⟩
    omega
  · rintro ⟨hlow, hhigh⟩
    exact ⟨a - firstRow, by omega, by omega⟩

theorem partBuffer_rows_length (column firstRow : Nat) (ms : List Int) (serial : Nat) :
    (partBuffer column firstRow ms serial).rows.length ≤ ms.length :=
  (NatSet.length_addAll ..).trans (by simp)

theorem partBuffer_values (column firstRow : Nat) (ms : List Int) (serial a : Nat) :
    Table.get zeroes (partBuffer column firstRow ms serial).values a =
      if firstRow ≤ a then (ms[a - firstRow]?).getD 0 else 0 :=
  Table.get_setList ..

/-- R74: with both buffers empty a part of a column waits in buffer A. -/
theorem placeCoefficients_part {column firstRow : Nat} {ms : List Int} (ha : s.loader.bufferA = none)
    (hb : s.loader.bufferB = none) (hlength : ms.length < (s.bank b).rowCount) :
    placeCoefficients b column firstRow ms s = { s with loader := { s.loader with
      bufferA := some (partBuffer column firstRow ms (s.loader.touches + 1))
      touches := s.loader.touches + 1 } } := by
  have hholder : s.loader.holder column = none := by simp [Loader.holder, ha, hb]
  have hvictim : s.loader.victim = .a := by simp [Loader.victim, ha]
  have hwhole : ms.length ≠ s.bankRows b := hlength.ne
  have hpart := partBuffer_rows_length column firstRow ms (s.loader.touches + 1)
  simp only [placeCoefficients, hholder, if_neg hwhole, hvictim, flushBuffer_empty (name := .a) ha, fillBuffer,
    commitIfWhole]
  exact if_neg (Nat.lt_of_le_of_lt hpart hlength).ne

section
variable {env : Envelope} (hfit : env.payloadFits = true) (hload : s.loader.state = .loading b env.master)
include hfit hload

/-- R73: an accepted LOAD_SEGMENT. -/
theorem loadSegmentBody_accepted {column firstRow : Nat} {ms : List Int} (hlow : 1 ≤ ms.length)
    (hhigh : ms.length ≤ 1024) (hvariant : column < Config.columns s.variant)
    (hcolumn : column < (s.bank b).columnCount) (hrows : firstRow + ms.length ≤ (s.bank b).rowCount)
    (hfresh : column ∉ (s.bank b).committed) : loadSegmentBody env column firstRow ms s =
      .done (placeCoefficients b column firstRow ms (touchLoader s)) := by
  rw [loadSegmentBody, whenFits_true _ _ _ hfit, if_neg (by omega), if_neg (by omega), whenLoading_owner hload,
    if_neg (by omega), if_neg (by omega), if_neg (by simpa using hfresh)]

/-- R76: LOAD_FLUSH with one buffer that holds a column. -/
theorem loadFlushBody_one {x : Buffer} (ha : s.loader.bufferA = some x) (hb : s.loader.bufferB = none) :
    loadFlushBody env s = .report (be8 1 ++ be8 (if x.rows.length < (s.bank b).rowCount then 1 else 0))
      (touchLoader (flushBuffer b .a s)) := by
  have hflush : flushBoth b s = flushBuffer b .a s := by
    refine flushBuffer_empty (name := .b) ?_
    rw [flushBuffer_held (name := .a) ha]
    exact hb
  have hcount : heldCount s.loader = 1 := by simp [heldCount, ha, hb]
  have hfilled : ((touchLoader (flushBuffer b .a s)).bank b).zeroFilled =
      (s.bank b).zeroFilled + if x.rows.length < (s.bank b).rowCount then 1 else 0 := by
    change ((flushBuffer b .a s).bank b).zeroFilled = _
    rw [flushBuffer_bank (name := .a) ha, if_pos rfl]
    rfl
  rw [loadFlushBody, whenFits_true _ _ _ hfit, whenLoading_owner hload]
  simp only [hflush, hcount, hfilled, Nat.add_sub_cancel_left]

end

/-! #### The obligation -/

/-- R68, R75: only column j of bank b is other in t, and no block but the banks, the loader and the port. -/
structure ColumnAlone (s : State) (b j : Nat) (t : State) : Prop where
  coefficient : ∀ c k a, c < 2 → k < 8192 → a < 1024 → (c ≠ b ∨ k ≠ j) →
    t.coefficient c k a = s.coefficient c k a
  other : t.bank (1 - b) = s.bank (1 - b)
  slots : t.slots = s.slots
  loop : t.loop = s.loop
  table : t.table = s.table
  store : t.store = s.store
  receivers : t.receivers = s.receivers
  engine : t.engine = s.engine

theorem commitColumn_alone {j : Nat} {values : List Int} (hb : b < 2) (hj : j < 8192) (hlength : values.length ≤ 1024) :
    ColumnAlone s b j (commitColumn b j values s) where
  coefficient _ _ _ _ hk ha hother := coefficient_writeColumn_other hlength hj hk hother ha
  other := by rw [commitColumn_bank, if_neg (by omega)]
  slots := rfl
  loop := rfl
  table := rfl
  store := rfl
  receivers := rfl
  engine := rfl

theorem flushBuffer_alone {name : BufferName} {x : Buffer} (hb : b < 2) (hx : s.loader.buffer name = some x)
    (hj : x.column < 8192) (hrows : (s.bank b).rowCount ≤ 1024) : ColumnAlone s b x.column (flushBuffer b name s) where
  coefficient c k a _ hk ha hother := by
    rw [flushBuffer_held hx]
    exact coefficient_writeColumn_other ((column0_length ..).trans_le hrows) hj hk hother ha
  other := by rw [flushBuffer_bank hx, if_neg (by omega)]
  slots := by simp
  loop := by simp
  table := by simp
  store := by simp
  receivers := by simp
  engine := by simp

theorem ColumnAlone.refl (s : State) (b j : Nat) : ColumnAlone s b j s :=
  ⟨fun _ _ _ _ _ _ _ => rfl, rfl, rfl, rfl, rfl, rfl, rfl, rfl⟩

/-- The loader is not among what ColumnAlone is about. -/
theorem ColumnAlone.withLoader {j : Nat} {u : State} (h : ColumnAlone s b j u) (l : Loader) :
    ColumnAlone s b j { u with loader := l } :=
  ⟨h.coefficient, h.other, h.slots, h.loop, h.table, h.store, h.receivers, h.engine⟩

section
variable {env : Envelope} {status : Status} {clamped : Bool} {payload : List Byte} {u : State}

/-- R189: the whole reply that an addressed request gets. -/
theorem replyWith_addressed (hbroadcast : env.broadcast = false) :
    (replyWith env status clamped payload u).port.reply =
      some { address := u.port.address, master := env.master, status := status, clamped := clamped,
             tag := env.tag, payload := payload } := by
  simp [replyWith, hbroadcast]

theorem replyWith_bank (c : Nat) : (replyWith env status clamped payload u).bank c = u.bank c := by
  simp [State.bank]

theorem replyWith_coefficient (c k a : Nat) :
    (replyWith env status clamped payload u).coefficient c k a = u.coefficient c k a := by
  simp [State.coefficient]

/-- The answer leaves what ColumnAlone is about. -/
theorem ColumnAlone.answered {j : Nat} (h : ColumnAlone s b j u) :
    (∀ c k a, c < 2 → k < 8192 → a < 1024 → (c ≠ b ∨ k ≠ j) →
      (replyWith env status clamped payload u).coefficient c k a = s.coefficient c k a) ∧
    (replyWith env status clamped payload u).bank (1 - b) = s.bank (1 - b) ∧
    (replyWith env status clamped payload u).slots = s.slots ∧
    (replyWith env status clamped payload u).loop = s.loop ∧
    (replyWith env status clamped payload u).table = s.table ∧
    (replyWith env status clamped payload u).store = s.store ∧
    (replyWith env status clamped payload u).receivers = s.receivers ∧
    (replyWith env status clamped payload u).engine = s.engine := by
  obtain ⟨hcoefficient, hother, hslots, hloop, htable, hstore, hreceivers, hengine⟩ := h
  simp only [replyWith_coefficient, replyWith_bank, replyWith_leaves]
  exact ⟨hcoefficient, hother, hslots, hloop, htable, hstore, hreceivers, hengine⟩

end

section
variable {env : Envelope} (h : arrives env s) (hload : s.loader.state = .loading b env.master)
include h hload

theorem exec_loadSegment {column firstRow : Nat} {ms : List Int} (hlow : 1 ≤ ms.length)
    (hhigh : ms.length ≤ 1024) (hvariant : column < Config.columns s.variant)
    (hcolumn : column < (s.bank b).columnCount) (hrows : firstRow + ms.length ≤ (s.bank b).rowCount)
    (hfresh : column ∉ (s.bank b).committed) : exec (.loadSegment env column firstRow ms) s =
      .next (replyWith env .ok false [] (placeCoefficients b column firstRow ms (touchLoader (takeFrame env s)))) :=
  request_of_verdict h 0x10
    (loadSegmentBody_accepted (s := takeFrame env s) h.2 hload hlow hhigh hvariant hcolumn hrows hfresh)

theorem exec_loadFlush {x : Buffer} (ha : s.loader.bufferA = some x) (hb : s.loader.bufferB = none) :
    exec (.loadFlush env) s = .next (replyWith env .ok false
      (be8 1 ++ be8 (if x.rows.length < (s.bank b).rowCount then 1 else 0))
      (touchLoader (flushBuffer b .a (takeFrame env s)))) :=
  request_of_verdict h 0x11 (loadFlushBody_one (s := takeFrame env s) h.2 hload ha hb)

end

/-- Settles O45: a whole column is one write, a part fills buffer A, and the flush of buffer A is one write. -/
theorem segmentsReachTheBank : Obligations.SegmentsReachTheBank := by
  intro env s b column firstRow ms harrives hload hb hrowCount hcolumnCount reply others
  obtain ⟨⟨-, -, hbroadcast, -⟩, hfit⟩ := id harrives
  have hfew : (s.bank b).columnCount ≤ 8192 := hcolumnCount.trans (columns_le _)
  refine ⟨fun hlow hhigh hcolumn hrows hfresh => ?_, fun x ha hb' hcolumn => ?_⟩
  · have hexec := exec_loadSegment harrives hload hlow hhigh (hcolumn.trans_le hcolumnCount) hcolumn hrows hfresh
    refine ⟨fun hwhole hholder => ?_, fun hpart ha hb' => ?_⟩
    · rw [placeCoefficients_whole (s := touchLoader (takeFrame env s)) hholder hwhole] at hexec
      have halone := commitColumn_alone (s := touchLoader (takeFrame env s)) hb (hcolumn.trans_le hfew) hhigh
      refine ⟨_, hexec, replyWith_addressed hbroadcast, halone.answered, fun a m hm => ?_, ?_, by simp [touchLoader]⟩
      · rw [replyWith_coefficient, commitColumn_coefficient, coefficient_writeColumn_row, hm, Option.getD_some]
      · rw [replyWith_bank, commitColumn_bank, if_pos rfl]
        rfl
    · rw [placeCoefficients_part (s := touchLoader (takeFrame env s)) ha hb' hpart] at hexec
      have halone := (ColumnAlone.refl (takeFrame env s) b column).withLoader
      refine ⟨_, partBuffer column firstRow ms (s.loader.touches + 1), hexec, replyWith_addressed hbroadcast,
        by simp, by simp, (halone _).answered, by simp [touchLoader], rfl, fun a => mem_partBuffer_rows,
        fun i m hm => ?_, fun a hout => ?_⟩
      · rw [partBuffer_values, if_pos (by omega), Nat.add_sub_cancel_left, hm, Option.getD_some]
      · rw [mem_partBuffer_rows] at hout
        rw [partBuffer_values]
        split
        · rw [List.getElem?_eq_none (by omega), Option.getD_none]
        · rfl
  · have halone := flushBuffer_alone (s := takeFrame env s) (name := .a) hb ha (hcolumn.trans_le hfew) hrowCount
    have hheld := flushBuffer_held (s := takeFrame env s) (name := .a) (b := b) ha
    refine ⟨_, exec_loadFlush harrives hload ha hb', (halone.withLoader _).answered,
      fun a har => ?_, ?_, ?_, ?_⟩
    · rw [replyWith_coefficient, hheld]
      refine (coefficient_writeColumn_row ..).trans ?_
      rw [takeFrame_bank, column0_getElem? x har, Option.getD_some]
    · rw [replyWith_bank]
      exact (flushBuffer_bank (s := takeFrame env s) (name := .a) ha b).trans (if_pos rfl)
    · rw [hheld]
      simp [touchLoader, Loader.setBuffer]
    · rw [hheld]
      exact replyWith_addressed hbroadcast

end
end Sys2Proof.Machine

namespace Sys2Proof.Machine

section
set_option Elab.async false
variable {s₀ s t u : State}

/-! ### The one bank that a load writes (O8) -/

/-! #### The sizes of the banks and the columns of the buffers stay bounded -/

/-- R68, R74: every bank has the sizes of the larger variant at most, and so have the columns that the buffers hold
during a load. -/
structure State.LoadFits (s : State) : Prop where
  sized : s.banksSized
  held : ∀ b owner, s.loader.state = .loading b owner → ∀ name x, s.loader.buffer name = some x → x.column < 8192

theorem State.LoadFits.of_sized (h : s.LoadFits) (hsized : ∀ b, (t.bank b).sized (s.bank b))
    (hloader : t.loader = s.loader) : t.LoadFits where
  sized := h.sized.of_sized hsized
  held := hloader ▸ h.held

theorem State.LoadFits.of_banks (h : s.LoadFits) (hbanks : t.banks = s.banks) (hloader : t.loader = s.loader) :
    t.LoadFits :=
  h.of_sized (fun b => by rw [State.bank, State.bank, hbanks]; exact .refl _) hloader

theorem Bank.sized.trans {r r' r'' : Bank} (h : r'.sized r) (h' : r''.sized r') : r''.sized r := by
  obtain ⟨hrows, hcolumns⟩ | hbounds := h'
  · unfold Bank.sized Bank.rowCount Bank.columnCount
    rwa [hrows, hcolumns]
  · exact .inr hbounds

/-- A descriptor that keeps its sizes. -/
theorem modifyBank_sized {b : Nat} {f : Bank → Bank} (c : Nat)
    (hrows : ∀ r, (f r).rows = r.rows := by exact fun _ => rfl)
    (hcolumns : ∀ r, (f r).columns = r.columns := by exact fun _ => rfl) :
    ((s.modifyBank b f).bank c).sized (s.bank c) :=
  setBank_each (P := fun old r => r.sized old) Bank.sized.refl (.inl ⟨hrows _, hcolumns _⟩) c

theorem cancelSwap_sized (c : Nat) : ((cancelSwap s).bank c).sized (s.bank c) := by
  unfold cancelSwap
  split
  · exact .refl _
  · rw [State.bank_raise]
    exact modifyBank_sized c

theorem activate_sized {b : Nat} (c : Nat) : ((activate b s).bank c).sized (s.bank c) :=
  modifyBank_sized c

theorem offerSwap_bank (b : Nat) (frame : Option Frame) (c : Nat) :
    (offerSwap b frame (raise .swapDone s)).bank c = s.bank c := by
  simp [State.bank]

theorem applySwap_sized {g : Frame} (c : Nat) : ((applySwap g s).bank c).sized (s.bank c) := by
  unfold applySwap
  split
  · exact .refl _
  split
  · dsimp only
    rw [offerSwap_bank]
    split
    · exact activate_sized c
    · exact (activate_sized c).trans (modifyBank_sized c)
  · exact .refl _

theorem swapNow_sized {b : Nat} (c : Nat) : ((swapNow b s).bank c).sized (s.bank c) := by
  unfold swapNow
  dsimp only
  rw [offerSwap_bank]
  split
  · exact activate_sized c
  · exact (modifyBank_sized c).trans (activate_sized c)

theorem haltLoop_sized {entered : LoopState} {cause : LoopCause} {frame : Option Frame} {scanCause : EndCause}
    (c : Nat) : ((haltLoop entered cause frame scanCause s).bank c).sized (s.bank c) := by
  rw [State.bank, haltLoop_banks, ← State.bank]
  exact cancelSwap_sized c

theorem enterRest_sized {entered : LoopState} {cause : LoopCause} {frame : Option Frame} {scanCause : EndCause}
    (c : Nat) : ((enterRest entered cause frame scanCause s).bank c).sized (s.bank c) := by
  rw [State.bank, enterRest_banks, ← State.bank]
  exact (haltLoop_sized c).trans ((freeSlot_sized 0 _ c).trans (freeSlot_sized 1 _ c))

/-- R69: a load that begins or moves on. -/
theorem State.LoadFits.load (h : s.LoadFits) {b : Nat} {r : Bank} {l : Loader} (hsize : r.sized (s.bank b))
    (hnew : l.agrees b r.state) : ({ s.setBank b r with loader := l } : State).LoadFits where
  sized := h.sized.of_sized (setBank_each (P := fun old r => r.sized old) Bank.sized.refl hsize)
  held c owner hload name x hx := by
    change l.state = .loading c owner at hload
    obtain ⟨-, -, ha, hb⟩ : c = b ∧ r.state = .loading ∧ l.bufferA = none ∧ l.bufferB = none := by
      simpa only [Loader.agrees, hload] using hnew
    cases name with
    | a => exact absurd (ha.symm.trans hx) nofun
    | b => exact absurd (hb.symm.trans hx) nofun

/-- R74, R75: the buffers go on holding columns of the load. -/
theorem State.LoadFits.withLoader (h : s.LoadFits) {l : Loader} (hstate : l.state = s.loader.state)
    (hbuffer : ∀ name x, l.buffer name = some x →
      (∃ y, s.loader.buffer name = some y ∧ y.column = x.column) ∨
        ∃ b owner, s.loader.state = .loading b owner ∧ x.column < (s.bank b).columnCount) :
    ({ s with loader := l } : State).LoadFits where
  sized := h.sized
  held b owner hload name x hx := by
    obtain ⟨y, hy, hcolumn⟩ | ⟨c, _, -, hlt⟩ := hbuffer name x hx
    · exact hcolumn ▸ h.held b owner (hstate.symm.trans hload) name y hy
    · exact hlt.trans_le (h.sized c).2

theorem softReset_loadFits (h : s.LoadFits) : (softReset s).LoadFits where
  sized := h.sized.of_sized fun b => by
    rw [softReset_bank]
    split
    · exact softBank_sized ..
    · exact .refl _
  held b owner hload := by
    rw [softReset_loader] at hload
    cases hload

/-- Whatever a command does keeps the bounds of a load: one case per move. -/
theorem Moves.loadFits (hmoves : Moves s₀ s) (h₀ : s₀.LoadFits) : s.LoadFits := by
  induction hmoves with
  | start => exact h₀
  | same _ hsame ih => exact ih.of_banks hsame.banks hsame.loader
  | receiver | telem | store | dram | hold | slot | opens | closes | loop | scan =>
    rename_i ih
    exact ih.of_banks rfl rfl
  | join _ n segment ih => exact ih.of_banks (by simp) (by simp)
  | offer _ r copy ih => exact ih.of_banks (by simp) (by simp)
  | free _ k ih => exact ih.of_sized (freeSlot_sized k _) (by simp)
  | swap _ f hrun ih => exact ih.of_sized applySwap_sized (by simp)
  | cancel _ ih => exact ih.of_sized cancelSwap_sized (by simp)
  | swapNow _ hb hready hstop ih => exact ih.of_sized swapNow_sized (by simp)
  | swapLater _ at? hb hready hrun hnone ih =>
    exact ih.of_sized (fun c => modifyBank_sized c) rfl
  | bank _ b r hstate hrows hcolumns ih =>
    exact ih.of_sized (setBank_each (P := fun old r => r.sized old) Bank.sized.refl (.inl ⟨hrows, hcolumns⟩)) rfl
  | clear _ b hb ih =>
    exact ih.of_sized (setBank_each (P := fun old r => r.sized old) Bank.sized.refl
      (.inr ⟨Nat.zero_le _, Nat.zero_le _⟩)) rfl
  | load _ r l hold hsize hnew ih => exact ih.load hsize hnew
  | loader _ l hstate hbuffer ih => exact ih.withLoader hstate hbuffer
  | rest _ hrest cause frame scanCause ih => exact ih.of_sized enterRest_sized (by simp)
  | softReset _ ih => exact softReset_loadFits ih
  | hardReset _ _ =>
    exact ⟨fun _ => ⟨Nat.zero_le _, Nat.zero_le _⟩, fun _ _ hload => by cases hload⟩

end
end Sys2Proof.Machine

namespace Sys2Proof.Machine

section
set_option Elab.async false
variable {s₀ s t u : State} {b owner : Nat}

/-! #### What is written during a load -/

/-- R69: the load of bank b is under way. -/
def State.loadsInto (s : State) (b : Nat) : Prop := ∃ owner, s.loader.state = .loading b owner

/-- R68: from s to t no coefficient changes but those of the bank that s loads. -/
def Spares (s t : State) : Prop :=
  ∀ b, ¬ s.loadsInto b → ∀ j a, j < 8192 → a < 1024 → t.coefficient b j a = s.coefficient b j a

theorem coefficient_of_dram (h : t.dram = s.dram) (b j a : Nat) : t.coefficient b j a = s.coefficient b j a :=
  congrArg (Table.get zeroes · (dramAddress b j a)) h

theorem Spares.of_dram (h : t.dram = s.dram) : Spares s t := fun b _ j a _ _ => coefficient_of_dram h b j a

theorem Spares.refl (s : State) : Spares s s := .of_dram rfl

/-- What follows a write leaves DRAM. -/
theorem Spares.followed (h : Spares s u) (hdram : t.dram = u.dram) : Spares s t := fun b hb j a hj ha =>
  (coefficient_of_dram hdram b j a).trans (h b hb j a hj ha)

/-- What comes before a write leaves DRAM and the loader's state. -/
theorem Spares.preceded (h : Spares u t) (hstate : u.loader.state = s.loader.state) (hdram : u.dram = s.dram) :
    Spares s t := fun b hb j a hj ha =>
  (h b (by rwa [State.loadsInto, hstate]) j a hj ha).trans (coefficient_of_dram hdram b j a)

theorem Spares.trans (h : Spares s u) (h' : Spares u t) (hstate : u.loader.state = s.loader.state) : Spares s t :=
  fun b hb j a hj ha => (h' b (by rwa [State.loadsInto, hstate]) j a hj ha).trans (h b hb j a hj ha)

/-- R75: a column of the load is written. -/
theorem commitColumn_spares {j : Nat} {values : List Int} (hload : s.loader.state = .loading b owner)
    (hlength : values.length ≤ 1024) (hj : j < 8192) : Spares s (commitColumn b j values s) :=
  fun c hc _ _ hk ha =>
    have hother : c ≠ b := fun heq => hc ⟨owner, heq ▸ hload⟩
    coefficient_writeColumn_other hlength hj hk (.inl hother) ha

theorem commitBuffer_spares {x : Buffer} (h : s.banksSized) (hload : s.loader.state = .loading b owner)
    (hj : x.column < 8192) : Spares s (commitColumn b x.column (x.column0 (s.bankRows b)) s) :=
  commitColumn_spares hload ((column0_length ..).trans_le (h b).1) hj

theorem flushBuffer_spares {name : BufferName} (h : s.LoadFits) (hload : s.loader.state = .loading b owner) :
    Spares s (flushBuffer b name s) := by
  cases hx : s.loader.buffer name with
  | none =>
    rw [flushBuffer_empty hx]
    exact .refl s
  | some x =>
    rw [flushBuffer_held hx]
    exact (commitBuffer_spares h.sized hload (h.held b owner hload name x hx)).followed rfl

theorem flushBoth_spares (h : s.LoadFits) (hload : s.loader.state = .loading b owner) :
    Spares s (flushBoth b s) :=
  have hflushed : (flushBuffer b .a s).loader.state = s.loader.state := flushBuffer_loader_state b .a s
  (flushBuffer_spares h hload).trans
    (flushBuffer_spares ((flushBuffer_moves .start).loadFits h) (hflushed.trans hload)) hflushed

theorem commitIfWhole_spares {name : BufferName} (h : s.LoadFits) (hload : s.loader.state = .loading b owner) :
    Spares s (commitIfWhole b name s) := by
  unfold commitIfWhole
  split
  · exact .refl s
  next x hx =>
  split
  · exact (commitBuffer_spares h.sized hload (h.held b owner hload name x hx)).followed rfl
  · exact .refl s

theorem fillBuffer_spares {name : BufferName} {x : Buffer} {firstRow : Nat} {ms : List Int} (h : s.LoadFits)
    (hload : s.loader.state = .loading b owner) (hcolumn : x.column < 8192) :
    Spares s (fillBuffer b name x firstRow ms s) := by
  unfold fillBuffer
  extract_lets serial filled l
  have hstate : l.state = s.loader.state := Loader.setBuffer_state ..
  have hfits : ({ s with loader := l } : State).LoadFits := by
    refine ⟨h.sized, fun c o _ m y hy => ?_⟩
    change (s.loader.setBuffer name _).buffer m = some y at hy
    rw [Loader.buffer_setBuffer] at hy
    split at hy
    · cases hy
      exact hcolumn
    · exact h.held b owner hload m y hy
  exact (commitIfWhole_spares hfits (hstate.trans hload)).preceded hstate rfl

theorem placeCoefficients_spares {column firstRow : Nat} {ms : List Int} (h : s.LoadFits)
    (hload : s.loader.state = .loading b owner) (hcolumn : column < 8192) (hlength : ms.length ≤ 1024) :
    Spares s (placeCoefficients b column firstRow ms s) := by
  unfold placeCoefficients
  split
  · split
    · next x hx => exact fillBuffer_spares h hload (h.held b owner hload _ x hx)
    · exact .refl s
  · split
    · exact commitColumn_spares hload hlength hcolumn
    · have hflushed := flushBuffer_loader_state b s.loader.victim s
      exact (flushBuffer_spares h hload).trans
        (fillBuffer_spares ((flushBuffer_moves .start).loadFits h) (hflushed.trans hload) hcolumn) hflushed

/-! #### Requests -/

theorem whenFits_spares {env : Envelope} {body : Verdict} (h : Spares s body.after) :
    Spares s (whenFits env s body).after := by
  unfold whenFits
  split
  · exact h
  · exact .refl s

theorem whenLoading_spares {env : Envelope} {act : Nat → Nat → Verdict}
    (hact : ∀ b owner, s.loader.state = .loading b owner → Spares s (act b owner).after) :
    Spares s (whenLoading env s act).after := by
  unfold whenLoading
  split
  · exact .refl s
  · next hload =>
    split
    · exact hact _ _ hload
    · exact .refl s
  · split
    · exact .refl s
    · exact .refl s

theorem loadSegmentBody_spares {env : Envelope} {column firstRow : Nat} {ms : List Int} (h : s.LoadFits) :
    Spares s (loadSegmentBody env column firstRow ms s).after := by
  refine whenFits_spares ?_
  split
  · exact .refl s
  split
  · exact .refl s
  next hlength hvariant =>
  refine whenLoading_spares fun b owner hload => ?_
  iterate 3
    split
    · exact .refl s
  · exact (placeCoefficients_spares (s := touchLoader s) ((touchLoader_moves .start).loadFits h) hload
      ((Nat.lt_of_not_le hvariant).trans_le (columns_le _)) (by omega)).preceded rfl rfl

theorem loadFlushBody_spares {env : Envelope} (h : s.LoadFits) : Spares s (loadFlushBody env s).after :=
  whenFits_spares (whenLoading_spares fun _ _ hload => (flushBoth_spares h hload).followed rfl)

theorem loadCloseBody_spares {env : Envelope} {expected : BitVec 32} (h : s.LoadFits) :
    Spares s (loadCloseBody env expected s).after := by
  refine whenFits_spares (whenLoading_spares fun b owner hload => ?_)
  dsimp only
  split
  · exact (flushBoth_spares h hload).followed rfl
  · exact (flushBoth_spares h hload).followed rfl

@[simp] theorem conclude_dram (env : Envelope) (code : Nat) (v : Verdict) :
    (conclude env code v).dram = v.after.dram := by
  cases v with
  | ok payload clamped t => simp [conclude, Verdict.after]
  | accepted t => simp [conclude, Verdict.after]
  | refused status position detail value owner t => simp [conclude, Verdict.after]

/-- R187: a request is taken, and what its block does spares the banks. -/
theorem takeRequest_spares {env : Envelope} {code : Nat} {body : State → Verdict} (h : s.LoadFits)
    (hbody : ∀ u : State, u.LoadFits → Spares u (body u).after) : Spares s (takeRequest env code body s) := by
  have htaken : (takeFrame env s).LoadFits := (takeFrame_moves .start).loadFits h
  unfold takeRequest
  split
  · exact .refl s
  split
  · exact .refl s
  refine Spares.followed (u := (verdictOf env code body (takeFrame env s)).after) ?_ (by simp)
  unfold verdictOf
  split
  · exact .of_dram rfl
  · exact (hbody _ htaken).preceded rfl rfl

/-! #### Requests that leave DRAM -/

theorem whenFits_dram {env : Envelope} {body : Verdict} (h : body.after.dram = s.dram) :
    (whenFits env s body).after.dram = s.dram := by
  unfold whenFits
  split
  · exact h
  · rfl

@[simp] theorem takeEdit_dram (e : Edit) (s : State) : (takeEdit e s).after.dram = s.dram := by
  unfold takeEdit
  repeat' split
  all_goals simp

@[simp] theorem loadOpenTest_dram (b rows columns shift block master : Nat) (s : State) :
    (loadOpenTest b rows columns shift block master s).after.dram = s.dram := by
  unfold loadOpenTest
  repeat' split
  all_goals simp

@[simp] theorem leaveHold_dram (target : Target) (cause : LoopCause) (s : State) :
    (leaveHold target cause s).after.dram = s.dram := by
  unfold leaveHold
  split <;> simp

@[simp] theorem openNow_dram (s : State) : (openNow s).after.dram = s.dram := by
  unfold openNow openFromStopped
  repeat' split
  all_goals simp

@[simp] theorem closeNow_dram (s : State) : (closeNow s).after.dram = s.dram := by
  unfold closeNow
  split
  all_goals simp

@[simp] theorem schedule_dram (env : Envelope) (target : Target) (f : Frame) (s : State) :
    (schedule env target f s).after.dram = s.dram := by
  unfold schedule
  repeat' split
  all_goals simp

theorem blockReopenBody_dram (env : Envelope) (bank block : Nat) (s : State) :
    (blockReopenBody env bank block s).after.dram = s.dram := by
  refine whenFits_dram ?_
  split
  · rfl
  dsimp only
  repeat' split
  all_goals simp

theorem actModeBody_dram (env : Envelope) (a mode : Nat) (value : Option Nat) (s : State) :
    (actModeBody env a mode value s).after.dram = s.dram := by
  refine whenFits_dram ?_
  dsimp only
  repeat' split
  all_goals simp

theorem pairWriteBody_dram (env : Envelope) (a b dmax : Nat) (s : State) :
    (pairWriteBody env a b dmax s).after.dram = s.dram := by
  refine whenFits_dram ?_
  dsimp only
  iterate 8
    split
    · rfl
  · exact takeEdit_dram ..

theorem refWriteBody_dram (env : Envelope) (n first count : Nat) (offsets : List Int) (s : State) :
    (refWriteBody env n first count offsets s).after.dram = s.dram := by
  unfold refWriteBody
  iterate 5
    split
    · rfl
  · simp

/-! #### Every request -/

/-- An outcome whose next state differs from s in coefficients of the bank that s loads at most. -/
def leadsSparing (s : State) (o : Host.Outcome State Fault Refusal) : Prop := ∀ t, o = .next t → Spares s t

theorem next_leadsSparing (h : Spares s t) : leadsSparing s (.next t) := by
  rintro _ ⟨⟩
  exact h

theorem awake_leadsSparing {f : State → State} (h : Spares s (f s)) : leadsSparing s (awake s f) := by
  refine next_leadsSparing ?_
  split
  · exact .refl s
  · exact h

theorem request_leadsSparing {env : Envelope} {code : Nat} {body : State → Verdict} (h : s.LoadFits)
    (hbody : ∀ u : State, u.LoadFits → Spares u (body u).after) : leadsSparing s (request env code body s) :=
  awake_leadsSparing (takeRequest_spares h hbody)

/-- A request whose block leaves DRAM. -/
theorem request_of_dram {env : Envelope} {code : Nat} {body : State → Verdict} (h : s.LoadFits)
    (hbody : ∀ u : State, (body u).after.dram = u.dram) : leadsSparing s (request env code body s) :=
  request_leadsSparing h fun u _ => .of_dram (hbody u)

/-- R75: of the requests only LOAD_SEGMENT, LOAD_FLUSH and LOAD_CLOSE write DRAM; an event is no request. -/
theorem runRequest_leadsSparing {i : Instr} (h : s.LoadFits) : leadsSparing s (runRequest i s) := by
  cases i
  case loadSegment => exact request_leadsSparing h fun _ hu => loadSegmentBody_spares hu
  case loadFlush => exact request_leadsSparing h fun _ hu => loadFlushBody_spares hu
  case loadClose => exact request_leadsSparing h fun _ hu => loadCloseBody_spares hu
  case refWrite => exact request_of_dram h fun _ => refWriteBody_dram ..
  case blockReopen => exact request_of_dram h fun _ => blockReopenBody_dram ..
  case actMode => exact request_of_dram h fun _ => actModeBody_dram ..
  case pairWrite => exact request_of_dram h fun _ => pairWriteBody_dram ..
  case loopOpen atFrame =>
    refine request_of_dram h fun _ => whenFits_dram ?_
    cases atFrame with
    | none => exact openNow_dram _
    | some f => exact schedule_dram ..
  case loopClose atFrame =>
    refine request_of_dram h fun _ => whenFits_dram ?_
    cases atFrame with
    | none => exact closeNow_dram _
    | some f => exact schedule_dram ..
  case mapRead | slotStatus | engineStatus | gainRead | stageStatus | loopStatus | scanStatus | telemStatus |
      ident | portStatus | faultDetail | attnRead =>
    exact request_of_dram h fun _ => whenFits_dram rfl
  case swapCancel | scanStop | telemReset | loopConfig | loopSafe =>
    exact request_of_dram h fun _ => whenFits_dram (by simp)
  case linkCountersClear | mapWrite | loadAbort | bankClear | swap | actCount | flatten | scanStart | telemPop |
      linkStatus | sensorRole | sensorTag | sensorCount | sensorRead | refRead | storeRead | loadStatus | actRead |
      gainWrite | pairRead | linkReset | linkConfig | telemSelect | captureRead | featureSet | featureGet |
      attnMask | attnAck | sensorScale | loopStop | resetSoft | loadOpen | actWrite | pairRemove =>
    refine request_of_dram h fun _ => whenFits_dram ?_
    repeat' split
    all_goals simp
  all_goals exact next_leadsSparing (.refl s)

/-! #### Complete frames (R186 to R188) -/

theorem requestFrame_leadsSparing {bytes : List Byte} {uncorrectable : List Nat} (h : s.LoadFits) :
    leadsSparing s (execRequestFrameComplete bytes uncorrectable s) := by
  have hport : ∀ p, Spares s { s with port := p } := fun _ => .of_dram rfl
  unfold execRequestFrameComplete
  split
  · exact next_leadsSparing (.refl s)
  unfold checkFrame
  dsimp only
  split
  · exact next_leadsSparing (hport _)
  split
  · exact next_leadsSparing (hport _)
  unfold checkSound
  split
  · exact next_leadsSparing (hport _)
  split
  · unfold takeSound
    split
    · have hbegun : ({ s with port := { s.port with reception := none } } : State).LoadFits := h.of_banks rfl rfl
      exact fun t ht => (runRequest_leadsSparing hbegun t ht).preceded rfl rfl
    · exact next_leadsSparing (.of_dram (by simp [takeUnknown]))
  · exact next_leadsSparing (hport _)

theorem takeBetween_spares (between : Option BusFrame) (h : s.LoadFits) : Spares s (takeBetween between s) := by
  cases between with
  | none => exact .refl s
  | some f =>
    rcases takeBetween_frame f s with hnext | hsame
    · exact requestFrame_leadsSparing h _ hnext
    · rw [hsame]
      exact .refl s

/-! #### What a frame may write before the entry to SAFE (R154) -/

/-- Moves lead from s₀ to s, and neither the loader nor DRAM has changed. -/
structure Unwritten (s₀ s : State) : Prop where
  moves : Moves s₀ s
  loader : s.loader = s₀.loader
  dram : s.dram = s₀.dram

theorem Unwritten.step (h : Unwritten s₀ s) (hmoves : Moves s₀ t) (hloader : t.loader = s.loader)
    (hdram : t.dram = s.dram) : Unwritten s₀ t :=
  ⟨hmoves, hloader.trans h.loader, hdram.trans h.dram⟩

theorem Unwritten.settle (h : Unwritten s₀ s) : Unwritten s₀ (settle s) :=
  h.step (settle_moves h.moves) (by simp) (by simp)

theorem Unwritten.dropTransaction {reason : DropReason} (h : Unwritten s₀ s) :
    Unwritten s₀ (dropTransaction reason s) :=
  h.step (dropTransaction_moves h.moves) (by simp) (by simp)

theorem Unwritten.checkEnd (h : Unwritten s₀ s) : Unwritten s₀ (checkEnd s) :=
  h.step (checkEnd_moves h.moves) (by simp) (by simp)

theorem Unwritten.takeBetween (h : Unwritten s₀ s) (h₀ : s₀.LoadFits) (between : Option BusFrame) :
    Spares s₀ (takeBetween between s) :=
  (takeBetween_spares between (h.moves.loadFits h₀)).preceded (congrArg Loader.state h.loader) h.dram

section
variable {between : Option BusFrame} (h₀ : s₀.LoadFits) (h : Unwritten s₀ s)
include h₀ h

theorem enterSafe_takeBetween_spares {cause : LoopCause} {f : Option Frame} :
    Spares s₀ (enterSafe cause f (takeBetween between s)) :=
  (h.takeBetween h₀ between).followed (by simp)

theorem dropAndSafe_spares {order : SafeOrder} {reason : DropReason} {cause : LoopCause} {f : Option Frame} :
    Spares s₀ (dropAndSafe order reason cause f (takeBetween between) s) := by
  cases order with
  | dropFirst => exact enterSafe_takeBetween_spares h₀ h.dropTransaction.settle
  | safeFirst =>
    have hsafe : Spares s₀ (enterSafe cause f (takeBetween between s)) := enterSafe_takeBetween_spares h₀ h
    exact hsafe.followed (by simp [dropAndSafe])

end

section
variable {between : Option BusFrame} (h : s.LoadFits)
include h

theorem stickLink_spares {l : Nat} {order : SafeOrder} : Spares s (stickLink l order (takeBetween between) s) := by
  unfold stickLink
  split
  · exact dropAndSafe_spares h ⟨Moves.start.modifyDriveLink _ _, rfl, rfl⟩
  · exact .refl s

theorem takeRefused_spares {l : Nat} {number : Byte} {reason : RefuseReason} {order : SafeOrder} :
    Spares s (takeRefused l number reason order (takeBetween between) s) := by
  unfold takeRefused
  extract_lets r s1
  have h1 : Unwritten s s1 := ⟨Moves.start.setDriveLink _ _, rfl, rfl⟩
  split
  · split
    · cases reason with
      | crc | length => exact .of_dram h1.checkEnd.dram
      | channelFault => exact enterSafe_takeBetween_spares h h1.checkEnd
    · cases reason with
      | crc | length => exact .of_dram h1.dropTransaction.settle.dram
      | channelFault => exact dropAndSafe_spares h h1
  · exact .of_dram (by simp)

theorem takeFault_spares {l : Nat} {order : SafeOrder} : Spares s (takeFault l order (takeBetween between) s) := by
  have hfault : Unwritten s (faultLink l s) :=
    ⟨raise_moves (Moves.start.modifyDriveLink _ _), by simp, by simp⟩
  have hleft : Unwritten s (leaveTransaction l (faultLink l s)) :=
    hfault.step hfault.moves.of_frame (by simp) (by simp)
  unfold takeFault afterFault
  dsimp only
  split
  · exact enterSafe_takeBetween_spares h hfault
  split
  · exact enterSafe_takeBetween_spares h (hfault.step (hfault.moves.withDrive _) (by simp) (by simp)).checkEnd
  split
  · exact enterSafe_takeBetween_spares h hleft.checkEnd
  split
  · exact enterSafe_takeBetween_spares h hleft
  · exact dropAndSafe_spares h hleft

end

/-! #### Every command -/

/-- An event that leaves DRAM. -/
theorem awake_of_dram {f : State → State} (h : (f s).dram = s.dram) : leadsSparing s (awake s f) :=
  awake_leadsSparing (.of_dram h)

theorem onReceiver_dram {n : Nat} {f : State → State} (h : (f s).dram = s.dram) :
    (onReceiver n f s).dram = s.dram := by
  unfold onReceiver
  split
  · exact h
  · rfl

theorem onDriveLink_dram {n : Nat} {f : State → State} (h : (f s).dram = s.dram) :
    (onDriveLink n f s).dram = s.dram := by
  unfold onDriveLink
  split
  · exact h
  · rfl

theorem onDriveLink_spares {n : Nat} {f : State → State} (h : Spares s (f s)) : Spares s (onDriveLink n f s) := by
  unfold onDriveLink
  split
  · exact h
  · exact .refl s

theorem exec_leadsSparing {i : Instr} (h : s.LoadFits) (hi : i ≠ .hardReset) : leadsSparing s (exec i s) := by
  have hrequest : leadsSparing s (runRequest i s) := runRequest_leadsSparing h
  cases i
  case hardReset => exact absurd rfl hi
  case recoveryWindowExpiry => exact awake_leadsSparing (onDriveLink_spares (stickLink_spares h))
  case refusedReply => exact awake_leadsSparing (onDriveLink_spares (takeRefused_spares h))
  case faultReport => exact awake_leadsSparing (onDriveLink_spares (takeFault_spares h))
  case requestFrameComplete => exact requestFrame_leadsSparing h
  case resetRelease =>
    refine next_leadsSparing (.of_dram ?_)
    unfold releaseReset
    split <;> rfl
  case lockAchieved | lossOfLock | startDelimiter | idleFillCut | excessByte | segmentArrival =>
    exact awake_of_dram (onReceiver_dram (by simp))
  case silenceTimerExpiry =>
    refine awake_of_dram (onReceiver_dram ?_)
    split
    · simp
    · rfl
  case recoveryLineIdle | takenReply | replyTimerExpiry | appliedReply | applyTimerExpiry =>
    exact awake_of_dram (onDriveLink_dram (by simp))
  case returnFrameDiscard =>
    refine awake_of_dram (onDriveLink_dram ?_)
    split
    · simp
    · rfl
  case slopeWork | deadlineExpiry | fillInColumn | residualsDone | shapeChecked | transactionBegin |
      verifyColumnRead | busSilenceGap | overlengthHeader | replySent | replyLost =>
    unfold exec
    dsimp only [execSlopeWork, execDeadlineExpiry, execFillInColumn, execResidualsDone, execShapeChecked,
      execTransactionBegin, execVerifyColumnRead, execBusSilenceGap, execOverlengthHeader, execReplySent,
      execReplyLost]
    refine awake_of_dram ?_
    repeat' split
    all_goals simp
  case replyWouldHaveEnded =>
    refine awake_of_dram ?_
    unfold replyEnded
    split
    · simp
    · rfl
  all_goals exact hrequest

theorem State.LoadFits.of_loaderSound (h : s.loaderSound) : s.LoadFits := by
  obtain ⟨hsized, hstate⟩ := h
  refine ⟨hsized, fun b owner hload name x hx => ?_⟩
  simp only [hload] at hstate
  obtain ⟨-, -, -, hheld⟩ := hstate
  exact (hheld name x hx).trans_le (hsized b).2

/-- R69: the bank that is loaded is LOADING. -/
theorem State.loaderSound.loading (h : s.loaderSound) (hload : s.loadsInto b) : (s.bank b).state = .loading := by
  obtain ⟨owner, hload⟩ := hload
  obtain ⟨-, hstate⟩ := h
  simp only [hload] at hstate
  obtain ⟨-, hloading, -, -⟩ := hstate
  exact hloading

/-- Settles O8: only a load writes DRAM, to the bank that it loads. -/
theorem onlyTheLoadingBankIsWritten : Obligations.OnlyTheLoadingBankIsWritten := by
  intro c s t hsound hreset hexec b _ hother j a hj ha
  have hspares : Spares s t := exec_leadsSparing (.of_loaderSound hsound) hreset t hexec
  exact hspares b (fun hload => hother (hsound.loading hload)) j a hj ha

end
end Sys2Proof.Machine

namespace Sys2Proof.Machine

section
set_option Elab.async false
variable {s t : State}

/-! ### Bias and integrator state stay in the stroke limits (O11)

`limitsSound` reads the table, the held edits, the stage's phase, whether the loop runs, and of the drive block
the bias send, the request and the kind of the current transaction. What leaves these keeps it
(`State.limitsSound.of_frame`); what ends a flight keeps it because the effective table is sound. -/

/-! #### The table and its edits (R96, R102 to R104) -/

theorem ActTable.sound.setActuator {t : ActTable} (h : t.sound) (a : Nat) {r : Actuator} (hr : r.sound) :
    (t.setActuator a r).sound := fun b => by
  rw [actuator_setActuator]
  split
  · exact hr
  · exact h b

/-- R103: x is brought into the new limits. -/
theorem Actuator.rewrite_sound (r : Actuator) {f : ActFields} (hlo : f.lo ≤ f.bias) (hhi : f.bias ≤ f.hi) :
    (r.rewrite f).sound := by
  have hx : clamp (256 * f.lo) (256 * f.hi) r.x = max (256 * f.lo) (min (256 * f.hi) r.x) :=
    clamp_eq_max_min (by omega) r.x
  unfold sound rewrite
  dsimp only
  omega

theorem ActTable.sound.rewrite {t : ActTable} (h : t.sound) (first : Nat) {records : List ActFields}
    (hr : ∀ f ∈ records, f.lo ≤ f.bias ∧ f.bias ≤ f.hi) : (t.rewrite first records).sound := by
  induction records generalizing t first with
  | nil => exact h
  | cons f fs ih =>
    obtain ⟨⟨hlo, hhi⟩, hrest⟩ := List.forall_mem_cons.mp hr
    exact ih (h.setActuator first ((t.actuator first).rewrite_sound hlo hhi)) _ hrest

/-- R104: FORCED takes an x within the limits, the other modes keep it. -/
theorem Actuator.setMode_sound {r : Actuator} (h : r.sound) {m : Mode} {value : Option Nat}
    (hv : ∀ v, m = .forced → value = some v → r.lo ≤ v ∧ v ≤ r.hi) : (r.setMode m value).sound := by
  unfold setMode
  split
  · next v =>
    obtain ⟨hlo, hhi⟩ := hv v rfl rfl
    obtain ⟨hbias, hbias', -, -⟩ := h
    exact ⟨hbias, hbias', Nat.mul_le_mul_left 256 hlo, Nat.mul_le_mul_left 256 hhi⟩
  · exact h

theorem ActTable.takes_forced {t : ActTable} {a v : Nat} (h : t.takes (.mode a .forced (some v))) :
    (t.actuator a).lo ≤ v ∧ v ≤ (t.actuator a).hi := h

theorem ActTable.sound.apply {t : ActTable} (h : t.sound) {e : Edit} (he : t.takes e) : (t.apply e).sound := by
  cases e with
  | write first records => exact h.rewrite first he
  | mode a m value =>
    refine h.setActuator a (Actuator.setMode_sound (h a) fun v hm hvalue => ?_)
    subst hm hvalue
    exact takes_forced he
  | pairAdd | pairDrop => exact h

theorem ActTable.sound.applyAll {t : ActTable} (h : t.sound) {es : List Edit} (hes : t.takesAll es) :
    (es.foldl ActTable.apply t).sound := by
  induction es generalizing t with
  | nil => exact h
  | cons e es ih => exact ih (h.apply hes.1) hes.2

theorem ActTable.takesAll_append {t : ActTable} {es : List Edit} {e : Edit} (hes : t.takesAll es)
    (he : (es.foldl ActTable.apply t).takes e) : t.takesAll (es ++ [e]) := by
  induction es generalizing t with
  | nil => exact ⟨he, trivial⟩
  | cons d es ih => exact ⟨hes.1, ih hes.2 he⟩

/-! #### What depends on the limits alone -/

theorem ActTable.sameFields.limits {t u : ActTable} (h : t.sameFields u) (a : Nat) :
    (t.actuator a).lo = (u.actuator a).lo ∧ (t.actuator a).hi = (u.actuator a).hi := by
  obtain ⟨-, -, hfields⟩ := h
  exact ⟨congrArg ActFields.lo (hfields a), congrArg ActFields.hi (hfields a)⟩

theorem ActTable.sameFields.setActuator {t u : ActTable} (h : t.sameFields u) (a : Nat) {r q : Actuator}
    (hr : r.fields = q.fields) : (t.setActuator a r).sameFields (u.setActuator a q) := by
  obtain ⟨hn, hpairs, hfields⟩ := h
  refine ⟨hn, hpairs, fun b => ?_⟩
  simp only [actuator_setActuator]
  split
  · exact hr
  · exact hfields b

theorem ActTable.sameFields.rewrite {t u : ActTable} (h : t.sameFields u) (first : Nat) (records : List ActFields) :
    (t.rewrite first records).sameFields (u.rewrite first records) := by
  induction records generalizing t u first with
  | nil => exact h
  | cons f fs ih =>
    exact ih (h.setActuator first (r := (t.actuator first).rewrite f) (q := (u.actuator first).rewrite f) rfl) _

theorem ActTable.sameFields.apply {t u : ActTable} (h : t.sameFields u) (e : Edit) :
    (t.apply e).sameFields (u.apply e) := by
  obtain ⟨hn, hpairs, hfields⟩ := id h
  cases e with
  | write first records => exact h.rewrite first records
  | mode a m value => exact h.setActuator a (by simpa only [Actuator.setMode_fields] using hfields a)
  | pairAdd | pairDrop => exact ⟨hn, by simp [ActTable.apply, hpairs], hfields⟩

theorem ActTable.takes.of_sameFields {t u : ActTable} {e : Edit} (he : u.takes e) (h : t.sameFields u) :
    t.takes e := by
  cases e with
  | write => exact he
  | mode a m value =>
    cases m with
    | loop | held => trivial
    | forced =>
      cases value with
      | none => trivial
      | some v =>
        obtain ⟨hlo, hhi⟩ := h.limits a
        change (t.actuator a).lo ≤ v ∧ v ≤ (t.actuator a).hi
        rw [hlo, hhi]
        exact takes_forced he
  | pairAdd | pairDrop => trivial

/-- The conditions of held edits read no x and no last output. -/
theorem ActTable.takesAll.of_sameFields {t u : ActTable} {es : List Edit} (hes : u.takesAll es)
    (h : t.sameFields u) : t.takesAll es := by
  induction es generalizing t u with
  | nil => trivial
  | cons e es ih => exact ⟨hes.1.of_sameFields h, ih hes.2 (h.apply e)⟩

/-! #### Writes of the stage and of a bias send (R121, R140, R141) -/

theorem ActTable.commit_sound {t : ActTable} (h : t.sound) {a : Nat} {xs : List Nat} (os : List Nat)
    (hxs : ∀ i x, xs[i]? = some x → 256 * (t.actuator (a + i)).lo ≤ x ∧ x ≤ 256 * (t.actuator (a + i)).hi) :
    (t.commit a xs os).sound := by
  induction xs generalizing t a os with
  | nil => exact h
  | cons x xs ih =>
    cases os with
    | nil => exact h
    | cons o os =>
      obtain ⟨hlo, hhi, -, -⟩ := h a
      refine ih (h.setActuator a (r := { t.actuator a with x := x, lastOutput := o }) ⟨hlo, hhi, hxs 0 x rfl⟩) os
        fun i y hy => ?_
      rw [actuator_setActuator, if_neg (by omega), show a + 1 + i = a + (i + 1) by omega]
      exact hxs (i + 1) y hy

theorem ActTable.biasStates_sound {t : ActTable} (h : t.sound) {a : Nat} {bs : List Nat}
    (hbs : ∀ i b, bs[i]? = some b → (t.actuator (a + i)).lo ≤ b ∧ b ≤ (t.actuator (a + i)).hi) :
    (t.biasStates a bs).sound := by
  induction bs generalizing t a with
  | nil => exact h
  | cons b bs ih =>
    obtain ⟨hlo, hhi, -, -⟩ := h a
    have hb : (t.actuator a).lo ≤ b ∧ b ≤ (t.actuator a).hi := hbs 0 b rfl
    have hset : ({ t.actuator a with x := 256 * b } : Actuator).sound :=
      ⟨hlo, hhi, Nat.mul_le_mul_left 256 hb.1, Nat.mul_le_mul_left 256 hb.2⟩
    refine ih (h.setActuator a hset) fun i c hc => ?_
    rw [actuator_setActuator, if_neg (by omega), show a + 1 + i = a + (i + 1) by omega]
    exact hbs (i + 1) c hc

theorem ActTable.biases_inLimits {t : ActTable} (h : t.sound) {i b : Nat} (hb : t.biases[i]? = some b) :
    (t.actuator i).lo ≤ b ∧ b ≤ (t.actuator i).hi := by
  obtain ⟨a, ha, rfl⟩ : ∃ a, (List.range t.n)[i]? = some a ∧ (t.actuator a).bias = b := by
    simpa [ActTable.biases] using hb
  obtain ⟨-, rfl⟩ : i < t.n ∧ i = a := by simpa [List.getElem?_eq_some_iff] using ha
  obtain ⟨hlo, hhi, -, -⟩ := h i
  exact ⟨hlo, hhi⟩

theorem ActTable.biasOutputs_sound {t : ActTable} (h : t.sound) (a : Nat) (bs : List Nat) :
    (t.biasOutputs a bs).sound := by
  induction bs generalizing t a with
  | nil => exact h
  | cons b bs ih => exact ih (h.setActuator a (r := { t.actuator a with lastOutput := b }) (h a)) _

end
end Sys2Proof.Machine

namespace Sys2Proof.Machine

section
set_option Elab.async false
variable {s t : State}

/-! #### The bias send, its request and its transaction (R139, R140) -/

/-- The waiting request is that of a bias send. -/
def Drive.asksBias (d : Drive) : Prop := d.request.map TxRequest.kind = some .bias

/-- The current transaction is that of a bias send. -/
def Drive.sendsBias (d : Drive) : Prop := d.current.map Transaction.kind = some .bias

/-- What `flightSound` says of the drive block in a running loop or at rest. -/
structure Drive.SendSound (d : Drive) (running : Bool) : Prop where
  none_running : running = true → d.biasSend = none
  of_request : d.asksBias → d.biasSend.isSome = true
  of_current : d.sendsBias → d.biasSend.isSome = true
  one : ¬ (d.asksBias ∧ d.sendsBias)

/-- A drive block in the same bias send, with no other request or transaction of one. -/
theorem Drive.SendSound.weaken {d e : Drive} {running : Bool} (h : d.SendSound running)
    (hsend : e.biasSend = d.biasSend) (hrequest : e.asksBias → d.asksBias) (hcurrent : e.sendsBias → d.sendsBias) :
    e.SendSound running where
  none_running hrun := hsend.trans (h.none_running hrun)
  of_request hasks := by rw [hsend]; exact h.of_request (hrequest hasks)
  of_current hsends := by rw [hsend]; exact h.of_current (hcurrent hsends)
  one hboth := h.one ⟨hrequest hboth.1, hcurrent hboth.2⟩

/-- With neither a request nor a transaction of a bias send, at rest or with none in flight. -/
theorem Drive.SendSound.of_quiet {d : Drive} {running : Bool} (hsend : running = true → d.biasSend = none)
    (hrequest : ¬ d.asksBias) (hcurrent : ¬ d.sendsBias) : d.SendSound running :=
  ⟨hsend, fun h => absurd h hrequest, fun h => absurd h hcurrent, fun h => hrequest h.1⟩

theorem Drive.SendSound.quiet {d : Drive} {running : Bool} (h : d.SendSound running) (hsend : d.biasSend = none) :
    ¬ d.asksBias ∧ ¬ d.sendsBias := by
  refine ⟨fun hasks => ?_, fun hsends => ?_⟩
  · simpa [hsend] using h.of_request hasks
  · simpa [hsend] using h.of_current hsends

/-! #### The invariant by its parts -/

/-- `State.limitsSound` with a name for each of its parts. -/
structure State.InLimits (s : State) : Prop where
  table : s.table.sound
  edits : s.table.takesAll s.hold
  shape : s.stageInLimits
  held : s.inFlight = false → s.hold = []
  rest : s.loop.state.running = false → s.stage.phase = .idle
  send : s.drive.SendSound s.loop.state.running

theorem Drive.asksBias_iff {d : Drive} : d.asksBias ↔ ∃ r, d.request = some r ∧ r.kind = .bias := by
  simp [asksBias]

theorem Drive.sendsBias_iff {d : Drive} : d.sendsBias ↔ ∃ tx, d.current = some tx ∧ tx.kind = .bias := by
  simp [sendsBias]

theorem Drive.sendSound_iff {d : Drive} {running : Bool} : d.SendSound running ↔
    (running = true → d.biasSend = none) ∧
    (∀ r, d.request = some r → r.kind = TxKind.bias → d.biasSend.isSome = true) ∧
    (∀ tx, d.current = some tx → tx.kind = TxKind.bias → d.biasSend.isSome = true) ∧
    (∀ r tx, d.request = some r → d.current = some tx → ¬ (r.kind = TxKind.bias ∧ tx.kind = TxKind.bias)) := by
  constructor
  · rintro ⟨hrun, hrequest, hcurrent, hone⟩
    rw [asksBias_iff] at hrequest
    rw [sendsBias_iff] at hcurrent
    rw [asksBias_iff, sendsBias_iff] at hone
    exact ⟨hrun, fun r hr hk => hrequest ⟨r, hr, hk⟩, fun tx htx hk => hcurrent ⟨tx, htx, hk⟩,
      fun r tx hr htx hboth => hone ⟨⟨r, hr, hboth.1⟩, tx, htx, hboth.2⟩⟩
  · rintro ⟨hrun, hrequest, hcurrent, hone⟩
    refine ⟨hrun, fun h => ?_, fun h => ?_, fun ⟨hasks, hsends⟩ => ?_⟩
    · obtain ⟨r, hr, hk⟩ := asksBias_iff.mp h
      exact hrequest r hr hk
    · obtain ⟨tx, htx, hk⟩ := sendsBias_iff.mp h
      exact hcurrent tx htx hk
    · obtain ⟨r, hr, hk⟩ := asksBias_iff.mp hasks
      obtain ⟨tx, htx, hk'⟩ := sendsBias_iff.mp hsends
      exact hone r tx hr htx ⟨hk, hk'⟩

theorem State.limitsSound_iff : s.limitsSound ↔ s.InLimits :=
  ⟨fun ⟨htable, hedits, hshape, hheld, hrest, hsend⟩ =>
    ⟨htable, hedits, hshape, hheld, hrest, Drive.sendSound_iff.mpr hsend⟩,
  fun ⟨htable, hedits, hshape, hheld, hrest, hsend⟩ =>
    ⟨htable, hedits, hshape, hheld, hrest, Drive.sendSound_iff.mp hsend⟩⟩

/-- The stage's part reads the limits in the table alone. -/
theorem stageInLimits_congr (hphase : t.stage.phase = s.stage.phase) (htable : t.table.sameFields s.table)
    (h : s.stageInLimits) : t.stageInLimits := by
  have hlimits := htable.limits
  unfold State.stageInLimits at h ⊢
  rw [hphase]
  split
  · trivial
  · next w hw =>
    simp only [hw] at h
    intro a
    rw [(hlimits a).1, (hlimits a).2]
    exact h a
  · next w shape hw =>
    simp only [hw] at h
    intro a
    rw [(hlimits a).1, (hlimits a).2]
    exact h a

theorem stageInLimits_idle (h : s.stage.phase = .idle) : s.stageInLimits := by
  unfold State.stageInLimits
  rw [h]
  trivial

/-- What leaves all that `limitsSound` reads, but for a request or a transaction that is given up. The premises
on the state are those that the `_leaves` lemmas give. -/
theorem State.InLimits.of_quieter (h : s.InLimits) (request : t.drive.asksBias → s.drive.asksBias)
    (current : t.drive.sendsBias → s.drive.sendsBias) (table : t.table = s.table := by simp)
    (hold : t.hold = s.hold := by simp) (phase : t.stage.phase = s.stage.phase := by simp)
    (running : t.loop.state.running = s.loop.state.running := by simp)
    (send : t.drive.biasSend = s.drive.biasSend := by simp) : t.InLimits where
  table := table ▸ h.table
  edits := by rw [table, hold]; exact h.edits
  shape := stageInLimits_congr phase (table ▸ ⟨rfl, rfl, fun _ => rfl⟩) h.shape
  held hflight := by
    rw [State.inFlight, phase, send] at hflight
    exact hold.trans (h.held hflight)
  rest hstop := phase.trans (h.rest (running ▸ hstop))
  send := running ▸ h.send.weaken send request current

theorem State.InLimits.of_frame (h : s.InLimits) (table : t.table = s.table := by simp)
    (hold : t.hold = s.hold := by simp) (phase : t.stage.phase = s.stage.phase := by simp)
    (running : t.loop.state.running = s.loop.state.running := by simp)
    (send : t.drive.biasSend = s.drive.biasSend := by simp)
    (request : t.drive.request = s.drive.request := by simp)
    (current : t.drive.current = s.drive.current := by simp) : t.InLimits :=
  h.of_quieter (by simp [Drive.asksBias, request]) (by simp [Drive.sendsBias, current]) table hold phase running send

/-- The table takes new states and outputs, the fields of its records kept. -/
theorem State.InLimits.withTable (h : s.InLimits) {u : ActTable} (hu : u.sound) (hsame : u.sameFields s.table) :
    ({ s with table := u } : State).InLimits where
  table := hu
  edits := h.edits.of_sameFields hsame
  shape := stageInLimits_congr (s := s) rfl hsame h.shape
  held := h.held
  rest := h.rest
  send := h.send

/-- R100: a flight has ended: the table is sound, nothing is held, and the stage is IDLE. -/
theorem State.InLimits.of_landed (htable : t.table.sound) (hhold : t.hold = []) (hphase : t.stage.phase = .idle)
    (hsend : t.drive.SendSound t.loop.state.running) : t.InLimits where
  table := htable
  edits := by rw [hhold]; trivial
  shape := stageInLimits_idle hphase
  held _ := hhold
  rest _ := hphase
  send := hsend

/-- R99: the table with the held edits is sound. -/
theorem State.InLimits.effective (h : s.InLimits) : s.effective.sound := h.table.applyAll h.edits

theorem inFlight_eq_false_iff : s.inFlight = false ↔ s.stage.phase = .idle ∧ s.drive.biasSend = none := by
  simp [State.inFlight]

end
end Sys2Proof.Machine

namespace Sys2Proof.Machine

section
set_option Elab.async false
variable {s t : State}

/-! #### What a running loop goes on doing (R148, R159, R160) -/

@[simp] theorem enterHold_loopState (cause : LoopCause) (f : Option Frame) (s : State) :
    (enterHold cause f s).loop.state = .hold := by
  simp [enterHold, changeLoop]

/-- R160: a comparison enters no state but HOLD, and only from OPEN or CLOSED. -/
@[simp] theorem compareRun_running (run threshold : Nat) (cause : LoopCause) (f : Option Frame) (s : State) :
    (compareRun run threshold cause f s).loop.state.running = s.loop.state.running := by
  unfold compareRun
  split
  · next hopened =>
    split
    · simp [hopened, LoopState.running]
    · rfl
  · next hclosed =>
    split
    · simp [hclosed, LoopState.running]
    · rfl
  · rfl

@[simp] theorem reportMissed_running (f : Frame) (s : State) :
    (reportMissed f s).loop.state.running = s.loop.state.running := by
  unfold reportMissed
  split
  · exact compareRun_running ..
  · rfl

@[simp] theorem reportStroke_running (f : Frame) (s : State) :
    (reportStroke f s).loop.state.running = s.loop.state.running := by
  unfold reportStroke
  split
  · exact compareRun_running ..
  · rfl

@[simp] theorem reportDrive_running (f : Option Frame) (s : State) :
    (reportDrive f s).loop.state.running = s.loop.state.running := by
  unfold reportDrive
  split
  · exact compareRun_running ..
  · rfl

@[simp] theorem reportUsed_loopState (s : State) : (reportUsed s).loop.state = s.loop.state := by
  unfold reportUsed
  split <;> rfl

@[simp] theorem reportPassed_loopState (s : State) : (reportPassed s).loop.state = s.loop.state := by
  unfold reportPassed
  split <;> rfl

@[simp] theorem reportCommitted_loopState (s : State) : (reportCommitted s).loop.state = s.loop.state := by
  unfold reportCommitted
  split <;> rfl

@[simp] theorem decideMissed_running (k : Nat) (s : State) :
    (decideMissed k s).loop.state.running = s.loop.state.running := by
  unfold decideMissed
  dsimp only
  split <;> simp

@[simp] theorem closeSlot_running (k : Nat) (cause : CloseCause) (s : State) :
    (closeSlot k cause s).loop.state.running = s.loop.state.running := by
  unfold closeSlot
  dsimp only
  split
  · split <;> simp
  · rfl

@[simp] theorem acceptSegment_running (k n : Nat) (seg : Segment) (s : State) :
    (acceptSegment k n seg s).loop.state.running = s.loop.state.running := by
  unfold acceptSegment
  extract_lets slot before after s1 s2
  have h2 : s2.loop.state.running = s.loop.state.running := by
    simp only [s2]
    split
    · exact closeSlot_running ..
    · rfl
  split
  · exact h2
  · exact h2

@[simp] theorem placeHead_running (k n : Nat) (seg : Segment) (s : State) :
    (placeHead k n seg s).loop.state.running = s.loop.state.running := by
  unfold placeHead
  dsimp only
  split <;> simp

@[simp] theorem waitHead_running (n : Nat) (s : State) :
    (waitHead n s).loop.state.running = s.loop.state.running := by
  unfold waitHead
  dsimp only
  split <;> simp

@[simp] theorem decideHead_running (n : Nat) (seg : Segment) (s : State) :
    (decideHead n seg s).loop.state.running = s.loop.state.running := by
  unfold decideHead
  split
  · simp
  split
  · simp
  split
  · simp
  split <;> simp

@[simp] theorem arbitrate_running (fuel : Nat) (s : State) :
    (arbitrate fuel s).loop.state.running = s.loop.state.running := by
  induction fuel generalizing s with
  | zero => rfl
  | succ more ih =>
    unfold arbitrate offerHead
    split
    · split
      · simp
      split
      · rw [ih]
        dsimp only
        split <;> simp
      · rfl
    · rfl

@[simp] theorem arbiter_running (s : State) : (arbiter s).loop.state.running = s.loop.state.running :=
  arbitrate_running ..

/-- R153: a transition that is due goes from running to running. -/
theorem testScheduled_running (g : Frame) (hrun : s.loop.state.running = true) :
    (testScheduled g s).loop.state.running = true := by
  have htracked : ∀ target cause f u, (enterTracking target cause f u).loop.state.running = true := by
    intro target cause f u
    cases target <;> simp [enterTracking, clearRuns, changeLoop, LoopState.running]
  unfold testScheduled
  split
  · exact hrun
  split
  · dsimp only
    split
    · split
      · exact hrun
      · exact htracked ..
    · split
      · exact hrun
      · exact htracked ..
  · exact hrun

/-! #### The command stage (R111 to R125) -/

/-- R100: the stage's work ends with the held edits in the table, which is sound then. -/
theorem endStage_inLimits {k : Nat} (h : s.InLimits) : (endStage k s).InLimits := by
  have happlied : (applyHold s).drive.biasSend = s.drive.biasSend ∧
      (applyHold s).drive.request = s.drive.request ∧ (applyHold s).drive.current = s.drive.current := by
    simp [applyHold]
  obtain ⟨hsend, hrequest, hcurrent⟩ := happlied
  refine .of_landed ?_ ?_ ?_ ?_
  · simpa [endStage, applyHold_table] using h.effective
  · simp [endStage, applyHold_hold]
  · simp [endStage]
  · have hdrive : (endStage k s).drive = (applyHold s).drive := by simp [endStage]
    rw [hdrive, show (endStage k s).loop = s.loop by simp]
    exact h.send.weaken hsend (by simp [Drive.asksBias, hrequest]) (by simp [Drive.sendsBias, hcurrent])

/-- R111: the stage reads the table as it is, in a running loop. -/
theorem beginBuilding_inLimits {k : Nat} (h : s.InLimits) (hrun : s.loop.state.running = true) :
    (beginBuilding k s).InLimits where
  table := h.table
  edits := h.edits
  shape a := ⟨h.table a, rfl, rfl⟩
  held hflight := absurd (inFlight_eq_false_iff.mp hflight).1 nofun
  rest hstop := absurd (hrun.symm.trans hstop) nofun
  send := h.send

theorem enterCommand_inLimits {k : Nat} (h : s.InLimits) (hrun : s.loop.state.running = true) :
    (enterCommand k s).InLimits := by
  unfold enterCommand
  extract_lets s1 s2
  have hrun2 : s2.loop.state.running = true := testScheduled_running _ hrun
  have h2 : s2.InLimits := h.of_frame (by simp [s2, s1]) (by simp [s2, s1]) (by simp [s2, s1])
    (hrun2.trans hrun.symm) (by simp [s2, s1]) (by simp [s2, s1]) (by simp [s2, s1])
  split
  · exact endStage_inLimits h2.of_frame
  · exact beginBuilding_inLimits h2 hrun2

theorem enterCommands_inLimits {fuel : Nat} (h : s.InLimits) : (enterCommands fuel s).InLimits := by
  induction fuel generalizing s with
  | zero => exact h
  | succ more ih =>
    unfold enterCommands
    split
    · next hrun =>
      split
      · exact ih (enterCommand_inLimits h hrun.1)
      · exact h
    · exact h

theorem settle_inLimits (h : s.InLimits) : (settle s).InLimits :=
  State.InLimits.of_frame (t := arbiter (enterCommands 2 s)) (enterCommands_inLimits (fuel := 2) h)

/-- R114: a state that the stage integrates is saturated into the limits, and any other is kept. -/
theorem stagedState_inLimits {r : Actuator} (h : r.sound) (loopRead : LoopState) (g : Gain) (v : Int) :
    256 * r.lo ≤ stagedState loopRead r g v ∧ stagedState loopRead r g v ≤ 256 * r.hi := by
  obtain ⟨hlo, hhi, hx⟩ := h
  unfold stagedState
  split
  · unfold saturate
    split
    · omega
    split <;> omega
  · exact hx

/-- R114, R120: what a built shape would commit keeps to the limits that the stage read. -/
theorem buildShape_inLimits {w : StageFrame} (h : ∀ a, (w.actuator a).sound) (acc : Table Int) {a x : Nat}
    (hx : (buildShape w acc).states[a]? = some x) :
    256 * (w.actuator a).lo ≤ x ∧ x ≤ 256 * (w.actuator a).hi := by
  obtain ⟨b, hb, rfl⟩ : ∃ b, (List.range w.n)[a]? = some b ∧ w.stateOf acc b = x := by
    simpa [buildShape] using hx
  obtain ⟨-, rfl⟩ : a < w.n ∧ a = b := by simpa [List.getElem?_eq_some_iff] using hb
  exact stagedState_inLimits (h a) _ _ _

theorem State.InLimits.running_of_phase (h : s.InLimits) (hphase : s.stage.phase ≠ .idle) :
    s.loop.state.running = true := by
  by_contra hstop
  exact hphase (h.rest (eq_false_of_ne_true hstop))

/-- R120: the request of a shape is no request of a bias send, and takes the place of any other. -/
theorem handOver_inLimits {w : StageFrame} {acc : Table Int} (h : s.InLimits) (hw : s.stage.phase = .building w) :
    (handOver w (buildShape w acc) s).InLimits := by
  have hrun : s.loop.state.running = true := h.running_of_phase (by simp [hw])
  have hrun' : (handOver w (buildShape w acc) s).loop.state.running = true := by
    simpa [handOver] using hrun
  have hread := h.shape
  unfold State.stageInLimits at hread
  rw [hw] at hread
  have hnone : s.drive.biasSend = none := h.send.none_running hrun
  exact {
    table := by simpa using h.table
    edits := by simpa using h.edits
    shape := fun a x hx => by
      obtain ⟨-, hlo, hhi⟩ := hread a
      have hx' := buildShape_inLimits (fun b => (hread b).1) acc hx
      rw [hlo, hhi] at hx'
      simpa using hx'
    held := fun hflight => absurd (inFlight_eq_false_iff.mp hflight).1 nofun
    rest := fun hstop => absurd (hrun'.symm.trans hstop) nofun
    send := by
      refine .of_quiet (fun _ => by simpa [handOver] using hnone) nofun ?_
      simpa [handOver, Drive.sendsBias] using (h.send.quiet hnone).2 }

theorem strokeDrop_inLimits {w : StageFrame} {shape : Shape} (h : s.InLimits) : (strokeDrop w shape s).InLimits :=
  endStage_inLimits h.of_frame

theorem checkShape_inLimits {w : StageFrame} (h : s.InLimits) (hw : s.stage.phase = .building w) :
    (checkShape w s).InLimits := by
  unfold checkShape
  dsimp only
  split
  · exact handOver_inLimits h hw
  · exact settle_inLimits (strokeDrop_inLimits h)

/-- R121: the states of the staged shape are within the limits, which the flight has kept. -/
theorem commitFrame_inLimits {bad : List Nat} (h : s.InLimits) : (commitFrame bad s).InLimits := by
  unfold commitFrame
  split
  · next w shape hw =>
    have hshape := h.shape
    unfold State.stageInLimits at hshape
    rw [hw] at hshape
    have hcommitted : ({ s with table := s.table.commit 0 shape.states shape.outputs } : State).InLimits := by
      refine h.withTable (ActTable.commit_sound h.table _ fun i x hx => ?_) (s.table.commit_sameFields _ _ _)
      rw [Nat.zero_add]
      exact hshape i x hx
    exact endStage_inLimits hcommitted.of_frame
  · exact h

theorem driveDrop_inLimits {reason : DropReason} (h : s.InLimits) : (driveDrop reason s).InLimits := by
  unfold driveDrop
  split
  · dsimp only
    split
    · exact endStage_inLimits h.of_frame
    · exact endStage_inLimits h.of_frame
  · exact h

end
end Sys2Proof.Machine

namespace Sys2Proof.Machine

section
set_option Elab.async false
variable {s t : State}

/-! #### Transactions (R131 to R141) -/

theorem startLinks_drive (tx : Transaction) (idle : Nat → Bool) (ps : List TxLink) (s : State) :
    (ps.foldl (startLink tx idle) s).drive.current = s.drive.current ∧
      (ps.foldl (startLink tx idle) s).drive.request = s.drive.request ∧
      (ps.foldl (startLink tx idle) s).drive.biasSend = s.drive.biasSend :=
  List.foldlRecOn (motive := fun u : State => u.drive.current = s.drive.current ∧
      u.drive.request = s.drive.request ∧ u.drive.biasSend = s.drive.biasSend) _ _ ⟨rfl, rfl, rfl⟩
    fun u hu p _ => by
      unfold startLink
      dsimp only
      split <;> simpa [sendLoad, sendResync] using hu

theorem applyLinks_drive (ps : List TxLink) (s : State) :
    (ps.foldl applyLink s).drive.current = s.drive.current ∧
      (ps.foldl applyLink s).drive.request = s.drive.request ∧
      (ps.foldl applyLink s).drive.biasSend = s.drive.biasSend :=
  List.foldlRecOn (motive := fun u : State => u.drive.current = s.drive.current ∧
      u.drive.request = s.drive.request ∧ u.drive.biasSend = s.drive.biasSend) _ _ ⟨rfl, rfl, rfl⟩
    fun _ hu _ _ => hu

theorem Drive.sendsBias_of_current {d : Drive} {tx : Transaction} (h : d.current = some tx) :
    d.sendsBias ↔ tx.kind = .bias := by simp [sendsBias, h]

/-- R141: the end of a bias send is the end of its flight; the stage is IDLE in it. -/
theorem endBiasSend_inLimits {tx : Transaction} (h : s.InLimits) (hphase : s.stage.phase = .idle)
    (hasks : ¬ s.drive.asksBias) (hsends : ¬ s.drive.sendsBias) : (endBiasSend tx s).InLimits := by
  have heffective : (endBiasSend tx s).table = s.effective := by
    rw [endBiasSend, applyHold_table]
    rfl
  refine .of_landed (heffective ▸ h.effective) (applyHold_hold _) (by simpa using hphase) (.of_quiet ?_ ?_ ?_)
  · simp [endBiasSend, applyHold]
  · simpa [endBiasSend, applyHold, Drive.asksBias] using hasks
  · simpa [endBiasSend, applyHold, Drive.sendsBias] using hsends

theorem endTransaction_inLimits {tx : Transaction} (h : s.InLimits) (htx : s.drive.current = some tx) :
    (endTransaction tx s).InLimits := by
  obtain ⟨hrequest, hsend⟩ := clearOutstanding_drive tx.links s
  unfold endTransaction
  extract_lets s1 d1 s2
  have hasks2 : s2.drive.asksBias → s.drive.asksBias := by simp [s2, d1, s1, Drive.asksBias, hrequest]
  have h2 : s2.InLimits := h.of_quieter hasks2 nofun (by simp [s2, s1]) (by simp [s2, s1]) (by simp [s2, s1])
    (by simp [s2, s1]) hsend
  split
  · exact h2
  · next hkind =>
    have hsends : s.drive.sendsBias := (Drive.sendsBias_of_current htx).mpr hkind
    have hstop : s.stage.phase = .idle := by
      by_contra hphase
      have hnone := h.send.none_running (h.running_of_phase hphase)
      exact (h.send.quiet hnone).2 hsends
    exact endBiasSend_inLimits h2 (by simpa [s2, s1] using hstop)
      (fun hasks => h.send.one ⟨hasks2 hasks, hsends⟩) nofun

theorem checkEnd_inLimits (h : s.InLimits) : (checkEnd s).InLimits := by
  unfold checkEnd
  split
  · exact h
  next htx =>
  split
  · exact h
  · exact endTransaction_inLimits h htx

/-- R131: the transaction of a request takes its kind. -/
theorem beginTransaction_inLimits {r : TxRequest} {idle : Nat → Bool} (h : s.InLimits)
    (hr : s.drive.request = some r) : (beginTransaction r idle s).InLimits := by
  unfold beginTransaction
  extract_lets number links tx _ s1
  have h1 : s1.InLimits := {
    table := h.table
    edits := h.edits
    shape := h.shape
    held := h.held
    rest := h.rest
    send :=
      { none_running := h.send.none_running
        of_request := nofun
        of_current := fun hsends => h.send.of_request (by
          have hkind : r.kind = .bias := Option.some.inj hsends
          simp [Drive.asksBias, hr, hkind])
        one := nofun } }
  obtain ⟨hcurrent, hrequest, hsend⟩ := startLinks_drive tx idle links s1
  exact checkEnd_inLimits (h1.of_frame (send := hsend) (request := hrequest) (current := hcurrent))

/-- R134, R139: a transaction that is released stays of its kind. -/
theorem releaseTransaction_inLimits {tx : Transaction} (h : s.InLimits) (htx : s.drive.current = some tx) :
    (releaseTransaction tx s).InLimits := by
  obtain ⟨hcurrent, hrequest, hsend⟩ := releaseTransaction_drive tx s
  refine h.of_quieter ?_ ?_ (send := hsend)
  · simp [Drive.asksBias, hrequest]
  · rw [Drive.sendsBias_of_current htx, Drive.sendsBias_of_current hcurrent]
    exact id

theorem dropTransaction_inLimits {reason : DropReason} (h : s.InLimits) : (dropTransaction reason s).InLimits := by
  unfold dropTransaction
  split
  · exact h
  next htx =>
  split
  · exact h
  have hreleased := releaseTransaction_inLimits h htx
  dsimp only
  split
  · exact checkEnd_inLimits (driveDrop_inLimits hreleased)
  · exact checkEnd_inLimits hreleased

theorem abandonShape_inLimits (h : s.InLimits) : (abandonShape s).InLimits := by
  unfold abandonShape
  extract_lets _ s1
  have h1 : s1.InLimits := by
    simp only [s1]
    split
    · split
      · exact h.of_quieter nofun id (send := rfl)
      · exact h
    · exact h
  split
  · exact h1
  next htx =>
  split
  · exact checkEnd_inLimits (releaseTransaction_inLimits h1 htx)
  · exact h1

/-- R136: the pulse commits the frame, or makes the biases the last outputs (R141). -/
theorem updatePulse_inLimits {tx : Transaction} {bad : List Nat} (h : s.InLimits)
    (htx : s.drive.current = some tx) : (updatePulse tx bad s).InLimits := by
  unfold updatePulse
  extract_lets _ s1 s2 s3
  have hkind : s1.drive.sendsBias → s.drive.sendsBias := fun hsends =>
    (Drive.sendsBias_of_current htx).mpr (Option.some.inj hsends)
  have h1 : s1.InLimits := h.of_quieter id hkind rfl rfl rfl rfl rfl
  obtain ⟨hcurrent, hrequest, hsend⟩ := applyLinks_drive tx.links s1
  have h2 : s2.InLimits := h1.of_frame (t := s2) (by simp [s2]) (by simp [s2]) (by simp [s2]) (by simp [s2])
    hsend hrequest hcurrent
  have h3 : s3.InLimits := by
    simp only [s3]
    split
    · exact commitFrame_inLimits h2
    · unfold pulseBias
      split
      · exact h2
      · exact h2.withTable (ActTable.biasOutputs_sound h2.table _ _) (ActTable.biasOutputs_sameFields _ _ _)
  exact h3.of_quieter id id (send := rfl)

theorem pulseIfLoaded_inLimits {bad : List Nat} (h : s.InLimits) : (pulseIfLoaded bad s).InLimits := by
  unfold pulseIfLoaded
  split
  · exact h
  next htx =>
  split
  · exact updatePulse_inLimits h htx
  · exact h

/-- R140: a bias send begins at rest, with each state at 256 times its bias. -/
theorem beginBiasSend_inLimits (h : s.InLimits) (hstop : s.loop.state.running = false)
    (hnone : s.drive.biasSend = none) : (beginBiasSend s).InLimits := by
  have hidle : s.stage.phase = .idle := h.rest hstop
  have hhold : s.hold = [] := h.held (inFlight_eq_false_iff.mpr ⟨hidle, hnone⟩)
  refine .of_landed (ActTable.biasStates_sound h.table fun i b hb => ?_) hhold hidle ?_
  · rw [Nat.zero_add]
    exact ActTable.biases_inLimits h.table hb
  · have hquiet : ¬ s.drive.sendsBias := (h.send.quiet hnone).2
    exact ⟨fun hrun => absurd (hstop.symm.trans hrun) nofun, fun _ => rfl, fun _ => rfl,
      fun hboth => hquiet hboth.2⟩

/-! #### Entry to STOPPED and to SAFE (R154 to R156) -/

theorem Drive.SendSound.at_rest {d : Drive} {running : Bool} (h : d.SendSound running) : d.SendSound false :=
  ⟨nofun, h.of_request, h.of_current, h.one⟩

/-- R125: the abandonment of the stage follows the change of the loop's state. -/
theorem abandonStage_inLimits (h : s.InLimits) (hstop : t.loop.state.running = false)
    (htable : t.table = s.table) (hhold : t.hold = s.hold) (hphase : t.stage.phase = s.stage.phase)
    (hdrive : t.drive = s.drive) : (abandonStage t).InLimits := by
  have hsend : t.drive.SendSound t.loop.state.running := by
    rw [hdrive, hstop]
    exact h.send.at_rest
  have heffective : t.effective.sound := by
    rw [effective_congr htable hhold]
    exact h.effective
  unfold abandonStage
  split
  · next hidle => exact {
      table := htable ▸ h.table
      edits := by rw [htable, hhold]; exact h.edits
      shape := stageInLimits_idle hidle
      held := fun hflight => by
        rw [State.inFlight, hphase, hdrive] at hflight
        exact hhold.trans (h.held hflight)
      rest := fun _ => hidle
      send := hsend }
  · refine .of_landed ?_ (applyHold_hold _) rfl ?_
    · change (applyHold _).table.sound
      rw [applyHold_table]
      exact heffective
    · rw [show ∀ u : State, (applyHold u).loop = u.loop by simp]
      refine hsend.weaken ?_ ?_ ?_
      all_goals simp [applyHold, Drive.asksBias, Drive.sendsBias]

end
end Sys2Proof.Machine

namespace Sys2Proof.Machine

section
set_option Elab.async false
variable {s t : State}

theorem enterRest_inLimits {entered : LoopState} {cause : LoopCause} {frame : Option Frame} {scanCause : EndCause}
    (h : s.InLimits) (hrest : entered.running = false) : (enterRest entered cause frame scanCause s).InLimits := by
  have hhalted : (haltLoop entered cause frame scanCause s).InLimits := by
    refine abandonStage_inLimits h ?_ (by simp) (by simp) (by simp) (by simp)
    simpa [clearRuns, changeLoop] using hrest
  rw [enterRest_eq]
  exact abandonShape_inLimits hhalted.of_frame

theorem enterSafe_inLimits {cause : LoopCause} {f : Option Frame} (h : s.InLimits) :
    (enterSafe cause f s).InLimits := by
  have hrest : (enterRest .safe cause f .safe s).InLimits := enterRest_inLimits h rfl
  unfold enterSafe
  split
  · exact h
  extract_lets s1 l1 s2
  have hstate : s2.loop.state = (enterRest .safe cause f .safe s).loop.state := by simp [s2, l1, s1]
  have hsafe : s2.loop.state.running = false := by
    rw [hstate, enterRest_loop_eq]
    rfl
  have h2 : s2.InLimits := hrest.of_frame (by simp [s2, s1]) (by simp [s2, s1]) (by simp [s2, s1])
    (by rw [hstate]) (by simp [s2, s1]) (by simp [s2, s1]) (by simp [s2, s1])
  split
  · exact h2
  · next hnone => exact beginBiasSend_inLimits h2 hsafe (by simpa using hnone)

theorem dropAndSafe_inLimits {order : SafeOrder} {reason : DropReason} {cause : LoopCause} {f : Option Frame}
    {between : State → State} (h : s.InLimits) (hb : ∀ u : State, u.InLimits → (between u).InLimits) :
    (dropAndSafe order reason cause f between s).InLimits := by
  cases order with
  | dropFirst => exact enterSafe_inLimits (hb _ (settle_inLimits (dropTransaction_inLimits h)))
  | safeFirst => exact dropTransaction_inLimits (enterSafe_inLimits (hb _ h))

/-! #### Tracking, edits and resets (R99, R101, R109, R150, R158, R200, R201) -/

/-- R150: OPEN and CLOSED are entered with no bias send in flight. -/
theorem enterTracking_inLimits {target : Target} {cause : LoopCause} {f : Option Frame} (h : s.InLimits)
    (hnone : s.drive.biasSend = none) : (enterTracking target cause f s).InLimits := by
  have hrun : (enterTracking target cause f s).loop.state.running = true := by
    cases target <;> simp [enterTracking, clearRuns, changeLoop, LoopState.running]
  exact {
    table := by simpa using h.table
    edits := by simpa using h.edits
    shape := stageInLimits_congr (s := s) (by simp) (by simpa using ⟨rfl, rfl, fun _ => rfl⟩) h.shape
    held := by simpa [State.inFlight] using h.held
    rest := fun hstop => absurd (hrun.symm.trans hstop) nofun
    send := by simpa using .of_quiet (fun _ => hnone) (h.send.quiet hnone).1 (h.send.quiet hnone).2 }

/-- R99: an edit that passes its check is applied, or held for the table that the edits before it make. -/
theorem takeEdit_inLimits {e : Edit} (h : s.InLimits) (he : s.effective.takes e) : (takeEdit e s).after.InLimits := by
  unfold takeEdit
  split
  · next hflight =>
    split
    · exact h
    · exact {
        table := h.table
        edits := ActTable.takesAll_append h.edits he
        shape := h.shape
        held := fun hnone => absurd (hflight.symm.trans hnone) nofun
        rest := h.rest
        send := h.send }
  · next hflight =>
    have hflight : s.inFlight = false := eq_false_of_ne_true hflight
    have hhold : s.hold = [] := h.held hflight
    rw [effective_nil s hhold] at he
    have happlied : ({ s with table := s.table.apply e } : State).InLimits :=
      .of_landed (h.table.apply he) hhold (inFlight_eq_false_iff.mp hflight).1 h.send
    exact State.InLimits.of_frame (t := settleLinks _) happlied

/-- R101: a new N, out of flight, leaves the records. -/
theorem withCount_inLimits (h : s.InLimits) (hstop : s.loop.state = .stopped) (hnone : s.drive.biasSend = none)
    (n : Nat) : (settleLinks { s with table := { s.table with n := n } }).InLimits := by
  have hidle : s.stage.phase = .idle := h.rest (by rw [hstop]; rfl)
  have hhold : s.hold = [] := h.held (inFlight_eq_false_iff.mpr ⟨hidle, hnone⟩)
  have hcount : ({ s with table := { s.table with n := n } } : State).InLimits :=
    .of_landed h.table hhold hidle h.send
  exact State.InLimits.of_frame (t := settleLinks _) hcount

/-- R109: the soft reset applies the held edits, or makes the records those of the hard reset. -/
theorem softReset_inLimits (h : s.InLimits) : (softReset s).InLimits := by
  obtain ⟨-, hcurrent, hrequest, hsend, -⟩ := softReset_drive s
  refine .of_landed ?_ (softReset_hold s) (by rw [softReset_stage]; rfl)
    (.of_quiet (fun _ => hsend) (by simp [Drive.asksBias, hrequest]) (by simp [Drive.sendsBias, hcurrent]))
  cases hkeep : s.port.features.keep with
  | true =>
    obtain ⟨-, -, -, htable⟩ := softReset_kept hkeep
    exact htable ▸ h.effective
  | false =>
    obtain ⟨-, -, -, htable⟩ := softReset_wiped hkeep
    exact htable ▸ Actuator.reset_sound

theorem hardReset_inLimits (s : State) : (hardReset s).InLimits :=
  .of_landed Actuator.reset_sound rfl rfl (.of_quiet (fun _ => rfl) nofun nofun)

/-! #### The events of the links -/

theorem onReceiver_inLimits {n : Nat} {f : State → State} (h : s.InLimits) (hf : (f s).InLimits) :
    (onReceiver n f s).InLimits := by
  unfold onReceiver
  split
  · exact hf
  · exact h

theorem onDriveLink_inLimits {l : Nat} {f : State → State} (h : s.InLimits) (hf : (f s).InLimits) :
    (onDriveLink l f s).InLimits := by
  unfold onDriveLink
  split
  · exact hf
  · exact h

theorem arrive_inLimits {n : Nat} {bytes : List Byte} (h : s.InLimits) : (arrive n bytes s).InLimits := by
  unfold arrive
  split
  · dsimp only
    split
    · exact h.of_frame
    · exact h.of_frame
    · exact h.of_frame
    · exact settle_inLimits h.of_frame
  · exact h

theorem workNextSlope_inLimits {w : SegmentWork} {slope : Int} {rest : List Int} {bad : List Nat} (h : s.InLimits) :
    (workNextSlope w slope rest bad s).InLimits := by
  unfold workNextSlope
  dsimp only
  split
  · exact settle_inLimits h.of_frame
  · exact h.of_frame

theorem setDriveLink_inLimits (h : s.InLimits) (l : Nat) (r : DriveLink) : (s.setDriveLink l r).InLimits :=
  h.of_frame rfl rfl rfl rfl rfl rfl rfl

theorem stickLink_inLimits {l : Nat} {order : SafeOrder} {between : State → State} (h : s.InLimits)
    (hb : ∀ u : State, u.InLimits → (between u).InLimits) : (stickLink l order between s).InLimits := by
  unfold stickLink
  split
  · exact dropAndSafe_inLimits (setDriveLink_inLimits h l _) hb
  · exact h

theorem takeTaken_inLimits {l : Nat} {number : Byte} {bad : List Nat} (h : s.InLimits) :
    (takeTaken l number bad s).InLimits := by
  unfold takeTaken
  extract_lets r late s1
  have h1 : s1.InLimits := setDriveLink_inLimits h l _
  split
  · refine settle_inLimits ?_
    split
    · exact checkEnd_inLimits h1
    · exact pulseIfLoaded_inLimits h1
  · exact setDriveLink_inLimits h l _

theorem takeRefused_inLimits {l : Nat} {number : Byte} {reason : RefuseReason} {order : SafeOrder}
    {between : State → State} (h : s.InLimits) (hb : ∀ u : State, u.InLimits → (between u).InLimits) :
    (takeRefused l number reason order between s).InLimits := by
  unfold takeRefused
  extract_lets r s1
  have h1 : s1.InLimits := setDriveLink_inLimits h l _
  split
  · split
    · cases reason with
      | crc | length => exact checkEnd_inLimits h1
      | channelFault => exact enterSafe_inLimits (hb _ (checkEnd_inLimits h1))
    · cases reason with
      | crc | length => exact settle_inLimits (dropTransaction_inLimits h1)
      | channelFault => exact dropAndSafe_inLimits h1 hb
  · exact setDriveLink_inLimits h l _

theorem expireReply_inLimits {l : Nat} (h : s.InLimits) : (expireReply l s).InLimits := by
  unfold expireReply
  dsimp only
  split
  · split
    · exact checkEnd_inLimits (setDriveLink_inLimits h l _)
    · exact settle_inLimits (dropTransaction_inLimits (setDriveLink_inLimits h l _))
  · exact h

theorem recoverLink_inLimits {l : Nat} (h : s.InLimits) : (recoverLink l s).InLimits := by
  unfold recoverLink
  split
  · exact setDriveLink_inLimits (setDriveLink_inLimits h l _) _ _
  · exact h

/-- The current transaction changes, but not its kind. -/
theorem withCurrent_inLimits {tx tx' : Transaction} (h : s.InLimits) (htx : s.drive.current = some tx)
    (hkind : tx'.kind = tx.kind := by rfl) :
    ({ s with drive := { s.drive with current := some tx' } } : State).InLimits :=
  h.of_quieter id
    (fun hsends => (Drive.sendsBias_of_current htx).mpr (hkind.symm.trans (Option.some.inj hsends))) (send := rfl)

theorem noteApplied_inLimits {l : Nat} (h : s.InLimits) : (noteApplied l s).InLimits := by
  unfold noteApplied
  split
  · exact h
  · next htx => exact withCurrent_inLimits h htx

theorem takeApplied_inLimits {l : Nat} {number : Byte} (h : s.InLimits) : (takeApplied l number s).InLimits := by
  unfold takeApplied
  split
  · exact checkEnd_inLimits (noteApplied_inLimits (setDriveLink_inLimits h l _))
  · exact setDriveLink_inLimits h l _

theorem reportApplyTimeout_inLimits (h : s.InLimits) : (reportApplyTimeout s).InLimits := by
  unfold reportApplyTimeout
  split
  · exact h
  next tx htx =>
  split
  · exact State.InLimits.of_frame (t := reportDrive _ _)
      (withCurrent_inLimits (tx' := { tx with timeoutReported := true }) h htx)
  · exact h

theorem expireApply_inLimits {l : Nat} (h : s.InLimits) : (expireApply l s).InLimits := by
  unfold expireApply
  split
  · exact checkEnd_inLimits (reportApplyTimeout_inLimits h.of_frame)
  · exact h

theorem takeFault_inLimits {l : Nat} {order : SafeOrder} {between : State → State} (h : s.InLimits)
    (hb : ∀ u : State, u.InLimits → (between u).InLimits) : (takeFault l order between s).InLimits := by
  have hfault : (faultLink l s).InLimits := h.of_frame rfl rfl rfl rfl rfl rfl rfl
  have hleft : (leaveTransaction l (faultLink l s)).InLimits := setDriveLink_inLimits hfault l _
  have hsafe : ∀ {u : State} {cause f}, u.InLimits → (enterSafe cause f (between u)).InLimits := fun hu =>
    enterSafe_inLimits (hb _ hu)
  unfold takeFault afterFault
  dsimp only
  split
  · exact hsafe hfault
  next tx p hpart =>
  have htx : (faultLink l s).drive.current = some tx := by
    unfold txPart at hpart
    split at hpart
    · cases hpart
    · next htx =>
      obtain ⟨_, -, hp⟩ := Option.map_eq_some_iff.mp hpart
      exact htx.trans (congrArg (fun q : Transaction × TxLink => some q.1) hp)
  split
  · exact hsafe (checkEnd_inLimits (withCurrent_inLimits hfault htx))
  split
  · exact hsafe (checkEnd_inLimits hleft)
  split
  · exact hsafe hleft
  · exact dropAndSafe_inLimits hleft hb

end
end Sys2Proof.Machine

namespace Sys2Proof.Machine

section
set_option Elab.async false
variable {s t : State}

/-! #### Requests -/

theorem conclude_inLimits {env : Envelope} {code : Nat} {v : Verdict} (h : v.after.InLimits) :
    (conclude env code v).InLimits := by
  have hreply : ∀ {u : State} {status clamped payload}, u.InLimits →
      (replyWith env status clamped payload u).InLimits := fun hu => hu.of_frame
  cases v with
  | ok payload clamped u => exact hreply h
  | accepted u => exact hreply h
  | refused status position detail value owner u =>
    have hentered : (enterFault env code status position detail value owner u).InLimits :=
      State.InLimits.of_frame (s := u) h
    have hreported : ∀ {w : State}, w.InLimits → (reportRefusal env code status w).InLimits := fun hw => hw.of_frame
    exact hreply (hreported hentered)

theorem takeFrame_inLimits {env : Envelope} (h : s.InLimits) : (takeFrame env s).InLimits := h.of_frame

theorem takeRequest_inLimits {env : Envelope} {code : Nat} {body : State → Verdict} (h : s.InLimits)
    (hbody : ∀ u : State, u.InLimits → (body u).after.InLimits) : (takeRequest env code body s).InLimits := by
  have htaken : (takeFrame env s).InLimits := takeFrame_inLimits h
  unfold takeRequest
  split
  · exact h.of_frame
  split
  · exact h
  refine conclude_inLimits ?_
  unfold verdictOf
  split
  · exact htaken
  · exact hbody _ htaken

theorem whenFits_inLimits {env : Envelope} {body : Verdict} (h : s.InLimits) (hbody : body.after.InLimits) :
    (whenFits env s body).after.InLimits := by
  unfold whenFits
  split
  · exact hbody
  · exact h

theorem done_inLimits (h : t.InLimits) : (Verdict.done t).after.InLimits := h

/-- R102 check 3: the bias of every record that passes lies in the limits that the record gives. -/
theorem takes_of_pass {t : ActTable} {first position : Nat} {records : List ActFields}
    (h : recordsFault s t first position records = none) : ∀ f ∈ records, f.lo ≤ f.bias ∧ f.bias ≤ f.hi := by
  induction records generalizing position with
  | nil => nofun
  | cons f rest ih =>
    unfold recordsFault at h
    split at h
    · cases h
    next hpass =>
    refine List.forall_mem_cons.mpr ⟨?_, ih h⟩
    by_contra hout
    have hlimit : f.bias < f.lo ∨ f.hi < f.bias := by omega
    simp only [recordFault, if_pos hlimit] at hpass
    repeat' split at hpass
    all_goals cases hpass

theorem actWriteBody_inLimits {env : Envelope} {first : Nat} {records : List ActFields} (h : s.InLimits) :
    (actWriteBody env first records s).after.InLimits := by
  refine whenFits_inLimits h ?_
  iterate 2
    split
    · exact h
  split
  · exact h
  next hpass =>
  split
  · exact h
  · exact takeEdit_inLimits h (takes_of_pass hpass)

/-- R104: a FORCED value is checked against the limits in the effective table. -/
theorem actModeBody_inLimits {env : Envelope} {a mode : Nat} {value : Option Nat} (h : s.InLimits) :
    (actModeBody env a mode value s).after.InLimits := by
  refine whenFits_inLimits h ?_
  split
  · exact h
  split
  · exact h
  · exact h
  · next v _ =>
    dsimp only
    split
    · exact h
    · next hlimits =>
      have hv : (s.effective.actuator a).lo ≤ v ∧ v ≤ (s.effective.actuator a).hi := by omega
      exact takeEdit_inLimits h hv
  · exact h
  · next m _ _ => exact takeEdit_inLimits h (by cases m <;> trivial)

theorem pairWriteBody_inLimits {env : Envelope} {a b dmax : Nat} (h : s.InLimits) :
    (pairWriteBody env a b dmax s).after.InLimits := by
  refine whenFits_inLimits h ?_
  dsimp only
  iterate 8
    split
    · exact h
  · exact takeEdit_inLimits h trivial

theorem pairRemoveBody_inLimits {env : Envelope} {a b : Nat} (h : s.InLimits) :
    (pairRemoveBody env a b s).after.InLimits := by
  refine whenFits_inLimits h ?_
  iterate 3
    split
    · exact h
  · exact takeEdit_inLimits h trivial

theorem actCountBody_inLimits {env : Envelope} {n : Nat} (h : s.InLimits) :
    (actCountBody env n s).after.InLimits := by
  refine whenFits_inLimits h ?_
  iterate 2
    split
    · exact h
  split
  · exact h
  next hstop =>
  split
  · exact h
  next hsend =>
  split
  · exact h
  · exact withCount_inLimits h (by simpa using hstop) (by simpa using hsend) n

theorem flattenBody_inLimits {env : Envelope} (h : s.InLimits) : (flattenBody env s).after.InLimits := by
  refine whenFits_inLimits h ?_
  split
  · exact h
  next hsend =>
  split
  · exact h
  next hstop => exact beginBiasSend_inLimits h (by simpa using hstop) (by simpa using hsend)

theorem leaveHold_inLimits {target : Target} {cause : LoopCause} (h : s.InLimits) (hrun : s.loop.state.running = true) :
    (leaveHold target cause s).after.InLimits := by
  unfold leaveHold
  split
  · exact h
  · exact enterTracking_inLimits h (h.send.none_running hrun)

theorem openNow_inLimits (h : s.InLimits) : (openNow s).after.InLimits := by
  unfold openNow
  split
  · unfold openFromStopped
    split
    · exact h
    next hsend =>
    iterate 5
      split
      · exact h
    · exact done_inLimits (enterTracking_inLimits h (by simpa using hsend))
  · exact h
  · next hstate => exact done_inLimits (enterTracking_inLimits h (h.send.none_running (by rw [hstate]; rfl)))
  · next hstate => exact leaveHold_inLimits h (by rw [hstate]; rfl)
  · exact h

theorem closeNow_inLimits (h : s.InLimits) : (closeNow s).after.InLimits := by
  unfold closeNow
  split
  · exact h
  · next hstate => exact done_inLimits (enterTracking_inLimits h (h.send.none_running (by rw [hstate]; rfl)))
  · exact h
  · next hstate => exact leaveHold_inLimits h (by rw [hstate]; rfl)
  · exact h

theorem schedule_inLimits {env : Envelope} {target : Target} {f : Frame} (h : s.InLimits) :
    (schedule env target f s).after.InLimits := by
  unfold schedule
  repeat' split
  all_goals exact h.of_frame

theorem resetSoftBody_inLimits {env : Envelope} (h : s.InLimits) : (resetSoftBody env s).after.InLimits := by
  refine whenFits_inLimits h ?_
  split
  · exact softReset_inLimits h
  · exact h.of_frame

theorem whenLoading_inLimits {env : Envelope} {act : Nat → Nat → Verdict} (h : s.InLimits)
    (hact : ∀ b owner, (act b owner).after.InLimits) : (whenLoading env s act).after.InLimits := by
  unfold whenLoading
  split
  · exact h
  · split
    · exact hact _ _
    · exact h
  · split
    · exact h
    · exact h

/-- An outcome whose next state keeps to the limits. -/
def leadsInLimits (o : Host.Outcome State Fault Refusal) : Prop := ∀ t, o = .next t → t.InLimits

theorem next_leadsInLimits (h : s.InLimits) : leadsInLimits (.next s) := by
  rintro t ⟨⟩
  exact h

theorem awake_leadsInLimits {f : State → State} (h : s.InLimits) (hf : (f s).InLimits) :
    leadsInLimits (awake s f) := by
  refine next_leadsInLimits ?_
  split
  · exact h
  · exact hf

theorem request_leadsInLimits {env : Envelope} {code : Nat} {body : State → Verdict} (h : s.InLimits)
    (hbody : ∀ u : State, u.InLimits → (body u).after.InLimits) : leadsInLimits (request env code body s) :=
  awake_leadsInLimits h (takeRequest_inLimits h hbody)

theorem loadOpenTest_inLimits {b rows columns shift block master : Nat} (h : s.InLimits) :
    (loadOpenTest b rows columns shift block master s).after.InLimits := by
  unfold loadOpenTest
  repeat' split
  all_goals exact h.of_frame

theorem blockReopenBody_inLimits {env : Envelope} {bank block : Nat} (h : s.InLimits) :
    (blockReopenBody env bank block s).after.InLimits := by
  refine whenFits_inLimits h ?_
  split
  · exact h
  dsimp only
  repeat' split
  all_goals exact h.of_frame

theorem refWriteBody_inLimits {env : Envelope} {n first count : Nat} {offsets : List Int} (h : s.InLimits) :
    (refWriteBody env n first count offsets s).after.InLimits := by
  unfold refWriteBody
  iterate 5
    split
    · exact h
  · exact h.of_frame

/-- Every request keeps to the limits; an event is no request. Most requests change neither the table nor the
hold, the stage, the loop's state or a bias send. -/
theorem runRequest_leadsInLimits {i : Instr} (h : s.InLimits) : leadsInLimits (runRequest i s) := by
  cases i
  case actCount => exact request_leadsInLimits h fun _ hu => actCountBody_inLimits hu
  case actWrite => exact request_leadsInLimits h fun _ hu => actWriteBody_inLimits hu
  case actMode => exact request_leadsInLimits h fun _ hu => actModeBody_inLimits hu
  case pairWrite => exact request_leadsInLimits h fun _ hu => pairWriteBody_inLimits hu
  case pairRemove => exact request_leadsInLimits h fun _ hu => pairRemoveBody_inLimits hu
  case flatten => exact request_leadsInLimits h fun _ hu => flattenBody_inLimits hu
  case loopStop =>
    refine request_leadsInLimits h fun _ hu => whenFits_inLimits hu ?_
    split
    · exact hu
    · exact done_inLimits (enterRest_inLimits hu rfl)
  case loopSafe =>
    exact request_leadsInLimits h fun _ hu => whenFits_inLimits hu (done_inLimits (enterSafe_inLimits hu))
  case resetSoft => exact request_leadsInLimits h fun _ hu => resetSoftBody_inLimits hu
  case loopOpen atFrame =>
    refine request_leadsInLimits h fun _ hu => whenFits_inLimits hu ?_
    cases atFrame with
    | none => exact openNow_inLimits hu
    | some f => exact schedule_inLimits hu
  case loopClose atFrame =>
    refine request_leadsInLimits h fun _ hu => whenFits_inLimits hu ?_
    cases atFrame with
    | none => exact closeNow_inLimits hu
    | some f => exact schedule_inLimits hu
  case refWrite => exact request_leadsInLimits h fun _ hu => refWriteBody_inLimits hu
  case loadSegment =>
    refine request_leadsInLimits h fun _ hu => whenFits_inLimits hu ?_
    iterate 2
      split
      · exact hu
    refine whenLoading_inLimits hu fun _ _ => ?_
    repeat' split
    all_goals exact hu.of_frame
  case loadFlush =>
    exact request_leadsInLimits h fun _ hu => whenFits_inLimits hu (whenLoading_inLimits hu fun _ _ => hu.of_frame)
  case loadClose =>
    refine request_leadsInLimits h fun _ hu => whenFits_inLimits hu (whenLoading_inLimits hu fun _ _ => ?_)
    dsimp only
    split
    all_goals exact hu.of_frame
  case loadOpen =>
    refine request_leadsInLimits h fun _ hu => whenFits_inLimits hu ?_
    iterate 8
      split
      · exact hu
    · exact loadOpenTest_inLimits hu
  case blockReopen => exact request_leadsInLimits h fun _ hu => blockReopenBody_inLimits hu
  case mapRead | slotStatus | engineStatus | gainRead | stageStatus | loopStatus | scanStatus | telemStatus |
      ident | portStatus | faultDetail | attnRead =>
    exact request_leadsInLimits h fun _ hu => whenFits_inLimits hu hu
  case swapCancel | scanStop | telemReset | loopConfig =>
    exact request_leadsInLimits h fun _ hu => whenFits_inLimits hu hu.of_frame
  case linkCountersClear | sensorScale | mapWrite | loadAbort | bankClear | swap | scanStart | telemPop |
      linkStatus | sensorRole | sensorTag | sensorCount | sensorRead | refRead | storeRead | loadStatus | actRead |
      gainWrite | pairRead | linkReset | linkConfig | telemSelect | captureRead | featureSet | featureGet |
      attnMask | attnAck =>
    refine request_leadsInLimits h fun _ hu => whenFits_inLimits hu ?_
    repeat' split
    all_goals exact hu.of_frame
  all_goals exact next_leadsInLimits h

/-! #### Complete frames (R186 to R188) -/

theorem requestFrame_leadsInLimits {bytes : List Byte} {uncorrectable : List Nat} (h : s.InLimits) :
    leadsInLimits (execRequestFrameComplete bytes uncorrectable s) := by
  have hport : ∀ p, State.InLimits { s with port := p } := fun p => h.of_frame
  have hbegun := hport { s.port with reception := none }
  unfold execRequestFrameComplete
  split
  · exact next_leadsInLimits h
  unfold checkFrame
  dsimp only
  split
  · exact next_leadsInLimits (hport _)
  split
  · exact next_leadsInLimits (hport _)
  unfold checkSound
  split
  · exact next_leadsInLimits (hport _)
  split
  · unfold takeSound
    split
    · exact runRequest_leadsInLimits hbegun
    · exact next_leadsInLimits (conclude_inLimits (takeFrame_inLimits hbegun))
  · exact next_leadsInLimits hbegun

/-- R154: what a frame does between the act of a link and the entry to SAFE. -/
theorem takeBetween_inLimits (between : Option BusFrame) (u : State) (h : u.InLimits) :
    (takeBetween between u).InLimits := by
  cases between with
  | none => exact h
  | some f =>
    rcases takeBetween_frame f u with hnext | hsame
    · exact requestFrame_leadsInLimits h _ hnext
    · rw [hsame]
      exact h

/-! #### Every command -/

theorem exec_leadsInLimits {i : Instr} (h : s.InLimits) : leadsInLimits (exec i s) := by
  have hrequest : leadsInLimits (runRequest i s) := runRequest_leadsInLimits h
  cases i
  case lockAchieved | lossOfLock | startDelimiter | idleFillCut | excessByte =>
    exact awake_leadsInLimits h (onReceiver_inLimits h h.of_frame)
  case silenceTimerExpiry =>
    refine awake_leadsInLimits h (onReceiver_inLimits h ?_)
    split
    · exact h.of_frame
    · exact h
  case segmentArrival => exact awake_leadsInLimits h (onReceiver_inLimits h (arrive_inLimits h))
  case slopeWork =>
    unfold exec execSlopeWork
    refine awake_leadsInLimits h ?_
    split
    · split
      · exact h
      · exact workNextSlope_inLimits h
    · exact h
  case deadlineExpiry =>
    refine awake_leadsInLimits h ?_
    split
    · exact settle_inLimits h.of_frame
    · exact h
  case fillInColumn =>
    unfold exec execFillInColumn
    refine awake_leadsInLimits h ?_
    split
    · split
      · exact h.of_frame
      · exact h
    · exact h
  case residualsDone =>
    unfold exec execResidualsDone
    refine awake_leadsInLimits h ?_
    split
    · split
      · exact h
      · exact settle_inLimits h.of_frame
    · exact h
  case shapeChecked =>
    unfold exec execShapeChecked
    refine awake_leadsInLimits h ?_
    split
    · next hw => exact checkShape_inLimits h hw
    · exact h
  case transactionBegin =>
    unfold exec execTransactionBegin
    refine awake_leadsInLimits h ?_
    split
    · exact h
    next hr =>
    split
    · exact h
    · exact beginTransaction_inLimits h hr
  case recoveryLineIdle => exact awake_leadsInLimits h (onDriveLink_inLimits h (recoverLink_inLimits h))
  case recoveryWindowExpiry =>
    exact awake_leadsInLimits h (onDriveLink_inLimits h (stickLink_inLimits h (takeBetween_inLimits _)))
  case takenReply => exact awake_leadsInLimits h (onDriveLink_inLimits h (takeTaken_inLimits h))
  case refusedReply =>
    exact awake_leadsInLimits h (onDriveLink_inLimits h (takeRefused_inLimits h (takeBetween_inLimits _)))
  case replyTimerExpiry => exact awake_leadsInLimits h (onDriveLink_inLimits h (expireReply_inLimits h))
  case returnFrameDiscard =>
    refine awake_leadsInLimits h (onDriveLink_inLimits h ?_)
    split
    · exact h.of_frame
    · exact h
  case appliedReply => exact awake_leadsInLimits h (onDriveLink_inLimits h (takeApplied_inLimits h))
  case applyTimerExpiry => exact awake_leadsInLimits h (onDriveLink_inLimits h (expireApply_inLimits h))
  case faultReport =>
    exact awake_leadsInLimits h (onDriveLink_inLimits h (takeFault_inLimits h (takeBetween_inLimits _)))
  case verifyColumnRead =>
    unfold exec execVerifyColumnRead
    refine awake_leadsInLimits h ?_
    split
    · exact h.of_frame
    · exact h
  case busSilenceGap =>
    unfold exec execBusSilenceGap
    exact awake_leadsInLimits h h.of_frame
  case overlengthHeader =>
    unfold exec execOverlengthHeader
    exact awake_leadsInLimits h h.of_frame
  case requestFrameComplete => exact requestFrame_leadsInLimits h
  case replySent =>
    refine awake_leadsInLimits h ?_
    unfold replyDone
    split
    · split
      · exact softReset_inLimits h.of_frame
      · exact h.of_frame
    · exact h
  case replyLost => exact awake_leadsInLimits h h.of_frame
  case replyWouldHaveEnded =>
    refine awake_leadsInLimits h ?_
    unfold replyEnded
    split
    · exact softReset_inLimits h.of_frame
    · exact h
  case hardReset => exact next_leadsInLimits (hardReset_inLimits s)
  case resetRelease =>
    refine next_leadsInLimits ?_
    unfold releaseReset
    split
    · exact h.of_frame
    · exact h
  all_goals exact hrequest

/-- Settles O11: edits are checked against the table that they will meet, the stage saturates into the limits that
its flight keeps, and every other command leaves what the invariant reads. -/
theorem strokeLimitsHold : Obligations.StrokeLimitsHold := by
  intro s t h hstep
  rw [State.limitsSound_iff] at h ⊢
  rcases step_cases hstep with rfl | ⟨c, rest, hexec⟩
  · exact h.of_frame rfl rfl rfl rfl rfl rfl rfl
  · exact exec_leadsInLimits (s := { s with pending := rest }) h.of_frame t hexec

end
end Sys2Proof.Machine

namespace Sys2Proof.Machine

/-! ### An edit is the same applied or held (O51) -/

theorem ActTable.rewrite_below (t : ActTable) {first a : Nat} (fs : List ActFields) (h : a < first) :
    (t.rewrite first fs).actuator a = t.actuator a := by
  induction fs generalizing t first with
  | nil => rfl
  | cons f fs ih => rw [ActTable.rewrite, ih _ (by omega), actuator_setActuator, if_neg (by omega)]

theorem ActTable.rewrite_above (t : ActTable) {first a : Nat} {fs : List ActFields} (h : first + fs.length ≤ a) :
    (t.rewrite first fs).actuator a = t.actuator a := by
  induction fs generalizing t first with
  | nil => rfl
  | cons f fs ih =>
    rw [List.length_cons] at h
    rw [ActTable.rewrite, ih _ (by omega), actuator_setActuator, if_neg (by omega)]

/-- R103: each record goes to its actuator. -/
theorem ActTable.rewrite_at (t : ActTable) {first i : Nat} {f : ActFields} {fs : List ActFields}
    (h : fs[i]? = some f) : (t.rewrite first fs).actuator (first + i) = (t.actuator (first + i)).rewrite f := by
  induction fs generalizing t first i with
  | nil => simp at h
  | cons g fs ih =>
    cases i with
    | zero =>
      obtain rfl : g = f := by simpa using h
      rw [ActTable.rewrite, rewrite_below _ _ (by omega), Nat.add_zero, actuator_setActuator, if_pos rfl]
    | succ i =>
      have htail := ih (t.setActuator first ((t.actuator first).rewrite g)) (first := first + 1) (i := i)
        (by simpa using h)
      rw [actuator_setActuator, if_neg (by omega)] at htail
      rw [ActTable.rewrite, Nat.add_comm i 1, ← Nat.add_assoc, htail]

section
variable {e : Edit} {s : State}

/-- R99: out of flight an edit is applied at once. -/
theorem takeEdit_applied (h : s.inFlight = false) :
    takeEdit e s = .done (settleLinks { s with table := s.table.apply e }) := by
  rw [takeEdit, if_neg (by simp [h])]

/-- R99: in flight an edit joins the hold. -/
theorem takeEdit_held (h : s.inFlight = true) (hroom : s.hold.length < 32) :
    takeEdit e s = .done { s with hold := s.hold ++ [e] } := by
  rw [takeEdit, if_pos h, if_neg (show ¬ Config.holdEdits ≤ s.hold.length from Nat.not_le.mpr hroom)]

theorem takeEdit_full (h : s.inFlight = true) (hfull : 32 ≤ s.hold.length) : takeEdit e s = refuse .busy 0 s := by
  rw [takeEdit, if_pos h, if_pos (show Config.holdEdits ≤ s.hold.length from hfull)]

/-- R99: what an edit that is taken leaves: applied out of flight, last in the hold in flight. -/
theorem takeEdit_ok {t : State} {payload : List Byte} {clamped : Bool} (h : takeEdit e s = .ok payload clamped t) :
    (s.inFlight = false ∧ t = settleLinks { s with table := s.table.apply e }) ∨
      (s.inFlight = true ∧ t = { s with hold := s.hold ++ [e] }) := by
  cases hflight : s.inFlight with
  | false =>
    rw [takeEdit_applied hflight] at h
    cases h
    exact .inl ⟨rfl, rfl⟩
  | true =>
    by_cases hroom : s.hold.length < 32
    · rw [takeEdit_held hflight hroom] at h
      cases h
      exact .inr ⟨rfl, rfl⟩
    · rw [takeEdit_full hflight (Nat.le_of_not_lt hroom)] at h
      cases h

end

/-- Settles O51: an edit that joins the hold is the last of the fold that makes the effective table, and out of
flight nothing is held. -/
theorem editsAreTheSameHeldOrNot : Obligations.EditsAreTheSameHeldOrNot := by
  refine ⟨fun e s t payload clamped hheld htaken => ?_, fun s => ⟨applyHold_table s, applyHold_hold s⟩,
    fun t first a fs => ⟨fun i f hf ha => ?_, fun hout => ?_⟩⟩
  · obtain ⟨hflight, rfl⟩ | ⟨hflight, rfl⟩ := takeEdit_ok htaken
    · have hhold : s.hold = [] := hheld hflight
      have hhold' : (settleLinks { s with table := s.table.apply e }).hold = [] := by simpa using hhold
      refine ⟨?_, fun hin => absurd (hflight.symm.trans hin) nofun, fun _ => hhold'⟩
      rw [effective_nil _ hhold', effective_nil _ hhold]
      simp
    · refine ⟨by simp [State.effective], fun _ => rfl, fun hout => absurd (hflight.symm.trans hout) nofun⟩
  · subst ha
    exact t.rewrite_at hf
  · obtain hbelow | habove := hout
    · exact t.rewrite_below fs hbelow
    · exact t.rewrite_above habove

/-! ### Gain sets, the count and edits (O50) -/

section
variable {env : Envelope} {s : State} (hfit : env.payloadFits = true)
include hfit

theorem gainWriteBody_done {k : Nat} (hk : k ≤ 7) (g leak : Nat) : gainWriteBody env k g leak s =
    .done { s with gains := Table.set Gain.reset s.gains k { gain := g, leak := leak } } := by
  rw [gainWriteBody, whenFits_true _ _ _ hfit, if_neg (by omega)]

theorem actCountBody_done {m : Nat} (hm : m ≤ Config.actuators s.variant) (hswap : s.swapPending = false)
    (hstop : s.loop.state = .stopped) (hsend : s.drive.biasSend = none) (hpass : countFault s m = none) :
    actCountBody env m s = .done (settleLinks { s with table := { s.table with n := m } }) := by
  rw [actCountBody, whenFits_true _ _ _ hfit, if_neg (by omega), if_neg (by simp [hswap]), if_neg (by simp [hstop]),
    if_neg (by simp [hsend]), hpass]

theorem actWriteBody_edits {first : Nat} {records : List ActFields} (hlow : 1 ≤ records.length)
    (hhigh : records.length ≤ 64) (hlast : first + records.length ≤ Config.actuators s.variant)
    (hpass : recordsFault s s.effective first 0 records = none)
    (hconflict : writeConflict s (s.effective.rewrite first records) first records.length = none) :
    actWriteBody env first records s = takeEdit (.write first records) s := by
  rw [actWriteBody, whenFits_true _ _ _ hfit, if_neg (by omega), if_neg (by omega), hpass]
  simp only [hconflict]

theorem actModeBody_forced {a v : Nat} (ha : a < Config.actuators s.variant)
    (hlo : (s.effective.actuator a).lo ≤ v) (hhi : v ≤ (s.effective.actuator a).hi) :
    actModeBody env a 2 (some v) s = takeEdit (.mode a .forced (some v)) s :=
  calc actModeBody env a 2 (some v) s
    _ = if v < (s.effective.actuator a).lo ∨ (s.effective.actuator a).hi < v then refuse .limit 3 s
        else takeEdit (.mode a .forced (some v)) s :=
      (whenFits_true _ _ _ hfit).trans (if_neg (Nat.not_le.mpr ha))
    _ = takeEdit (.mode a .forced (some v)) s := if_neg (by omega)

theorem actModeBody_loop {a : Nat} (ha : a < Config.actuators s.variant) :
    actModeBody env a 0 none s = takeEdit (.mode a .loop none) s :=
  (whenFits_true _ _ _ hfit).trans (if_neg (Nat.not_le.mpr ha))

theorem actModeBody_held {a : Nat} (ha : a < Config.actuators s.variant) :
    actModeBody env a 1 none s = takeEdit (.mode a .held none) s :=
  (whenFits_true _ _ _ hfit).trans (if_neg (Nat.not_le.mpr ha))

theorem pairWriteBody_edits {a b dmax : Nat} (ha : a < Config.actuators s.variant)
    (hb : b < Config.actuators s.variant) (hne : a ≠ b) (han : a < s.effective.n) (hbn : b < s.effective.n)
    (hroom : s.effective.pairs.length < 3072) (hnew : ∀ p ∈ s.effective.pairs, p.names a b = false)
    (hgap : s.effective.biasGap a b ≤ dmax) :
    pairWriteBody env a b dmax s = takeEdit (.pairAdd { a := a, b := b, dmax := dmax }) s := by
  have hposition : s.effective.pairPosition a b = none := List.findIdx?_eq_none_iff.mpr hnew
  rw [pairWriteBody, whenFits_true _ _ _ hfit, if_neg (by omega), if_neg (by omega), if_neg hne, if_neg (by omega),
    if_neg (by omega), hposition]
  dsimp only
  rw [if_neg (by omega),
    if_neg (show ¬ Config.pairEntries ≤ s.effective.pairs.length from Nat.not_le.mpr hroom)]

theorem pairRemoveBody_edits {a b : Nat} (ha : a < Config.actuators s.variant) (hb : b < Config.actuators s.variant)
    (hlisted : ∃ p ∈ s.effective.pairs, p.names a b = true) :
    pairRemoveBody env a b s = takeEdit (.pairDrop a b) s := by
  obtain ⟨i, hi⟩ : ∃ i, s.effective.pairPosition a b = some i := by
    simpa [ActTable.pairPosition, ← Option.isSome_iff_exists] using hlisted
  rw [pairRemoveBody, whenFits_true _ _ _ hfit, if_neg (by omega), if_neg (by omega), hi]

end

/-- R102 check 3 reads nothing that taking the request changes. -/
theorem recordsFault_takeFrame (env : Envelope) (s : State) (t : ActTable) (first position : Nat)
    (records : List ActFields) :
    recordsFault (takeFrame env s) t first position records = recordsFault s t first position records := by
  induction records generalizing position with
  | nil => rfl
  | cons f rest ih =>
    have hsame : recordFault (takeFrame env s) t (first + position) f = recordFault s t (first + position) f := rfl
    rw [recordsFault, recordsFault, hsame, ih]

/-- An edit as the port answers it: applied, held, or refused BUSY at a full hold. -/
theorem request_of_edit {env : Envelope} {s : State} (h : arrives env s) (code : Nat) {body : State → Verdict}
    {e : Edit} (hbody : body (takeFrame env s) = takeEdit e (takeFrame env s)) :
    (s.inFlight = false → request env code body s = .next (okAfter env (fun u =>
      settleLinks { u with table := u.table.apply e }) s)) ∧
    (s.inFlight = true → s.hold.length < 32 → request env code body s = .next (okAfter env (fun u =>
      { u with hold := u.hold ++ [e] }) s)) ∧
    (s.inFlight = true → 32 ≤ s.hold.length → request env code body s =
      .next (refusedReply env code .busy 0 .none none none s)) := by
  refine ⟨fun hflight => ?_, fun hflight hroom => ?_, fun hflight hfull => ?_⟩
  · exact request_of_verdict h code (hbody.trans (takeEdit_applied (s := takeFrame env s) hflight))
  · exact request_of_verdict h code (hbody.trans (takeEdit_held (s := takeFrame env s) hflight hroom))
  · exact request_refused h.1 (hbody.trans (takeEdit_full (s := takeFrame env s) hflight hfull))

/-- Settles O50: the block of each request finds nothing to refuse, and gives its edit to the hold's rule (R99). -/
theorem tableRequestsAreAppliedOrHeld : Obligations.TableRequestsAreAppliedOrHeld := by
  intro env s h t n edited
  have hfit : env.payloadFits = true := h.2
  refine ⟨fun k g leak hk => ?_, fun m hm hswap hstop hsend hpass => ?_,
    fun first records hlow hhigh hlast hpass hconflict => ?_, fun a v ha hlo hhi => ?_, fun a ha => ⟨?_, ?_⟩,
    fun a b dmax ha hb hne han hbn hroom hnew hgap => ?_, fun a b ha hb hlisted => ?_⟩
  · exact request_of_verdict h 0x1D (gainWriteBody_done hfit hk g leak)
  · exact request_of_verdict h 0x19 (actCountBody_done (s := takeFrame env s) hfit hm hswap hstop hsend hpass)
  · have hpass' : recordsFault (takeFrame env s) t first 0 records = none :=
      (recordsFault_takeFrame env s t first 0 records).trans hpass
    exact request_of_edit h 0x1A (actWriteBody_edits (s := takeFrame env s) hfit hlow hhigh hlast hpass' hconflict)
  · exact request_of_edit h 0x1B (actModeBody_forced (s := takeFrame env s) hfit ha hlo hhi)
  · exact request_of_edit h 0x1B (actModeBody_loop (s := takeFrame env s) hfit ha)
  · exact request_of_edit h 0x1B (actModeBody_held (s := takeFrame env s) hfit ha)
  · exact request_of_edit h 0x1F (pairWriteBody_edits (s := takeFrame env s) hfit ha hb hne han hbn hroom hnew hgap)
  · exact request_of_edit h 0x20 (pairRemoveBody_edits (s := takeFrame env s) hfit ha hb hlisted)

end Sys2Proof.Machine

namespace Sys2Proof.Machine

section
set_option Elab.async false
variable {w : StageFrame} {acc : Table Int} {a : Nat}

/-! ### The staged shape (O30) -/

theorem buildShape_state (h : a < w.n) : (buildShape w acc).states[a]? = some (w.stateOf acc a) := by
  simp [buildShape, h]

theorem buildShape_output (h : a < w.n) : (buildShape w acc).outputs[a]? = some (w.outputFor acc a) := by
  simp [buildShape, h]

/-- R2: a saturation between naturals is one. -/
theorem toNat_saturate {lo hi : Nat} (h : lo ≤ hi) (v : Int) :
    ((saturate (lo : Int) (hi : Int) v).toNat : Int) = saturate (lo : Int) (hi : Int) v := by
  obtain ⟨hlow, -⟩ := saturate_range (Int.ofNat_le.mpr h) v
  exact Int.toNat_of_nonneg (by omega)

/-- R1: a natural between multiples of the divisor rounds to between their quotients. -/
theorem roundDiv_range {lo hi x : Nat} (hlo : 256 * lo ≤ x) (hhi : x ≤ 256 * hi) :
    (lo : Int) ≤ roundDiv x 256 ∧ roundDiv x 256 ≤ hi := by
  rw [roundDiv, if_pos (by omega)]
  omega

/-- R112: a mode other than LOOP, or a loop that is not CLOSED, keeps the state. -/
theorem stagedState_kept {l : LoopState} {r : Actuator} (h : r.mode ≠ .loop ∨ l ≠ .closed) (g : Gain) (v : Int) :
    stagedState l r g v = r.x :=
  if_neg (by simpa [integrated, imp_iff_not_or] using h)

/-- R113, R114: in LOOP mode and in CLOSED the state is the saturated sum of bias, leak and gain terms. -/
theorem stagedState_integrated {r : Actuator} (hlimits : r.lo ≤ r.hi) (hmode : r.mode = .loop) (g : Gain) (v : Int) :
    (stagedState .closed r g v : Int) =
      saturate (256 * (r.lo : Int)) (256 * (r.hi : Int)) (integratorSum r g v) := by
  rw [stagedState, if_pos (by simp [integrated, hmode])]
  exact mod_cast toNat_saturate (Nat.mul_le_mul_left 256 hlimits) (integratorSum r g v)

theorem outputOf_eq (x : Nat) : (outputOf x : Int) = roundDiv x 256 :=
  Int.toNat_of_nonneg (by rw [roundDiv, if_pos (by omega)]; omega)

/-- R117: no poke, or the poke of another actuator, leaves the output. -/
theorem pokedOutput_other {poke : Option Poke} (h : ∀ p, poke = some p → p.actuator ≠ a) (r : Actuator) (o : Nat) :
    pokedOutput r a o poke = o := by
  cases poke with
  | none => rfl
  | some p => exact if_neg (h p rfl)

/-- R117: the actuator's poke is added, and the sum saturated to its limits. -/
theorem pokedOutput_poked {r : Actuator} {p : Poke} (hlimits : r.lo ≤ r.hi) (h : p.actuator = a) (o : Nat) :
    (pokedOutput r a o (some p) : Int) = saturate (r.lo : Int) (r.hi : Int) (o + p.offset) := by
  rw [pokedOutput, if_pos h, toNat_saturate hlimits]

/-- R116, R117: the output of a state within the limits is within them, with a poke or without. -/
theorem pokedOutput_inLimits {r : Actuator} {x : Nat} (hlimits : r.lo ≤ r.hi) (hlo : 256 * r.lo ≤ x)
    (hhi : x ≤ 256 * r.hi) (poke : Option Poke) :
    r.lo ≤ pokedOutput r a (outputOf x) poke ∧ pokedOutput r a (outputOf x) poke ≤ r.hi := by
  have hrounded := roundDiv_range hlo hhi
  rw [← outputOf_eq] at hrounded
  cases poke with
  | none => exact mod_cast hrounded
  | some p =>
    by_cases hp : p.actuator = a
    · have hrange := saturate_range (Int.ofNat_le.mpr hlimits) ((outputOf x : Int) + p.offset)
      rw [← pokedOutput_poked hlimits hp] at hrange
      exact mod_cast hrange
    · rw [pokedOutput_other (fun q hq => Option.some.inj hq ▸ hp)]
      exact mod_cast hrounded

/-- Settles O30: each clause is that of the staged state (R112 to R115) or of its output (R116, R117). -/
theorem stagedShapeFollowsIntegrator : Obligations.StagedShapeFollowsIntegrator := by
  intro w acc a ha r g hlimits
  refine ⟨w.stateOf acc a, w.outputFor acc a, buildShape_state ha, buildShape_output ha,
    fun hkept => stagedState_kept hkept g _, fun hmode hclosed => ?_, fun hother => ?_, fun p hp hpoked => ?_,
    fun hsound => ?_⟩
  · rw [StageFrame.stateOf, hclosed]
    exact stagedState_integrated hlimits hmode g _
  · rw [StageFrame.outputFor, pokedOutput_other hother, outputOf_eq]
  · rw [StageFrame.outputFor, hp, pokedOutput_poked hlimits hpoked, outputOf_eq]
  · obtain ⟨hlo, hhi⟩ := stagedState_inLimits hsound w.loopRead g (Table.get zeroes acc a)
    exact ⟨hlo, hhi, pokedOutput_inLimits hlimits hlo hhi w.poke⟩

end
end Sys2Proof.Machine

namespace Sys2Proof.Machine

section
set_option Elab.async false
variable {s : State} {w : StageFrame}

/-! ### A shape that passes (O31) -/

/-- R113 to R120: SHAPE_CHECKED on a stage that is BUILDING checks its shape. -/
theorem exec_shapeChecked (hawake : s.resetLow = false) (hw : s.stage.phase = .building w) :
    exec .shapeChecked s = .next (checkShape w s) := by
  change execShapeChecked s = _
  rw [execShapeChecked, awake, if_neg (by simp [hawake])]
  simp only [hw]

theorem violatedCount_eq_zero {pairs : List Pair} {outputs : List Nat} :
    violatedCount pairs outputs = 0 ↔ ∀ p ∈ pairs, outputGap outputs p.a p.b ≤ p.dmax := by
  simp [violatedCount, Pair.violated]

/-- Settles O31: no pair is violated, so that the shape is handed over, and the pass clears the run. -/
theorem passingShapeIsHandedOver : Obligations.PassingShapeIsHandedOver := by
  intro s w hawake hw hrun shape hpass
  have hpassed : reportPassed s = { s with loop := { s.loop with strokeRun := 0 } } := if_pos hrun
  rw [exec_shapeChecked hawake hw, checkShape]
  refine congrArg Host.Outcome.next ((if_pos (violatedCount_eq_zero.mpr hpass)).trans ?_)
  rw [handOver, hpassed]

end
end Sys2Proof.Machine

namespace Sys2Proof.Machine

section
set_option Elab.async false
variable {s t u : State} {k : Nat}

/-! ### The end of a frame in the stage (O32, O37, O38) -/

/-- Settled links stay so where each keeps its state, or takes a state that the table gives or that is neither IDLE
nor DISABLED (R130). -/
theorem State.linksSettled.of_links (h : s.linksSettled) (variant : t.variant = s.variant)
    (rest : ∀ m, t.restState m = s.restState m)
    (links : ∀ m, (t.driveLink m).state = (s.driveLink m).state ∨ (t.driveLink m).state = s.restState m ∨
      ((t.driveLink m).state ≠ .idle ∧ (t.driveLink m).state ≠ .disabled)) : t.linksSettled := by
  intro m hm hstate
  rw [rest]
  obtain hsame | hrest | ⟨hidle, hdisabled⟩ := links m
  · rw [hsame] at hstate ⊢
    exact h m (by rwa [State.hasDriveLink, variant] at hm) hstate
  · exact hrest
  · exact absurd hstate (by simp [hidle, hdisabled])

theorem State.linksSettled.of_eq (h : s.linksSettled) (variant : t.variant = s.variant) (table : t.table = s.table)
    (drive : t.drive = s.drive) : t.linksSettled :=
  h.of_links variant (fun m => by rw [State.restState, table, State.restState])
    fun m => .inl (by rw [State.driveLink, variant, drive, State.driveLink])

/-- Stage, table, drive links, loop, scan, records and port aside, t is s. -/
structure State.SameFrames (s t : State) : Prop where
  setting : sameSetting s t
  slots : t.slots = s.slots
  receivers : t.receivers = s.receivers
  images : t.telem.images = s.telem.images
  engine : t.engine = s.engine
  banks : t.banks = s.banks
  hold : t.hold = s.hold
  store : t.store = s.store
  lastClosed : t.lastClosed = s.lastClosed

theorem sameSetting.trans (h : sameSetting s t) (g : sameSetting t u) : sameSetting s u := by
  obtain ⟨h1, h2, h3, h4, h5, h6, h7, h8, h9⟩ := h
  obtain ⟨g1, g2, g3, g4, g5, g6, g7, g8, g9⟩ := g
  exact ⟨g1.trans h1, g2.trans h2, g3.trans h3, g4.trans h4, g5.trans h5, g6.trans h6, g7.trans h7, g8.trans h8,
    g9.trans h9⟩

theorem State.SameFrames.slot (h : s.SameFrames t) (m : Nat) : t.slot m = s.slot m := by
  rw [State.slot, h.slots, ← State.slot]

theorem State.SameFrames.bank (h : s.SameFrames t) (b : Nat) : t.bank b = s.bank b := by
  rw [State.bank, h.banks, ← State.bank]

theorem State.SameFrames.receiver (h : s.SameFrames t) (n : Nat) : t.receiver n = s.receiver n := by
  rw [State.receiver, h.receivers, ← State.receiver]

theorem State.SameFrames.endsAlone (h : s.SameFrames t) (ha : s.endsAlone k) : t.endsAlone k := by
  unfold State.endsAlone at *
  simpa only [h.slot, h.bank, h.engine] using ha

/-- R47, R119, R121, R122: in t the stage's work on slot k of s has ended, and nothing is held. -/
structure FrameEnded (k : Nat) (s t : State) : Prop where
  setting : sameSetting s t
  freed : slotFreed k s t
  hold : t.hold = []
  engine : t.engine = s.engine
  banks : t.banks = s.banks
  store : t.store = s.store
  lastClosed : t.lastClosed = s.lastClosed

theorem FrameEnded.trans (h : FrameEnded k s t) (g : t.SameFrames u) : FrameEnded k s u where
  setting := h.setting.trans g.setting
  freed := h.freed.of_frame ⟨g.slots, g.receivers, g.images⟩
  hold := g.hold.trans h.hold
  engine := g.engine.trans h.engine
  banks := g.banks.trans h.banks
  store := g.store.trans h.store
  lastClosed := g.lastClosed.trans h.lastClosed

/-- R48, R53: the engine works on the other slot, which is not READY, so that nothing begins. -/
theorem FrameEnded.settle (h : FrameEnded k s t) (ha : s.endsAlone k) : settle t = t := by
  obtain ⟨hk, -, hready, -, ⟨w, hwork, -⟩, -⟩ := ha
  obtain ⟨hself, hother, -⟩ := h.freed
  have hnone : ∀ m, m < 2 → (t.slot m).state ≠ .ready :=
    each_slot (p := fun m => (t.slot m).state ≠ .ready) hk (by rw [hself]; exact nofun) (by rw [hother]; exact hready)
  exact settle_alone t (by rw [h.engine, hwork]; exact nofun) (hnone 0 (by omega)) (hnone 1 (by omega))

/-- What the end of the stage's work on a frame leaves beside the frame. -/
structure StageLanded (s t : State) : Prop where
  drive : sameDrive s t
  stage : t.stage = { s.stage with phase := .idle }
  table : t.table = s.table
  loop : t.loop = s.loop
  scan : t.scan = s.scan
  port : t.port = s.port
  fifo : t.telem.fifo = s.telem.fifo
  captures : t.telem.captures = s.telem.captures

/-- R119, R121, R122: the stage's work on slot k of s ends after changes beside the frame. -/
theorem endStage_ends (ha : s.endsAlone k) (hhold : s.hold = []) (h : s.SameFrames t) (hlinks : t.linksSettled) :
    FrameEnded k s (endStage k t) ∧ StageLanded t (endStage k t) := by
  obtain ⟨hfreed, hsetting, hdrive, hstage, htable, hempty, hengine, hbanks, hstore, hlast, hloop, hscan, hport,
    hfifo, hcaptures⟩ := endStage_alone k t (h.endsAlone ha) (h.hold.trans hhold) hlinks
  have hreleased : ∀ n, ({ t.receiver n with headWaiting := false } : Receiver) =
      { s.receiver n with headWaiting := false } := fun n => by rw [h.receiver]
  exact ⟨⟨h.setting.trans hsetting, hfreed.since h.setting.1 (h.slot _) h.images hreleased, hempty,
      hengine.trans h.engine, hbanks.trans h.banks, hstore.trans h.store, hlast.trans h.lastClosed⟩,
    ⟨hdrive, hstage, htable, hloop, hscan, hport, hfifo, hcaptures⟩⟩

theorem sameDrive.of_eq (h : sameDrive t u) (variant : t.variant = s.variant) (drive : t.drive = s.drive) :
    sameDrive s u := by
  simpa only [sameDrive, State.driveLink, variant, drive] using h

end
end Sys2Proof.Machine

namespace Sys2Proof.Machine

section
set_option Elab.async false
variable {s : State} {run threshold : Nat} {cause : LoopCause} {frame : Option Frame}

/-! #### The runs of drops and failures (R159, R160) -/

theorem compareRun_stays (h : run < threshold ∨ s.loop.state = .hold) :
    compareRun run threshold cause frame s = s := by
  unfold compareRun
  obtain hbelow | hhold := h
  · split
    · exact if_neg (by omega)
    · exact if_neg (by omega)
    · rfl
  · rw [hhold]

theorem compareRun_holds (hrun : s.loop.state.running = true) (hreach : threshold ≤ run)
    (hhold : s.loop.state ≠ .hold) :
    compareRun run threshold cause frame s = enterHold cause frame s := by
  unfold compareRun
  split
  · exact if_pos hreach
  · exact if_pos hreach
  · next hopened hclosed => cases hstate : s.loop.state <;> simp_all [LoopState.running]

/-- R159: the run of stroke drops counts one more. -/
def countStroke (s : State) : State :=
  { s with loop := { s.loop with strokeRun := bumpRun s.loop.strokeRun } }

theorem reportStroke_eq (f : Frame) (hrun : s.loop.state.running = true) : reportStroke f s =
    compareRun (bumpRun s.loop.strokeRun) s.loop.strokeThreshold .strokeRun (some f) (countStroke s) := if_pos hrun

/-- R157: what an entry to HOLD makes of the loop. -/
theorem enterHold_loop : (enterHold cause frame s).loop = { s.loop with
    state := .hold, pendingTransition := none, holdEntries := s.loop.holdEntries + 1
    lastTransition := some { entered := .hold, cause := cause, frame := frame } } := by
  simp [enterHold, changeLoop]

theorem scanAbort_keeps_cause {c : Cause} {e : EndCause} (h : s.hasCause c = true) :
    (scanAbort e s).hasCause c = true := by
  unfold scanAbort
  split
  · exact offer_keeps_cause h
  · exact h

/-- R157: an entry to HOLD raises LOOP_HOLD. -/
theorem enterHold_hasCause : (enterHold cause frame s).hasCause .loopHold = true :=
  scanAbort_keeps_cause (raise_hasCause ..)

/-- R157, R171: an entry to HOLD ends a scan. -/
theorem enterHold_scan : (enterHold cause frame s).scan.state ≠ .running := scanAbort_scan _ _

@[simp] theorem reportStroke_images (f : Frame) (s : State) : (reportStroke f s).telem.images = s.telem.images := by
  unfold reportStroke
  split <;> simp

@[simp] theorem reportDrive_images (f : Option Frame) (s : State) :
    (reportDrive f s).telem.images = s.telem.images := by
  unfold reportDrive
  split <;> simp

end
end Sys2Proof.Machine

namespace Sys2Proof.Machine

section
set_option Elab.async false
variable {s : State} {w : StageFrame} {shape : Shape}

/-! ### A stroke drop (O32) -/

/-- R119: the record of a frame that is dropped with reason STROKE. -/
def strokeRecord (w : StageFrame) (shape : Shape) (s : State) : Record :=
  { stageRecord .droppedStroke w shape.clamp s with
    violated := violatedCount w.pairs shape.outputs
    firstViolated := firstViolated shape.outputs 0 w.pairs }

/-- R119: the drop is recorded and counted; the loop has not been told of it yet. -/
def strokeDropped (w : StageFrame) (shape : Shape) (s : State) : State :=
  { offer (strokeRecord w shape s) none s with
    stage := { s.stage with droppedStroke := s.stage.droppedStroke + 1 } }

theorem strokeDrop_eq (w : StageFrame) (shape : Shape) (s : State) :
    strokeDrop w shape s = endStage w.slot (reportStroke w.frame (strokeDropped w shape s)) := by
  have hstage : (offer (strokeRecord w shape s) none s).stage = s.stage := by simp
  unfold strokeDropped
  rw [← hstage]
  rfl

theorem strokeDropped_loop : (strokeDropped w shape s).loop = s.loop := by simp [strokeDropped]

theorem reportStroke_sameFrames : s.SameFrames (reportStroke w.frame (strokeDropped w shape s)) := by
  constructor <;> simp [sameSetting, strokeDropped]

/-- Settles O32: the drop ends the frame, and its report compares the run of stroke drops with the threshold. -/
theorem strokeDropEndsFrame : Obligations.StrokeDropEndsFrame := by
  intro s w hawake hw ha hlinks hhold hrun shape run r hviolated
  have hdrops : checkShape w s = settle (strokeDrop w shape s) := if_neg fun hpass => by
    obtain ⟨p, hp, hgap⟩ := hviolated
    exact absurd (violatedCount_eq_zero.mp hpass p hp) (Nat.not_le.mpr hgap)
  generalize hu : reportStroke w.frame (strokeDropped w shape s) = u
  have hvariant : u.variant = s.variant := by simp [← hu, strokeDropped]
  have hdrive : u.drive = s.drive := by simp [← hu, strokeDropped]
  have htable : u.table = s.table := by simp [← hu, strokeDropped]
  obtain ⟨hended, hlanded⟩ := endStage_ends ha hhold (hu ▸ reportStroke_sameFrames)
    (hlinks.of_eq hvariant htable hdrive)
  have hreport : u = compareRun run s.loop.strokeThreshold .strokeRun (some w.frame)
      (countStroke (strokeDropped w shape s)) := by
    rw [← hu, reportStroke_eq _ (by rw [strokeDropped_loop]; exact hrun), strokeDropped_loop]
  refine ⟨_, exec_shapeChecked hawake hw, ?_⟩
  rw [hdrops, strokeDrop_eq, hu, hended.settle ha]
  refine ⟨hended.setting, hlanded.drive.of_eq hvariant hdrive, hended.freed, ?_, hlanded.table.trans htable,
    hended.hold, hended.engine, hended.banks, hended.store, hended.lastClosed, fun hbelow => ?_, fun hreach hstate => ?_⟩
  · rw [hlanded.stage, ← hu]
    simp [strokeDropped]
  · rw [compareRun_stays (by simpa [countStroke, strokeDropped_loop] using hbelow)] at hreport
    rw [hlanded.loop, hlanded.scan, hlanded.fifo, hlanded.port, hreport]
    refine ⟨?_, ?_, rfl, rfl⟩
    · simp [countStroke, strokeDropped_loop, run]
    · simp [countStroke, strokeDropped]
  · rw [compareRun_holds (by simpa [countStroke, strokeDropped_loop] using hrun) hreach
      (by simpa [countStroke, strokeDropped_loop] using hstate)] at hreport
    rw [hlanded.loop, hlanded.scan, hasCause_congr hlanded.port, hreport, enterHold_loop]
    refine ⟨?_, enterHold_hasCause, enterHold_scan⟩
    simp [countStroke, strokeDropped_loop, run]

end
end Sys2Proof.Machine

namespace Sys2Proof.Machine

section
set_option Elab.async false
variable {s t : State} {l m : Nat} {ps : List TxLink} {tx : Transaction} {w : StageFrame} {shape : Shape}
  {bad : List Nat}

/-! ### A link's answer to its LOAD (O37, O38) -/

theorem awake_onDriveLink {f : State → State} (hawake : s.resetLow = false) (hl : s.hasDriveLink l = true) :
    awake s (onDriveLink l f) = .next (f s) := by
  rw [awake, if_neg (by simp [hawake]), onDriveLink, if_pos hl]

theorem DriveLink.awaitsLoadReply_ref {r : DriveLink} (hstate : r.state = .loading)
    (hout : r.outstanding = some tx.ref) : r.awaitsLoadReply tx.number = true := by
  simp [awaitsLoadReply, hstate, hout, Transaction.ref]

/-- R135: a reply in the current transaction is not late before that is dropped. -/
theorem replyIsLate_current {r : DriveLink} (hcurrent : s.drive.current = some tx) (hdropped : tx.dropped = false)
    (hout : r.outstanding = some tx.ref) : replyIsLate s r = false := by
  simp [replyIsLate, hcurrent, hdropped, hout]

/-- R120, R121, R131: the stage of a running loop has its shape in transaction tx, before the pulse; nothing is held,
and what ends with the frame begins nothing else. -/
structure Sending (w : StageFrame) (shape : Shape) (tx : Transaction) (s : State) : Prop where
  phase : s.stage.phase = .sending w shape
  running : s.loop.state.running = true
  alone : s.endsAlone w.slot
  settled : s.linksSettled
  hold : s.hold = []
  current : s.drive.current = some tx
  kind : tx.kind = .shape
  pulsed : tx.pulsed = false
  dropped : tx.dropped = false

/-! #### Changes of drive links alone -/

/-- The drive links are others, and all else is as it was. -/
def State.withLinks (s : State) (links : Table DriveLink) : State :=
  { s with drive := { s.drive with links := links } }

/-- Steps that change drive links alone do so one after the other. -/
theorem foldl_withLinks {f : State → TxLink → State} (hf : ∀ u p, ∃ links, f u p = u.withLinks links)
    (ps : List TxLink) (s : State) : ∃ links, ps.foldl f s = s.withLinks links :=
  List.foldlRecOn (motive := fun u : State => ∃ links, u = s.withLinks links) _ _ ⟨s.drive.links, rfl⟩
    fun u ⟨_, hu⟩ p _ => by
      obtain ⟨links, hp⟩ := hf u p
      exact ⟨links, by rw [hp, hu]; rfl⟩

/-! #### The update pulse (R136) -/

theorem applyLinks_withLinks (ps : List TxLink) (s : State) :
    ∃ links, ps.foldl applyLink s = s.withLinks links := foldl_withLinks (fun _ _ => ⟨_, rfl⟩) ps s

theorem applyLinks_other (h : ∀ q ∈ ps, q.link ≠ m) : (ps.foldl applyLink s).driveLink m = s.driveLink m :=
  List.foldlRecOn (motive := fun u : State => u.driveLink m = s.driveLink m) _ _ rfl fun u hu p hp => by
    rw [applyLink, State.driveLink_modifyDriveLink, if_neg (h p hp), hu]

/-- R136: each participating link is APPLYING, with its own apply timer. -/
theorem applyLinks_applying (hps : ps.Pairwise (fun p q => p.link ≠ q.link)) {q : TxLink} (hq : q ∈ ps) :
    (ps.foldl applyLink s).driveLink q.link =
      { s.driveLink q.link with state := .applying, timer := some (.apply q.applyTimeout) } := by
  induction ps generalizing s with
  | nil => simp at hq
  | cons p ps ih =>
    obtain ⟨hp, hps⟩ := List.pairwise_cons.mp hps
    obtain rfl | hq := List.mem_cons.mp hq
    · rw [List.foldl_cons, applyLinks_other fun r hr => (hp r hr).symm, applyLink, State.driveLink_modifyDriveLink,
        if_pos rfl]
    · rw [List.foldl_cons, ih hps hq, applyLink, State.driveLink_modifyDriveLink, if_neg (hp q hq)]

/-- R136: the pulse is counted and marked, and the links are APPLYING; nothing is committed yet. -/
def pulsing (tx : Transaction) (s : State) : State :=
  tx.links.foldl applyLink { s with drive := { s.drive with
    updateLine := .pulsing, pulses := s.drive.pulses + 1, current := some { tx with pulsed := true } } }

theorem updatePulse_shape (hkind : tx.kind = .shape) (bad : List Nat) : updatePulse tx bad s =
    { commitFrame bad (pulsing tx s) with
      drive := { (commitFrame bad (pulsing tx s)).drive with updateLine := .atRest } } := by
  unfold updatePulse
  dsimp only
  split
  · rfl
  · next hbias => exact nomatch hkind.symm.trans hbias

theorem pulsing_withLinks (tx : Transaction) (s : State) : ∃ links, pulsing tx s =
    { s with drive := { s.drive with
      links := links, updateLine := .pulsing, pulses := s.drive.pulses + 1
      current := some { tx with pulsed := true } } } := applyLinks_withLinks ..

/-- R133: the link's LOAD is TAKEN, in time. -/
def linkLoaded (l : Nat) (s : State) : State :=
  s.modifyDriveLink l fun r => { r with state := .loaded, status := .taken, taken := r.taken + 1, timer := none }

/-- R133, R136: TAKEN on the last link brings the pulse. -/
theorem takeTaken_last (h : Sending w shape tx s) (hpart : ∃ p ∈ tx.links, p.link = l)
    (hothers : ∀ q ∈ tx.links, q.link ≠ l → (s.driveLink q.link).state = .loaded)
    (hstate : (s.driveLink l).state = .loading) (hout : (s.driveLink l).outstanding = some tx.ref) :
    takeTaken l tx.number bad s = settle (updatePulse tx bad (linkLoaded l s)) := by
  have hloaded : ∀ q ∈ tx.links, ((linkLoaded l s).driveLink q.link).state = .loaded := fun q hq => by
    rw [linkLoaded, State.driveLink_modifyDriveLink]
    split
    · rfl
    · next hne => exact hothers q hq (Ne.symm hne)
  have hlinks : tx.links ≠ [] := fun hnil => by simp [hnil] at hpart
  have hpulse : pulseIfLoaded bad (linkLoaded l s) = updatePulse tx bad (linkLoaded l s) := by
    have hcurrent : (linkLoaded l s).drive.current = some tx := h.current
    rw [pulseIfLoaded, hcurrent]
    exact if_pos (by simpa [h.pulsed, h.dropped, hlinks] using hloaded)
  rw [takeTaken, if_pos (DriveLink.awaitsLoadReply_ref hstate hout), replyIsLate_current h.current h.dropped hout,
    ← hpulse]
  rfl

/-! #### The commit (R121) -/

theorem ActTable.commit_other (t : ActTable) {a m : Nat} {xs os : List Nat}
    (h : m < a ∨ a + xs.length ≤ m ∨ a + os.length ≤ m) : (t.commit a xs os).actuator m = t.actuator m := by
  induction xs generalizing t a os with
  | nil => rfl
  | cons x xs ih =>
    cases os with
    | nil => rfl
    | cons o os =>
      simp only [List.length_cons] at h
      rw [ActTable.commit, ih _ (by omega), actuator_setActuator, if_neg (by omega)]

/-- R121: each staged state and output goes to its actuator. -/
theorem ActTable.commit_at (t : ActTable) {a i x o : Nat} {xs os : List Nat} (hx : xs[i]? = some x)
    (ho : os[i]? = some o) :
    (t.commit a xs os).actuator (a + i) = { t.actuator (a + i) with x := x, lastOutput := o } := by
  induction xs generalizing t a i os with
  | nil => simp at hx
  | cons x' xs ih =>
    cases os with
    | nil => simp at ho
    | cons o' os =>
      cases i with
      | zero =>
        obtain rfl : x' = x := by simpa using hx
        obtain rfl : o' = o := by simpa using ho
        rw [ActTable.commit, commit_other _ (by omega), Nat.add_zero, actuator_setActuator, if_pos rfl]
      | succ i =>
        have htail := ih (t.setActuator a { t.actuator a with x := x', lastOutput := o' }) (a := a + 1)
          (by simpa using hx) (by simpa using ho)
        rw [actuator_setActuator, if_neg (by omega)] at htail
        rw [ActTable.commit, Nat.add_comm i 1, ← Nat.add_assoc, htail]

/-- R130: the fields of the records decide which links are enabled. -/
theorem restState_of_sameFields (h : t.table.sameFields s.table) (m : Nat) : t.restState m = s.restState m := by
  obtain ⟨hn, -, hfields⟩ := h
  have hlink : ∀ a, (t.table.actuator a).link = (s.table.actuator a).link := fun a =>
    congrArg ActFields.link (hfields a)
  have henables : t.table.enables m = s.table.enables m := by
    unfold ActTable.enables
    rw [hn]
    exact congrArg (List.any _) (funext fun a => by rw [hlink])
  rw [State.restState, henables, State.restState]

/-- R169: a scan that does not run is told of no frame. -/
theorem scanCommit_idle (h : s.scan.state ≠ .running) (f : Frame) (poke : Option Poke) : scanCommit f poke s = s := by
  unfold scanCommit
  split
  · next hrunning _ => exact absurd hrunning h
  · rfl

/-- Offers of one record to equal telemetry units leave equal ones. -/
theorem offer_telem_congr (r : Record) (copy : Option CaptureCopy) (h : t.telem = s.telem) :
    (offer r copy t).telem = (offer r copy s).telem := by
  unfold offer joinFifo
  rw [h]
  split
  · split
    · rfl
    split
    · rfl
    · dsimp only
      split <;> rfl
  · exact h

/-- R121, R159: the staged shape is in the table, and the run of drive failures is 0. -/
def shapeWritten (shape : Shape) (s : State) : State :=
  { s with table := s.table.commit 0 shape.states shape.outputs, loop := { s.loop with driveRun := 0 } }

/-- R121, R126: the frame is committed, recorded and counted; the stage still has it. -/
def frameCommitted (w : StageFrame) (shape : Shape) (bad : List Nat) (s : State) : State :=
  { offer (stageRecord (committedKind w) w shape.clamp s) (captureCopy w shape bad s) (shapeWritten shape s) with
    stage := { s.stage with committed := s.stage.committed + 1 } }

theorem commitFrame_eq (hphase : s.stage.phase = .sending w shape) (hrun : s.loop.state.running = true)
    (hscan : s.scan.state ≠ .running) : commitFrame bad s = endStage w.slot (frameCommitted w shape bad s) := by
  have hwritten : reportCommitted { s with table := s.table.commit 0 shape.states shape.outputs } =
      shapeWritten shape s := if_pos hrun
  have hstage : (offer (stageRecord (committedKind w) w shape.clamp s) (captureCopy w shape bad s)
      (shapeWritten shape s)).stage = s.stage := by
    rw [(offer_leaves ..).2.2.2.2.2.2.2.2.2.2.2.2.2.2.2.2.1]
    rfl
  simp only [commitFrame, hphase, hwritten]
  rw [scanCommit_idle (s := shapeWritten shape s) hscan, frameCommitted, ← hstage]
  rfl

theorem frameCommitted_sameFrames : s.SameFrames (frameCommitted w shape bad s) := by
  constructor <;> simp [sameSetting, frameCommitted, shapeWritten]

theorem frameCommitted_telem : (frameCommitted w shape bad s).telem =
    (offer (stageRecord (committedKind w) w shape.clamp s) (captureCopy w shape bad s) s).telem :=
  offer_telem_congr _ _ rfl

/-! #### The pulse of a SHAPE transaction commits its frame (O37) -/

theorem State.SameFrames.trans {u : State} (h : s.SameFrames t) (g : t.SameFrames u) : s.SameFrames u :=
  ⟨h.setting.trans g.setting, g.slots.trans h.slots, g.receivers.trans h.receivers, g.images.trans h.images,
    g.engine.trans h.engine, g.banks.trans h.banks, g.hold.trans h.hold, g.store.trans h.store,
    g.lastClosed.trans h.lastClosed⟩

/-- A change of the drive block is beside the frames. -/
theorem State.SameFrames.of_drive (s : State) (d : Drive) : s.SameFrames { s with drive := d } := by
  constructor <;> simp [sameSetting]

/-- R136: in t the update line has pulsed for tx of s, whose last TAKEN came from link l. -/
structure ShapePulsed (tx : Transaction) (l : Nat) (s t : State) : Prop where
  pulses : t.drive.pulses = s.drive.pulses + 1
  current : t.drive.current = some { tx with pulsed := true }
  number : t.drive.number = s.drive.number
  request : t.drive.request = s.drive.request
  biasSend : t.drive.biasSend = s.drive.biasSend
  applying : ∀ q ∈ tx.links, t.driveLink q.link =
    { (linkLoaded l s).driveLink q.link with state := .applying, timer := some (.apply q.applyTimeout) }
  other : ∀ m, (∀ q ∈ tx.links, q.link ≠ m) → t.driveLink m = s.driveLink m

theorem pulsing_pulsed (hpair : tx.links.Pairwise (fun p q => p.link ≠ q.link)) (hpart : ∃ p ∈ tx.links, p.link = l) :
    ShapePulsed tx l s (pulsing tx (linkLoaded l s)) := by
  obtain ⟨links, hpulsing⟩ := pulsing_withLinks tx (linkLoaded l s)
  refine ⟨?_, ?_, ?_, ?_, ?_, fun q hq => applyLinks_applying hpair hq, fun m hm => ?_⟩
  case refine_6 =>
    obtain ⟨p, hp, hlink⟩ := hpart
    have hne : l ≠ m := hlink ▸ hm p hp
    have hkept : (linkLoaded l s).driveLink m = s.driveLink m :=
      (State.driveLink_modifyDriveLink ..).trans (if_neg hne)
    exact (applyLinks_other hm).trans hkept
  all_goals exact hpulsing ▸ rfl

theorem ShapePulsed.since {u v : State} (h : ShapePulsed tx l s t) (same : sameDrive t u)
    (variant : v.variant = u.variant)
    (drive : v.drive = { u.drive with updateLine := v.drive.updateLine }) : ShapePulsed tx l s v := by
  obtain ⟨hlinks, hnumber, hcurrent, hrequest, hpulses, -, hsend⟩ := same
  have hlinks' : ∀ m, v.driveLink m = t.driveLink m := fun m => by
    rw [← hlinks m, State.driveLink, variant, drive, State.driveLink]
  refine ⟨?_, ?_, ?_, ?_, ?_, fun q hq => (hlinks' _).trans (h.applying q hq),
    fun m hm => (hlinks' m).trans (h.other m hm)⟩
  all_goals rw [drive]
  · exact hpulses.trans h.pulses
  · exact hcurrent.trans h.current
  · exact hnumber.trans h.number
  · exact hrequest.trans h.request
  · exact hsend.trans h.biasSend

/-- R130: a link of the transaction is APPLYING, and no other has changed, so that the links stay settled. -/
theorem ShapePulsed.linksSettled {u : State} (h : ShapePulsed tx l s t) (hlinks : s.linksSettled)
    (variant : u.variant = s.variant) (table : u.table.sameFields s.table)
    (same : ∀ m, u.driveLink m = t.driveLink m) :
    u.linksSettled := by
  refine hlinks.of_links variant (restState_of_sameFields table) fun m => ?_
  rw [same]
  by_cases hpart : ∃ q ∈ tx.links, q.link = m
  · obtain ⟨q, hq, rfl⟩ := hpart
    rw [h.applying q hq]
    exact .inr (.inr ⟨nofun, nofun⟩)
  · push Not at hpart
    exact .inl (by rw [h.other m hpart])

/-- R121, R136: in t the pulse of tx has committed the frame that the stage of s was sending. -/
structure PulseCommitted (w : StageFrame) (shape : Shape) (bad : List Nat) (tx : Transaction) (l : Nat)
    (s t : State) : Prop where
  ended : FrameEnded w.slot s t
  pulse : ShapePulsed tx l s t
  stage : t.stage = { s.stage with phase := .idle, committed := s.stage.committed + 1 }
  loop : t.loop = { s.loop with driveRun := 0 }
  scan : t.scan = s.scan
  table : t.table = s.table.commit 0 shape.states shape.outputs
  fifo : t.telem.fifo =
    (offer (stageRecord (committedKind w) w shape.clamp s) (captureCopy w shape bad s) s).telem.fifo
  captures : t.telem.captures =
    (offer (stageRecord (committedKind w) w shape.clamp s) (captureCopy w shape bad s) s).telem.captures

theorem updatePulse_commits (h : Sending w shape tx s) (hscan : s.scan.state ≠ .running)
    (hpair : tx.links.Pairwise (fun p q => p.link ≠ q.link)) (hpart : ∃ p ∈ tx.links, p.link = l) :
    PulseCommitted w shape bad tx l s (updatePulse tx bad (linkLoaded l s)) := by
  have hpulse := pulsing_pulsed (s := s) hpair hpart
  obtain ⟨links, hp⟩ := pulsing_withLinks tx (linkLoaded l s)
  rw [updatePulse_shape h.kind]
  generalize pulsing tx (linkLoaded l s) = p at hpulse hp
  have hframes : s.SameFrames p := hp ▸ .of_drive s _
  have hstage : p.stage = s.stage := hp ▸ rfl
  have htable : p.table = s.table := hp ▸ rfl
  have htelem : p.telem = s.telem := hp ▸ rfl
  have hloop : p.loop = s.loop := hp ▸ rfl
  have hscan' : p.scan = s.scan := hp ▸ rfl
  have hrecord : stageRecord (committedKind w) w shape.clamp p = stageRecord (committedKind w) w shape.clamp s :=
    hp ▸ rfl
  have hcopy : captureCopy w shape bad p = captureCopy w shape bad s := hp ▸ rfl
  rw [commitFrame_eq (hstage ▸ h.phase) (hloop ▸ h.running) (hscan' ▸ hscan)]
  generalize hc : frameCommitted w shape bad p = c
  have hcvariant : c.variant = p.variant := by simp [← hc, frameCommitted, shapeWritten]
  have hcdrive : c.drive = p.drive := by simp [← hc, frameCommitted, shapeWritten]
  have hctable : c.table = s.table.commit 0 shape.states shape.outputs := by
    simp [← hc, frameCommitted, shapeWritten, htable]
  have hctelem : c.telem =
      (offer (stageRecord (committedKind w) w shape.clamp s) (captureCopy w shape bad s) s).telem := by
    rw [← hc, frameCommitted_telem, hrecord, hcopy]
    exact offer_telem_congr _ _ htelem
  obtain ⟨hended, hlanded⟩ := endStage_ends h.alone h.hold (hframes.trans (hc ▸ frameCommitted_sameFrames))
    (hpulse.linksSettled h.settled (hcvariant.trans hframes.setting.1)
      (hctable ▸ s.table.commit_sameFields 0 shape.states shape.outputs) fun m => by
        rw [State.driveLink, hcvariant, hcdrive, State.driveLink])
  constructor
  case ended => exact hended.trans (.of_drive _ _)
  case pulse => exact hpulse.since (hlanded.drive.of_eq hcvariant hcdrive) rfl rfl
  case stage => exact hlanded.stage.trans (by simp [← hc, frameCommitted, hstage])
  case loop => exact hlanded.loop.trans (by simp [← hc, frameCommitted, shapeWritten, hloop])
  case scan => exact hlanded.scan.trans (by simp [← hc, frameCommitted, shapeWritten, hscan'])
  case table => exact hlanded.table.trans hctable
  case fifo => exact hlanded.fifo.trans (congrArg Telem.fifo hctelem)
  case captures => exact hlanded.captures.trans (congrArg Telem.captures hctelem)

/-- Settles O37: the last TAKEN brings the pulse, whose commit ends the frame; nothing begins after it. -/
theorem pulseCommitsFrame : Obligations.PulseCommitsFrame := by
  intro s w shape tx l bad hawake hrun hphase ha hlinks hhold hscan hcurrent hkind hpulsed hdropped hpair hl hpart
    hothers hstate hout copy record
  have hsending : Sending w shape tx s := ⟨hphase, hrun, ha, hlinks, hhold, hcurrent, hkind, hpulsed, hdropped⟩
  have hdone : PulseCommitted w shape bad tx l s (updatePulse tx bad (linkLoaded l s)) :=
    updatePulse_commits hsending hscan hpair hpart
  have htaken := takeTaken_last (bad := bad) hsending hpart hothers hstate hout
  generalize updatePulse tx bad (linkLoaded l s) = t at hdone htaken
  rw [hdone.ended.settle ha] at htaken
  have hexec : exec (.takenReply l tx.number bad) s = .next t :=
    (awake_onDriveLink hawake hl).trans (congrArg Host.Outcome.next htaken)
  obtain ⟨hended, hpulse, hstage, hloop, hscan', htable, hfifo, hcaptures⟩ := hdone
  obtain ⟨part, hpart, hlink⟩ := hpart
  have hlast := hpulse.applying part hpart
  rw [hlink, linkLoaded, State.driveLink_modifyDriveLink, if_pos rfl] at hlast
  obtain ⟨hn, hpairs, -⟩ := s.table.commit_sameFields 0 shape.states shape.outputs
  rw [← htable] at hn hpairs
  refine ⟨t, hexec, hended.setting, hended.freed, hstage, hloop, hended.engine, hended.banks, hended.store,
    hended.lastClosed, hscan', hended.hold, hpulse.pulses, hpulse.current, hpulse.number, hpulse.request,
    hpulse.biasSend, fun q hq => ?_, congrArg DriveLink.status hlast, congrArg DriveLink.taken hlast, hpulse.other,
    fun a x o hx ho => ?_, fun a houtside => ?_, hn, hpairs, hfifo, hcaptures⟩
  · rw [hpulse.applying q hq]
    exact ⟨rfl, rfl⟩
  · have hat := s.table.commit_at (a := 0) hx ho
    rwa [Nat.zero_add, ← htable] at hat
  · rw [htable, ActTable.commit_other _ (by omega)]

end
end Sys2Proof.Machine

namespace Sys2Proof.Machine

section
set_option Elab.async false
variable {s t u : State} {l m : Nat} {ps : List TxLink} {tx : Transaction}

/-! ### A drop before the pulse (O38) -/

/-! #### The links that are released (R134) -/

/-- R134: what a drop makes of a participating link whose table gives it a state to rest in. -/
def DriveLink.released (r : DriveLink) (rest : DriveState) : DriveLink :=
  match r.state with
  | .loaded => { r with state := rest }
  | .recovering => { r with state := rest, timer := none }
  | _ => r

theorem restState_cases (s : State) (m : Nat) : s.restState m = .idle ∨ s.restState m = .disabled := by
  unfold State.restState
  split
  · exact .inl rfl
  · exact .inr rfl

theorem DriveLink.released_state (r : DriveLink) (rest : DriveState) : (r.released rest).state =
    if r.state = .loaded ∨ r.state = .recovering then rest else r.state := by
  unfold released
  split <;> simp_all

theorem DriveLink.released_of_rest {r : DriveLink} {rest : DriveState} (h : r.state = .idle ∨ r.state = .disabled) :
    r.released rest = r := by
  unfold released
  rcases h with h | h <;> rw [h]

/-- A link at rest takes part in no transaction (R137). -/
theorem restState_inTransaction (s : State) (m : Nat) : (s.restState m).inTransaction = false := by
  rcases restState_cases s m with h | h <;> rw [h] <;> rfl

theorem DriveLink.released_released (r : DriveLink) (s : State) (m : Nat) :
    (r.released (s.restState m)).released (s.restState m) = r.released (s.restState m) := by
  by_cases h : r.state = .loaded ∨ r.state = .recovering
  · refine released_of_rest ?_
    rw [released_state, if_pos h]
    exact restState_cases s m
  · have hkept : r.released (s.restState m) = r := by
      unfold released
      split <;> simp_all
    rw [hkept, hkept]

theorem releaseLink_driveLink (p : TxLink) (m : Nat) : (releaseLink s p).driveLink m =
    if p.link = m then (s.driveLink m).released (s.restState m) else s.driveLink m := by
  unfold releaseLink DriveLink.released
  by_cases h : p.link = m
  · subst h
    split <;> simp_all
  · split <;> simp [h]

theorem releaseLink_withLinks (s : State) (p : TxLink) : ∃ links, releaseLink s p = s.withLinks links := by
  unfold releaseLink
  split
  · exact ⟨_, rfl⟩
  · exact ⟨_, rfl⟩
  · exact ⟨s.drive.links, rfl⟩

theorem releaseLinks_driveLink (ps : List TxLink) (s : State) (m : Nat) : (ps.foldl releaseLink s).driveLink m =
    if ∃ q ∈ ps, q.link = m then (s.driveLink m).released (s.restState m) else s.driveLink m := by
  induction ps generalizing s with
  | nil => simp
  | cons p ps ih =>
    obtain ⟨links, hp⟩ := releaseLink_withLinks s p
    have hrest : (releaseLink s p).restState m = s.restState m := by rw [hp]; rfl
    rw [List.foldl_cons, ih, hrest, releaseLink_driveLink]
    by_cases hlink : p.link = m
    · simp [hlink, DriveLink.released_released]
    · simp [hlink]

/-- R134: drive link m once tx is dropped. -/
def droppedLink (tx : Transaction) (s : State) (m : Nat) : DriveLink :=
  if ∃ q ∈ tx.links, q.link = m then (s.driveLink m).released (s.restState m) else s.driveLink m

theorem droppedLink_congr (links : ∀ m, t.driveLink m = s.driveLink m) (table : t.table = s.table) (m : Nat) :
    droppedLink tx t m = droppedLink tx s m := by
  rw [droppedLink, links, State.restState, table]
  rfl

theorem releaseTransaction_driveLink (tx : Transaction) (s : State) (m : Nat) :
    (releaseTransaction tx s).driveLink m = droppedLink tx s m := releaseLinks_driveLink ..

theorem releaseTransaction_withLinks (tx : Transaction) (s : State) : ∃ links, releaseTransaction tx s =
    { s with drive := { s.drive with links := links, current := some { tx with dropped := true } } } :=
  foldl_withLinks releaseLink_withLinks ..

/-- R134, R137: of the links of a dropped transaction, LOADING and APPLYING ones keep it from ending. -/
theorem droppedLink_inTransaction {q : TxLink} (hq : q ∈ tx.links) :
    (droppedLink tx s q.link).state.inTransaction = true ↔
      (s.driveLink q.link).state = .loading ∨ (s.driveLink q.link).state = .applying := by
  rw [droppedLink, if_pos ⟨q, hq, rfl⟩, DriveLink.released_state]
  split
  · next h => rcases h with h | h <;> simp [restState_inTransaction, h]
  · next h => cases hstate : (s.driveLink q.link).state <;> simp_all [DriveState.inTransaction]

/-- R130: the released links are at rest, and so the links stay settled. -/
theorem linksSettled_of_dropped (h : s.linksSettled) (variant : t.variant = s.variant) (table : t.table = s.table)
    (links : ∀ m, t.driveLink m = droppedLink tx s m) : t.linksSettled := by
  refine h.of_links variant (fun m => by rw [State.restState, table, State.restState]) fun m => ?_
  rw [links, droppedLink]
  split
  · rw [DriveLink.released_state]
    split
    · exact .inr (.inl rfl)
    · exact .inl rfl
  · exact .inl rfl

/-! #### The end of a dropped transaction (R137) -/

/-- R137: clearing changes the outstanding transaction alone. -/
theorem clearLinks_driveLink (ps : List TxLink) (s : State) (m : Nat) :
    ∃ o, (ps.foldl clearOutstanding s).driveLink m = { s.driveLink m with outstanding := o } :=
  List.foldlRecOn (motive := fun u : State => ∃ o, u.driveLink m = { s.driveLink m with outstanding := o }) _ _
    ⟨_, rfl⟩ fun u ⟨o, hu⟩ p _ => by
      rw [clearOutstanding, State.driveLink_modifyDriveLink]
      split
      · next h => exact ⟨none, by rw [h, hu]⟩
      · exact ⟨o, hu⟩

theorem clearLinks_withLinks (ps : List TxLink) (s : State) :
    ∃ links, ps.foldl clearOutstanding s = s.withLinks links := foldl_withLinks (fun _ _ => ⟨_, rfl⟩) ps s

/-- R134: in t the SHAPE transaction tx of s is dropped, and has ended unless a link keeps it from that. -/
structure ShapeDropped (tx : Transaction) (s t : State) : Prop where
  pulses : t.drive.pulses = s.drive.pulses
  number : t.drive.number = s.drive.number
  waits : (∃ q ∈ tx.links, (s.driveLink q.link).state = .loading ∨ (s.driveLink q.link).state = .applying) →
    t.drive.current = some { tx with dropped := true }
  ends : (¬ ∃ q ∈ tx.links, (s.driveLink q.link).state = .loading ∨ (s.driveLink q.link).state = .applying) →
    t.drive.current = none
  links : ∀ m, ∃ o, t.driveLink m = { droppedLink tx s m with outstanding := o }

theorem ShapeDropped.since (h : ShapeDropped tx s t) (links : ∀ m, u.driveLink m = t.driveLink m)
    (pulses : u.drive.pulses = t.drive.pulses) (number : u.drive.number = t.drive.number)
    (current : u.drive.current = t.drive.current) : ShapeDropped tx s u where
  pulses := pulses.trans h.pulses
  number := number.trans h.number
  waits hwaits := current.trans (h.waits hwaits)
  ends hends := current.trans (h.ends hends)
  links m := by
    rw [links]
    exact h.links m

/-- What is current once tx is dropped was dropped. -/
theorem ShapeDropped.dropped (h : ShapeDropped tx s t) (tx' : Transaction) (hcurrent : t.drive.current = some tx') :
    tx'.dropped = true := by
  by_cases hwaits : ∃ q ∈ tx.links, (s.driveLink q.link).state = .loading ∨ (s.driveLink q.link).state = .applying
  · obtain rfl := Option.some.inj ((h.waits hwaits).symm.trans hcurrent)
    rfl
  · exact nomatch (h.ends hwaits).symm.trans hcurrent

/-- R137: a dropped SHAPE transaction ends when none of its links is LOADING or APPLYING. -/
theorem checkEnd_dropped (hkind : tx.kind = .shape) (current : t.drive.current = some { tx with dropped := true })
    (links : ∀ m, t.driveLink m = droppedLink tx s m) (pulses : t.drive.pulses = s.drive.pulses)
    (number : t.drive.number = s.drive.number) :
    ShapeDropped tx s (checkEnd t) ∧ ∃ d, checkEnd t = { t with drive := d } := by
  have hany : (tx.links.any fun p => (t.driveLink p.link).state.inTransaction) = true ↔
      ∃ q ∈ tx.links, (s.driveLink q.link).state = .loading ∨ (s.driveLink q.link).state = .applying := by
    rw [List.any_eq_true]
    exact exists_congr fun q => and_congr_right fun hq => by rw [links, droppedLink_inTransaction hq]
  by_cases hwaits : ∃ q ∈ tx.links, (s.driveLink q.link).state = .loading ∨ (s.driveLink q.link).state = .applying
  · have hstays : checkEnd t = t := by
      rw [checkEnd, current]
      exact if_pos (hany.mpr hwaits)
    rw [hstays]
    exact ⟨⟨pulses, number, fun _ => current, fun hends => absurd hwaits hends, fun m => ⟨_, links m⟩⟩, _, rfl⟩
  · obtain ⟨cleared, hcleared⟩ := clearLinks_withLinks tx.links t
    have hends : checkEnd t = { t with drive := { t.drive with links := cleared, current := none } } := by
      rw [checkEnd, current]
      refine (if_neg (mt hany.mp hwaits)).trans ?_
      simp only [endTransaction, hkind, hcleared]
      rfl
    have hlinks : ∀ m, (checkEnd t).driveLink m = (tx.links.foldl clearOutstanding t).driveLink m := fun m => by
      rw [hends, hcleared]
      rfl
    refine ⟨⟨?_, ?_, fun h => absurd h hwaits, fun _ => by rw [hends], fun m => ?_⟩, _, hends⟩
    · rw [hends]
      exact pulses
    · rw [hends]
      exact number
    · rw [hlinks, ← links]
      exact clearLinks_driveLink ..

end
end Sys2Proof.Machine

namespace Sys2Proof.Machine

section
set_option Elab.async false
variable {s t u : State} {l m : Nat} {tx : Transaction} {w : StageFrame} {shape : Shape} {reason : DropReason}

/-! #### The frame that is dropped (R122) -/

/-- R133: a link of the transaction that goes to rest leaves the others sending. -/
theorem Sending.setDriveLink {r : DriveLink} (h : Sending w shape tx s) (hrest : r.state = s.restState l) :
    Sending w shape tx (s.setDriveLink l r) :=
  { h with
    settled := h.settled.of_links rfl (fun _ => rfl) fun m => by
      rw [State.driveLink_setDriveLink]
      split
      · next heq => exact .inr (.inl (heq ▸ hrest))
      · exact .inl rfl }

/-- R122, R159: how a drop changes the loop: a drive failure counts in the drive run. -/
def DropReason.counted (reason : DropReason) (l : Loop) : Loop :=
  if reason.isFailure then { l with driveRun := bumpRun l.driveRun } else l

/-- R159, R160: a drive failure is compared with the threshold in OPEN and CLOSED, and does not reach it. -/
def DropReason.staysBelow (reason : DropReason) (l : Loop) : Prop :=
  reason.isFailure = true → bumpRun l.driveRun < l.driveThreshold ∨ l.state = .hold

theorem reportDrop_eq {f : Option Frame} (hrun : s.loop.state.running = true) (hbelow : reason.staysBelow s.loop) :
    (if reason.isFailure then reportDrive f s else s) = { s with loop := reason.counted s.loop } := by
  by_cases hfailure : reason.isFailure = true
  · rw [if_pos hfailure, reportDrive, if_pos hrun, DropReason.counted, if_pos hfailure]
    exact compareRun_stays (hbelow hfailure)
  · rw [if_neg hfailure, DropReason.counted, if_neg hfailure]

/-- R122: the drop is recorded, counted and reported; the stage still has the frame. -/
def driveDropped (reason : DropReason) (w : StageFrame) (shape : Shape) (s : State) : State :=
  { offer (stageRecord .droppedDrive w shape.clamp s) none s with
    stage := { s.stage with droppedDrive := s.stage.droppedDrive + 1 }, loop := reason.counted s.loop }

theorem driveDrop_eq (hphase : s.stage.phase = .sending w shape) (hrun : s.loop.state.running = true)
    (hbelow : reason.staysBelow s.loop) : driveDrop reason s = endStage w.slot (driveDropped reason w shape s) := by
  generalize hoffered : offer (stageRecord .droppedDrive w shape.clamp s) none s = u
  have hstage : u.stage = s.stage := by simp [← hoffered]
  have hloop : u.loop = s.loop := by simp [← hoffered]
  have hreported := reportDrop_eq (f := some w.frame)
    (s := { u with stage := { u.stage with droppedDrive := u.stage.droppedDrive + 1 } }) (hloop ▸ hrun)
    (hloop ▸ hbelow)
  simp only [driveDrop, hphase, hoffered]
  rw [hreported, driveDropped, hoffered, hstage, hloop]

theorem driveDropped_sameFrames : s.SameFrames (driveDropped reason w shape s) := by
  constructor <;> simp [sameSetting, driveDropped]

/-- R122, R134: in t transaction tx of s is dropped, and the stage's frame with it. -/
structure FrameDropped (reason : DropReason) (w : StageFrame) (shape : Shape) (tx : Transaction) (s t : State) :
    Prop where
  ended : FrameEnded w.slot s t
  drive : ShapeDropped tx s t
  stage : t.stage = { s.stage with phase := .idle, droppedDrive := s.stage.droppedDrive + 1 }
  loop : t.loop = reason.counted s.loop
  table : t.table = s.table
  scan : t.scan = s.scan
  fifo : t.telem.fifo = (offer (stageRecord .droppedDrive w shape.clamp s) none s).telem.fifo

theorem dropTransaction_eq (h : Sending w shape tx s) :
    dropTransaction reason s = checkEnd (driveDrop reason (releaseTransaction tx s)) := by
  rw [dropTransaction, h.current]
  refine (if_neg (by simp [h.pulsed, h.dropped])).trans ?_
  dsimp only
  rw [h.kind]

/-- R122, R134: the drop releases the links, ends the stage's work and, if no link keeps it, the transaction. -/
theorem dropTransaction_drops (h : Sending w shape tx s) (hbelow : reason.staysBelow s.loop) :
    FrameDropped reason w shape tx s (dropTransaction reason s) := by
  have hlinks := releaseTransaction_driveLink tx s
  obtain ⟨links, hv⟩ := releaseTransaction_withLinks tx s
  rw [dropTransaction_eq h]
  generalize releaseTransaction tx s = v at hlinks hv
  have hframes : s.SameFrames v := hv ▸ .of_drive s _
  have hstage : v.stage = s.stage := hv ▸ rfl
  have hloop : v.loop = s.loop := hv ▸ rfl
  have htable : v.table = s.table := hv ▸ rfl
  have hscan : v.scan = s.scan := hv ▸ rfl
  have htelem : v.telem = s.telem := hv ▸ rfl
  have hrecord : stageRecord .droppedDrive w shape.clamp v = stageRecord .droppedDrive w shape.clamp s := hv ▸ rfl
  rw [driveDrop_eq (hstage ▸ h.phase) (hloop ▸ h.running) (hloop ▸ hbelow)]
  generalize hc : driveDropped reason w shape v = c
  have hcvariant : c.variant = v.variant := by simp [← hc, driveDropped]
  have hcdrive : c.drive = v.drive := by simp [← hc, driveDropped]
  have hctable : c.table = s.table := by simp [← hc, driveDropped, htable]
  have hclinks : ∀ m, c.driveLink m = droppedLink tx s m := fun m => by
    rw [← hlinks, State.driveLink, hcvariant, hcdrive, State.driveLink]
  obtain ⟨hended, hlanded⟩ := endStage_ends h.alone h.hold (hframes.trans (hc ▸ driveDropped_sameFrames))
    (linksSettled_of_dropped h.settled (hcvariant.trans hframes.setting.1) hctable hclinks)
  obtain ⟨hsame, hnumber, hcurrent, -, hpulses, -, -⟩ := hlanded.drive
  obtain ⟨hdropped, d, hd⟩ := checkEnd_dropped (s := s) (t := endStage w.slot c) h.kind
    (by rw [hcurrent, hcdrive, hv]) (fun m => (hsame m).trans (hclinks m)) (by rw [hpulses, hcdrive, hv])
    (by rw [hnumber, hcdrive, hv])
  have hfinished := hended.trans (.of_drive _ d)
  rw [← hd] at hfinished
  refine ⟨hfinished, hdropped, ?_, ?_, ?_, ?_, ?_⟩
  all_goals rw [hd]
  · change (endStage w.slot c).stage = _
    rw [hlanded.stage, ← hc]
    simp [driveDropped, hstage]
  · change (endStage w.slot c).loop = _
    rw [hlanded.loop, ← hc]
    exact congrArg reason.counted hloop
  · exact hlanded.table.trans hctable
  · exact hlanded.scan.trans (by simp [← hc, driveDropped, hscan])
  · refine hlanded.fifo.trans ?_
    rw [← hc, ← hrecord]
    exact congrArg Telem.fifo (offer_telem_congr _ none htelem)

theorem FrameDropped.settle (h : FrameDropped reason w shape tx s t) (ha : s.endsAlone w.slot) : settle t = t :=
  h.ended.settle ha

/-! #### The link that failed (R133, R134) -/

/-- R133, R134: in t a failed load of link l in s, which makes the link r, has dropped tx. -/
structure LoadFailed (tx : Transaction) (l : Nat) (r : DriveLink) (s t : State) : Prop where
  pulses : t.drive.pulses = s.drive.pulses
  number : t.drive.number = s.drive.number
  waits : (∃ q ∈ tx.links, q.link ≠ l ∧
      ((s.driveLink q.link).state = .loading ∨ (s.driveLink q.link).state = .applying)) →
    t.drive.current = some { tx with dropped := true }
  ends : (¬ ∃ q ∈ tx.links, q.link ≠ l ∧
      ((s.driveLink q.link).state = .loading ∨ (s.driveLink q.link).state = .applying)) → t.drive.current = none
  failed : ∃ o, t.driveLink l = { r with outstanding := o }
  others : ∀ m, m ≠ l → (t.driveLink m).state =
    if (∃ q ∈ tx.links, q.link = m) ∧ ((s.driveLink m).state = .loaded ∨ (s.driveLink m).state = .recovering) then
      s.restState m
    else (s.driveLink m).state

theorem ShapeDropped.failed {r : DriveLink} (h : ShapeDropped tx (s.setDriveLink l r) t)
    (hrest : r.state = s.restState l) : LoadFailed tx l r s t := by
  have hatRest : r.state = .idle ∨ r.state = .disabled := hrest ▸ restState_cases s l
  have hself : (s.setDriveLink l r).driveLink l = r := (State.driveLink_setDriveLink ..).trans (if_pos rfl)
  have hother : ∀ m, m ≠ l → (s.setDriveLink l r).driveLink m = s.driveLink m := fun m hm =>
    (State.driveLink_setDriveLink ..).trans (if_neg hm.symm)
  have hwaits : (∃ q ∈ tx.links, ((s.setDriveLink l r).driveLink q.link).state = .loading ∨
      ((s.setDriveLink l r).driveLink q.link).state = .applying) ↔ ∃ q ∈ tx.links, q.link ≠ l ∧
      ((s.driveLink q.link).state = .loading ∨ (s.driveLink q.link).state = .applying) := by
    refine exists_congr fun q => and_congr_right fun _ => ?_
    by_cases hq : q.link = l
    · rw [hq, hself]
      rcases hatRest with hr | hr <;> simp [hr]
    · rw [hother _ hq]
      simp [hq]
  refine ⟨h.pulses, h.number, fun hw => h.waits (hwaits.mpr hw), fun hw => h.ends (mt hwaits.mp hw), ?_,
    fun m hm => ?_⟩
  · obtain ⟨o, hl⟩ := h.links l
    refine ⟨o, hl.trans ?_⟩
    rw [droppedLink, hself, DriveLink.released_of_rest hatRest, ite_self]
  · obtain ⟨o, hl⟩ := h.links m
    rw [hl, droppedLink, hother m hm, State.restState_setDriveLink]
    by_cases hpart : ∃ q ∈ tx.links, q.link = m
    · rw [if_pos hpart]
      simp only [DriveLink.released_state, hpart, true_and]
    · rw [if_neg hpart]
      simp only [hpart, false_and, if_false]

end
end Sys2Proof.Machine

namespace Sys2Proof.Machine

section
set_option Elab.async false
variable {s t : State} {tx : Transaction} {w : StageFrame} {shape : Shape} {cause : LoopCause} {frame : Option Frame}

/-! #### The entry to SAFE that comes with a drop (R122, R125, R139, R154, R156) -/

/-- R125: in t the loop of s has halted, which makes the stage g; nothing is held. -/
structure Halted (g : Stage) (s t : State) : Prop where
  stage : t.stage = g
  drive : sameDrive s t
  variant : t.variant = s.variant
  table : t.table = s.table
  hold : t.hold = []

theorem haltLoop_unfold (entered : LoopState) (cause : LoopCause) (frame : Option Frame) (scanCause : EndCause)
    (s : State) : ∃ u, haltLoop entered cause frame scanCause s = abandonStage u ∧ u.stage = s.stage ∧
      u.variant = s.variant ∧ u.drive = s.drive ∧ u.table = s.table ∧ u.hold = s.hold :=
  ⟨_, rfl, by simp, by simp, by simp, by simp, by simp⟩

theorem haltLoop_idle {entered : LoopState} {scanCause : EndCause} (hphase : s.stage.phase = .idle)
    (hhold : s.hold = []) : Halted s.stage s (haltLoop entered cause frame scanCause s) := by
  obtain ⟨u, hu, hstage, hvariant, hdrive, htable, hhold'⟩ := haltLoop_unfold entered cause frame scanCause s
  have hkept : abandonStage u = u := by
    rw [abandonStage, hstage, hphase]
  rw [hu, hkept]
  refine ⟨hstage, ?_, hvariant, htable, hhold'.trans hhold⟩
  simp [sameDrive, State.driveLink, hvariant, hdrive]

theorem haltLoop_busy {entered : LoopState} {scanCause : EndCause} (hphase : s.stage.phase ≠ .idle)
    (hhold : s.hold = []) (hlinks : s.linksSettled) :
    Halted { s.stage with phase := .idle, cut := s.stage.cut + 1 } s (haltLoop entered cause frame scanCause s) := by
  obtain ⟨u, hu, hstage, hvariant, hdrive, htable, hhold'⟩ := haltLoop_unfold entered cause frame scanCause s
  generalize hv : ({ u with stage := { u.stage with cut := u.stage.cut + 1 } } : State) = v
  have hcut : abandonStage u = { applyHold v with stage := { (applyHold v).stage with phase := .idle } } := by
    unfold abandonStage
    split
    · next hidle => exact absurd hidle (hstage ▸ hphase)
    · rw [hv]
  obtain ⟨htable', hempty, hsame⟩ := applyHold_settled v (by rw [← hv]; exact hhold'.trans hhold)
    (hlinks.of_eq (by rw [← hv]; exact hvariant) (by rw [← hv]; exact htable) (by rw [← hv]; exact hdrive))
  rw [hu, hcut]
  refine ⟨?_, ⟨fun l => (hsame l).trans ?_, ?_⟩, ?_, htable'.trans ?_, hempty⟩
  · simp [← hv, hstage]
  · rw [← hv, State.driveLink, State.driveLink, ← hvariant, ← hdrive]
  · simp [applyHold, ← hv, hdrive]
  · simp [← hv, hvariant]
  · rw [← hv]
    exact htable

/-- R131: the entry to STOPPED or SAFE withdraws a SHAPE request. -/
def withdrawShape (s : State) : State :=
  match s.drive.request with
  | some r => if r.kind = TxKind.shape then { s with drive := { s.drive with request := none } } else s
  | none => s

theorem withdrawShape_request (s : State) :
    ∃ request, withdrawShape s = { s with drive := { s.drive with request := request } } := by
  unfold withdrawShape
  split
  · split
    · exact ⟨_, rfl⟩
    · exact ⟨s.drive.request, rfl⟩
  · exact ⟨s.drive.request, rfl⟩

theorem abandonShape_eq (s : State) : abandonShape s =
    match (withdrawShape s).drive.current with
    | none => withdrawShape s
    | some tx =>
      if tx.kind = TxKind.shape ∧ tx.pulsed = false ∧ tx.dropped = false then
        checkEnd (releaseTransaction tx (withdrawShape s))
      else withdrawShape s := rfl

theorem withdrawShape_current (s : State) : (withdrawShape s).drive.current = s.drive.current := by
  obtain ⟨request, h⟩ := withdrawShape_request s
  rw [h]

/-- R139: a transaction that was dropped is not abandoned again. -/
theorem abandonShape_dropped (h : ∀ tx, s.drive.current = some tx → tx.dropped = true) :
    abandonShape s = withdrawShape s := by
  rw [abandonShape_eq, withdrawShape_current]
  split
  · rfl
  · next tx hcurrent => exact if_neg (by simp [h tx hcurrent])

/-- R139: a SHAPE transaction before its pulse is abandoned as a drop would end it. -/
theorem abandonShape_drops (hcurrent : s.drive.current = some tx) (hkind : tx.kind = .shape)
    (hpulsed : tx.pulsed = false) (hdropped : tx.dropped = false) :
    ShapeDropped tx s (abandonShape s) ∧ ∃ d, abandonShape s = { s with drive := d } := by
  obtain ⟨request, hv⟩ := withdrawShape_request s
  have habandons : abandonShape s = checkEnd (releaseTransaction tx (withdrawShape s)) := by
    rw [abandonShape_eq, withdrawShape_current, hcurrent]
    exact if_pos ⟨hkind, hpulsed, hdropped⟩
  have hlinks := releaseTransaction_driveLink tx (withdrawShape s)
  obtain ⟨links, hu⟩ := releaseTransaction_withLinks tx (withdrawShape s)
  rw [habandons]
  generalize releaseTransaction tx (withdrawShape s) = u at hlinks hu
  have hsame : ∀ m, (withdrawShape s).driveLink m = s.driveLink m := fun m => by rw [hv]; rfl
  obtain ⟨hended, d, hd⟩ := checkEnd_dropped (s := s) (t := u) hkind (by rw [hu])
    (fun m => (hlinks m).trans (droppedLink_congr hsame (by rw [hv]) m)) (by rw [hu, hv]) (by rw [hu, hv])
  exact ⟨hended, d, by rw [hd, hu, hv]⟩

/-- The slots and queues that an entry to STOPPED or SAFE empties are beside what halted. -/
theorem Halted.emptied {g : Stage} (h : Halted g s t) : Halted g s (emptyQueues (freeSlots t)) where
  stage := by simpa using h.stage
  drive := by simpa [sameDrive, State.driveLink] using h.drive
  variant := by simpa using h.variant
  table := by simpa using h.table
  hold := by simpa using h.hold

/-- R125, R139: the entry cuts the frame that is in the stage, and drops its transaction. -/
theorem enterRest_sending (h : Sending w shape tx s) :
    (enterRest .safe cause frame .safe s).stage = { s.stage with phase := .idle, cut := s.stage.cut + 1 } ∧
      (enterRest .safe cause frame .safe s).hold = [] ∧ ShapeDropped tx s (enterRest .safe cause frame .safe s) := by
  have hemptied := (haltLoop_busy (entered := .safe) (cause := cause) (frame := frame) (scanCause := .safe)
    (by rw [h.phase]; exact nofun) h.hold h.settled).emptied
  rw [enterRest_eq]
  generalize emptyQueues _ = u at hemptied
  obtain ⟨hlinks, hnumber, hcurrent, -, hpulses, -, -⟩ := hemptied.drive
  obtain ⟨hdropped, d, hd⟩ := abandonShape_drops (s := u) (hcurrent.trans h.current) h.kind h.pulsed h.dropped
  refine ⟨by rw [hd]; exact hemptied.stage, by rw [hd]; exact hemptied.hold, ?_⟩
  refine ⟨hdropped.pulses.trans hpulses, hdropped.number.trans hnumber, ?_, ?_, fun m => ?_⟩
  · simpa only [hlinks] using hdropped.waits
  · simpa only [hlinks] using hdropped.ends
  · rw [← droppedLink_congr hlinks hemptied.table]
    exact hdropped.links m

/-- R139: the entry finds the stage IDLE and the transaction dropped, and leaves them. -/
theorem enterRest_dropped {s₀ : State} (hphase : s.stage.phase = .idle) (hhold : s.hold = [])
    (h : ShapeDropped tx s₀ s) : (enterRest .safe cause frame .safe s).stage = s.stage ∧
      (enterRest .safe cause frame .safe s).hold = [] ∧ ShapeDropped tx s₀ (enterRest .safe cause frame .safe s) := by
  have hemptied := (haltLoop_idle (entered := .safe) (cause := cause) (frame := frame) (scanCause := .safe)
    hphase hhold).emptied
  rw [enterRest_eq]
  generalize emptyQueues _ = u at hemptied
  obtain ⟨hlinks, hnumber, hcurrent, -, hpulses, -, -⟩ := hemptied.drive
  have hkept := h.since hlinks hpulses hnumber hcurrent
  obtain ⟨request, hrequest⟩ := withdrawShape_request u
  rw [abandonShape_dropped hkept.dropped, hrequest]
  exact ⟨hemptied.stage, hemptied.hold, hkept.since (fun _ => rfl) rfl rfl rfl⟩

/-- R154, R156: in t the loop of s has entered SAFE. -/
structure SafeEntered (cause : LoopCause) (frame : Option Frame) (s t : State) : Prop where
  setting : sameSetting s t
  store : t.store = s.store
  loop : t.loop = { s.loop with
    state := .safe, missedRun := 0, strokeRun := 0, driveRun := 0, pendingTransition := none
    lastTransition := some { entered := .safe, cause := cause, frame := frame }
    safeEntries := s.loop.safeEntries + 1, safeConfirmed := t.loop.safeConfirmed }
  raised : t.hasCause .safeEntered = true
  slots : ∀ k, k < 2 → (t.slot k).state = .free
  lastClosed : t.lastClosed = none
  biasSend : t.drive.biasSend.isSome = true

/-- R156: the entry to SAFE before its bias send is the rest that it shares with STOPPED, counted and raised. -/
theorem safeEntry_rest {r : State} (h : enterRest .safe cause frame .safe s = r) :
    (safeEntry cause frame s).slots = r.slots ∧ (safeEntry cause frame s).lastClosed = r.lastClosed ∧
      (safeEntry cause frame s).stage = r.stage ∧ (safeEntry cause frame s).hold = r.hold ∧
      (safeEntry cause frame s).drive = r.drive ∧ (safeEntry cause frame s).variant = r.variant := by
  unfold safeEntry
  rw [h]
  exact ⟨rfl, rfl, rfl, rfl, rfl, rfl⟩

theorem enterSafe_cases (h : s.loop.state ≠ .safe) :
    (enterSafe cause frame s = safeEntry cause frame s ∧ (safeEntry cause frame s).drive.biasSend.isSome = true) ∨
      enterSafe cause frame s = beginBiasSend (safeEntry cause frame s) := by
  have hentry : enterSafe cause frame s = if (safeEntry cause frame s).drive.biasSend.isSome = true then
      safeEntry cause frame s else beginBiasSend (safeEntry cause frame s) := by
    rw [enterSafe, if_neg h, safeEntry]
  rw [hentry]
  split
  · next hsend => exact .inl ⟨rfl, hsend⟩
  · exact .inr rfl

theorem enterSafe_entered (h : s.loop.state ≠ .safe) : SafeEntered cause frame s (enterSafe cause frame s) := by
  have hcases := enterSafe_cases (cause := cause) (frame := frame) h
  have hloop := safeEntry_loop (s := s) (cause := cause) (frame := frame)
  have hraised := safeEntry_hasCause (s := s) (cause := cause) (frame := frame)
  obtain ⟨hslots, hlast, -⟩ := safeEntry_rest (s := s) (cause := cause) (frame := frame) rfl
  rw [enterRest_lastClosed] at hlast
  have hfree : ∀ k, k < 2 → ((safeEntry cause frame s).slot k).state = .free := fun k hk => by
    rw [State.slot, hslots, ← State.slot]
    exact enterRest_slot_free hk
  have hsetting : sameSetting s (enterSafe cause frame s) := by simp [sameSetting]
  have hstore : (enterSafe cause frame s).store = s.store := by simp
  generalize safeEntry cause frame s = u at hcases hloop hraised hfree hlast
  obtain ⟨hentered, hsend⟩ | hentered := hcases
  all_goals rw [hentered] at hsetting hstore ⊢
  · exact ⟨hsetting, hstore, by rw [hloop], hraised, hfree, hlast, hsend⟩
  · exact ⟨hsetting, hstore, congrArg (fun l : Loop => { l with safeConfirmed := false }) hloop, hraised, hfree,
      hlast, rfl⟩

/-- R140, R154: the bias send that an entry to SAFE begins changes neither the stage nor the current transaction. -/
theorem enterSafe_rest (h : s.loop.state ≠ .safe) :
    (enterSafe cause frame s).stage = (enterRest .safe cause frame .safe s).stage ∧
    (enterSafe cause frame s).hold = (enterRest .safe cause frame .safe s).hold ∧
    ∀ {tx : Transaction} {s₀ : State}, ShapeDropped tx s₀ (enterRest .safe cause frame .safe s) →
      ShapeDropped tx s₀ (enterSafe cause frame s) := by
  have hcases := enterSafe_cases (cause := cause) (frame := frame) h
  obtain ⟨-, -, hstage, hhold, hdrive, hvariant⟩ := safeEntry_rest (s := s) (cause := cause) (frame := frame) rfl
  generalize enterRest .safe cause frame .safe s = r at hstage hhold hdrive hvariant
  generalize safeEntry cause frame s = u at hcases hstage hhold hdrive hvariant
  have hlinks : ∀ m, u.driveLink m = r.driveLink m := fun m => by
    rw [State.driveLink, hdrive, hvariant, State.driveLink]
  obtain ⟨hentered, -⟩ | hentered := hcases
  all_goals
    rw [hentered]
    exact ⟨hstage, hhold, fun hdropped => hdropped.since hlinks (congrArg Drive.pulses hdrive :)
      (congrArg Drive.number hdrive :) (congrArg Drive.current hdrive :)⟩

/-- R122, R125, R154: in t the loop of s is SAFE and transaction tx dropped, in the order that is taken. -/
structure DroppedAndSafe (order : SafeOrder) (cause : LoopCause) (frame : Option Frame) (tx : Transaction)
    (s t : State) : Prop where
  entered : SafeEntered cause frame s t
  drive : ShapeDropped tx s t
  stage : t.stage = { s.stage with
    phase := .idle
    droppedDrive := s.stage.droppedDrive + (if order = .dropFirst then 1 else 0)
    cut := s.stage.cut + (if order = .safeFirst then 1 else 0) }
  hold : t.hold = []

/-- A running loop is not SAFE (R148). -/
theorem ne_safe_of_running {l : LoopState} (h : l.running = true) : l ≠ .safe := by
  rintro rfl
  cases h

theorem dropTransaction_again {reason : DropReason} (h : ∀ tx, s.drive.current = some tx → tx.dropped = true) :
    dropTransaction reason s = s := by
  unfold dropTransaction
  split
  · rfl
  · next tx hcurrent => exact if_pos (by simp [h tx hcurrent])

/-- R122, R138: a SAFE cause drops the frame that is being sent, or the entry cuts it. -/
theorem dropAndSafe_sending (order : SafeOrder) {reason : DropReason} (h : Sending w shape tx s)
    (hsilent : reason.isFailure = false) :
    DroppedAndSafe order cause frame tx s (dropAndSafe order reason cause frame id s) := by
  cases order with
  | dropFirst =>
    have hdrop := dropTransaction_drops (reason := reason) h fun hfailure => nomatch hsilent.symm.trans hfailure
    change DroppedAndSafe .dropFirst cause frame tx s (enterSafe cause frame (settle (dropTransaction reason s)))
    rw [hdrop.settle h.alone]
    generalize dropTransaction reason s = u at hdrop
    have hloop : u.loop = s.loop := by rw [hdrop.loop, DropReason.counted, hsilent]; rfl
    have hrunning : u.loop.state ≠ .safe := hloop ▸ ne_safe_of_running h.running
    have hentered := enterSafe_entered (cause := cause) (frame := frame) hrunning
    obtain ⟨hstage, hhold, hdrive⟩ := enterSafe_rest (cause := cause) (frame := frame) hrunning
    obtain ⟨hstage', hhold', hdrive'⟩ := enterRest_dropped (cause := cause) (frame := frame)
      (by rw [hdrop.stage]) hdrop.ended.hold hdrop.drive
    refine ⟨?_, hdrive hdrive', ?_, hhold.trans hhold'⟩
    · exact { hentered with
        setting := hdrop.ended.setting.trans hentered.setting
        store := hentered.store.trans hdrop.ended.store
        loop := hloop ▸ hentered.loop }
    · rw [hstage, hstage', hdrop.stage]
      simp
  | safeFirst =>
    have hrunning := ne_safe_of_running h.running
    have hentered := enterSafe_entered (cause := cause) (frame := frame) hrunning
    obtain ⟨hstage, hhold, hdrive⟩ := enterSafe_rest (cause := cause) (frame := frame) hrunning
    obtain ⟨hstage', hhold', hdrive'⟩ := enterRest_sending (cause := cause) (frame := frame) h
    have hdropped := hdrive hdrive'
    change DroppedAndSafe .safeFirst cause frame tx s (dropTransaction reason (enterSafe cause frame s))
    rw [dropTransaction_again hdropped.dropped]
    refine ⟨hentered, hdropped, ?_, hhold.trans hhold'⟩
    rw [hstage, hstage']
    simp

end
end Sys2Proof.Machine

namespace Sys2Proof.Machine

section
set_option Elab.async false
variable {s : State} {l : Nat} {tx : Transaction}

/-! #### The obligation -/

/-- R133: what the reply timeout makes of its link. -/
def DriveLink.timedOut (r : DriveLink) (rest : DriveState) : DriveLink :=
  { r with state := rest, timer := none, status := .replyTimeout, replyTimeouts := r.replyTimeouts + 1 }

/-- R133: a refusal of the current transaction's LOAD has its outcome. -/
theorem takeRefused_current {reason : RefuseReason} {order : SafeOrder} {between : State → State}
    (hcurrent : s.drive.current = some tx) (hdropped : tx.dropped = false)
    (hstate : (s.driveLink l).state = .loading) (hout : (s.driveLink l).outstanding = some tx.ref) :
    takeRefused l tx.number reason order between s = refusedOutcome reason order (s.driveLink l).causeFrame between
      (s.setDriveLink l ((s.driveLink l).refuse (s.restState l) reason)) := by
  rw [takeRefused, if_pos (DriveLink.awaitsLoadReply_ref hstate hout)]
  exact if_neg (by simp [replyIsLate_current hcurrent hdropped hout])

/-- R133: the reply timer of the current transaction's LOAD expires. -/
theorem expireReply_current {d : Nat} (hcurrent : s.drive.current = some tx) (hdropped : tx.dropped = false)
    (hstate : (s.driveLink l).state = .loading) (hout : (s.driveLink l).outstanding = some tx.ref)
    (htimer : (s.driveLink l).timer = some (.reply d)) : expireReply l s =
      settle (dropTransaction .replyTimeout (s.setDriveLink l ((s.driveLink l).timedOut (s.restState l)))) := by
  simp only [expireReply, hstate, htimer]
  exact if_neg (by simp [replyIsLate_current hcurrent hdropped hout])

/-- R149: the cause of a link in a SHAPE transaction carries its frame. -/
theorem causeFrame_shape {r : DriveLink} (hout : r.outstanding = some tx.ref) (hkind : tx.kind = .shape) :
    r.causeFrame = tx.frame := by
  simp [DriveLink.causeFrame, hout, Transaction.ref, hkind]

/-- Settles O38: CRC, LENGTH and the timeout drop the transaction with the frame, and so does CHANNEL_FAULT, before or
after the entry to SAFE. -/
theorem failedLoadDropsFrame : Obligations.FailedLoadDropsFrame := by
  intro s w shape tx l channel entry hawake hrun hphase ha hlinks hhold hcurrent hkind hpulsed hdropped hl hpart
    hstate hout hbelow waits dropped
  have hsending : Sending w shape tx s := ⟨hphase, hrun, ha, hlinks, hhold, hcurrent, hkind, hpulsed, hdropped⟩
  have hexec : ∀ {f : State → State}, awake s (onDriveLink l f) = .next (f s) := awake_onDriveLink hawake hl
  have hdrops : ∀ {reason : DropReason} {r : DriveLink}, reason.isFailure = true → r.state = s.restState l →
      r.timer = none →
      let t := settle (dropTransaction reason (s.setDriveLink l r))
      dropped t ∧ ∃ o, t.driveLink l = { r with outstanding := o } := fun {reason r} hfailure hrest htimer => by
    have hdrop := dropTransaction_drops (reason := reason) (hsending.setDriveLink hrest) fun _ => hbelow
    have hfailed := hdrop.drive.failed hrest
    have hloop := hdrop.loop
    rw [DropReason.counted, if_pos hfailure] at hloop
    obtain ⟨o, hlink⟩ := hfailed.failed
    intro t
    rw [show t = _ from hdrop.settle ha]
    refine ⟨⟨hdrop.ended.setting, hdrop.ended.freed, hdrop.stage, hloop, hdrop.table, hdrop.ended.hold,
      hdrop.ended.engine, hdrop.ended.banks, hdrop.ended.store, hdrop.ended.lastClosed, hdrop.scan,
      hdrop.fifo.trans (offer_none_fifo_congr rfl rfl rfl), hfailed.pulses, hfailed.number, hfailed.waits,
      hfailed.ends, ?_, ?_, hfailed.others⟩, o, hlink⟩
    · rw [hlink]
      exact hrest
    · rw [hlink]
      exact htimer
  have hrefuses : ∀ reason, exec (.refusedReply l tx.number reason channel entry) s = .next (refusedOutcome reason
      entry.order tx.frame (takeBetween entry.between)
      (s.setDriveLink l ((s.driveLink l).refuse (s.restState l) reason))) := fun reason => by
    rw [← causeFrame_shape hout hkind, ← takeRefused_current hcurrent hdropped hstate hout]
    exact hexec
  refine ⟨?_, ?_, fun d htimer => ?_, fun hbetween => ?_⟩
  · obtain ⟨hdrop, o, hlink⟩ := hdrops (reason := .refusedCrc) (r := (s.driveLink l).refuse (s.restState l) .crc) rfl
      rfl rfl
    exact ⟨_, hrefuses .crc, hdrop, congrArg DriveLink.status hlink, congrArg DriveLink.refusedCrc hlink⟩
  · obtain ⟨hdrop, o, hlink⟩ := hdrops (reason := .refusedLength)
      (r := (s.driveLink l).refuse (s.restState l) .length) rfl rfl rfl
    exact ⟨_, hrefuses .length, hdrop, congrArg DriveLink.status hlink, congrArg DriveLink.refusedLength hlink⟩
  · obtain ⟨hdrop, o, hlink⟩ := hdrops (reason := .replyTimeout) (r := (s.driveLink l).timedOut (s.restState l)) rfl
      rfl rfl
    refine ⟨_, hexec.trans ?_, hdrop, congrArg DriveLink.status hlink, congrArg DriveLink.replyTimeouts hlink⟩
    rw [expireReply_current hcurrent hdropped hstate hout htimer]
  · have hsafe := hrefuses .channelFault
    rw [hbetween] at hsafe
    have hboth := dropAndSafe_sending entry.order (reason := .refusedChannel) (cause := .refusedChannel)
      (frame := tx.frame) (hsending.setDriveLink
        (r := (s.driveLink l).refuse (s.restState l) .channelFault) rfl) rfl
    have hfailed := hboth.drive.failed rfl
    obtain ⟨o, hlink⟩ := hfailed.failed
    have hentered := hboth.entered
    have hloop := hentered.loop
    refine ⟨_, hsafe, hentered.setting, congrArg DriveLink.state hlink, congrArg DriveLink.timer hlink,
      congrArg DriveLink.status hlink, congrArg DriveLink.refusedChannel hlink, (congrArg Loop.state hloop :),
      (congrArg Loop.driveRun hloop :), (congrArg Loop.holdEntries hloop :), (congrArg Loop.safeEntries hloop :),
      hentered.raised, (congrArg Loop.lastTransition hloop :), hboth.stage,
      hentered.slots 0 (by omega), hentered.slots 1 (by omega), hentered.lastClosed, hboth.hold,
      hentered.store, hfailed.pulses, hfailed.number, hfailed.waits, hfailed.ends,
      hentered.biasSend⟩

end
end Sys2Proof.Machine

namespace Sys2Proof.Machine

section
set_option Elab.async false
variable {s : State} {l : Nat} {number : Byte} {r : DriveLink}

/-! ### Replies that nothing waits for (O40) -/

theorem DriveLink.awaitsLoadReply_iff : r.awaitsLoadReply number = true ↔
    r.state = .loading ∧ ∃ o, r.outstanding = some o ∧ o.number = number := by
  simp [awaitsLoadReply]

theorem DriveLink.awaitsApplied_iff : r.awaitsApplied number = true ↔
    r.state = .applying ∧ ∃ o, r.outstanding = some o ∧ o.number = number := by
  simp [awaitsApplied]

/-- R133: without a reply timer its expiry changes nothing. -/
theorem expireReply_idle (h : (s.driveLink l).timer = none) : expireReply l s = s := by
  unfold expireReply
  dsimp only
  split
  · next htimer => exact nomatch h.symm.trans htimer
  · rfl

/-- R137: without an apply timer its expiry changes nothing. -/
theorem expireApply_idle (h : (s.driveLink l).timer = none) : expireApply l s = s := by
  unfold expireApply
  split
  · next htimer => exact nomatch h.symm.trans htimer
  · rfl

/-- Settles O40: the link waits for no such reply, the frame spells none, or no timer runs. -/
theorem strayRepliesAreCounted : Obligations.StrayRepliesAreCounted := by
  intro s l number hawake hl stray rxError mine
  have hexec : ∀ {f : State → State}, awake s (onDriveLink l f) = .next (f s) := awake_onDriveLink hawake hl
  refine ⟨fun bad hwaits => ?_, fun reason channel entry hwaits => ?_, fun hwaits => ?_, hexec,
    fun bytes hnone => ?_, fun htimer => ⟨?_, ?_⟩⟩
  · exact hexec.trans (congrArg _ (if_neg (mt DriveLink.awaitsLoadReply_iff.mp hwaits)))
  · exact hexec.trans (congrArg _ (if_neg (mt DriveLink.awaitsLoadReply_iff.mp hwaits)))
  · exact hexec.trans (congrArg _ (if_neg (mt DriveLink.awaitsApplied_iff.mp hwaits)))
  · exact hexec.trans (congrArg _ (if_pos (by rw [returnCounts, hnone]; rfl)))
  · exact hexec.trans (congrArg _ (expireReply_idle htimer))
  · exact hexec.trans (congrArg _ (expireApply_idle htimer))

end
end Sys2Proof.Machine

namespace Sys2Proof.Machine

section
set_option Elab.async false
variable {s : State} {l : Nat} {tx : Transaction} {p : TxLink} {bad : List Nat}

/-! ### A link's answer before the pulse (O35) -/

theorem txPart_eq (hcurrent : s.drive.current = some tx)
    (hpart : tx.links.find? (fun q => decide (q.link = l)) = some p) : txPart s l = some (tx, p) := by
  simp only [txPart, hcurrent, hpart]
  rfl

theorem recoverLink_recovering (hstate : (s.driveLink l).state = .recovering)
    (hpart : txPart s l = some (tx, p)) : recoverLink l s = sendLoad tx p (s.modifyDriveLink l fun r =>
      { r with status := .recovered, recovered := r.recovered + 1, timer := none }) := by
  simp only [recoverLink, hstate, hpart]

theorem recoverLink_other (hstate : (s.driveLink l).state ≠ .recovering) : recoverLink l s = s := by
  unfold recoverLink
  split
  · next h _ => exact absurd h hstate
  · rfl

/-- R133, R135: a link's LOAD is TAKEN, which leaves it in a state. -/
def takenLink (state : DriveState) (l : Nat) (s : State) : State :=
  s.modifyDriveLink l fun r => { r with state := state, status := .taken, taken := r.taken + 1, timer := none }

theorem takenLink_other {state : DriveState} {m : Nat} (hm : m ≠ l) :
    (takenLink state l s).driveLink m = s.driveLink m :=
  (State.driveLink_modifyDriveLink ..).trans (if_neg hm.symm)

/-- R133: TAKEN in time makes the link LOADED, and the pulse comes if it was the last. -/
theorem takeTaken_current (hcurrent : s.drive.current = some tx) (hdropped : tx.dropped = false)
    (hstate : (s.driveLink l).state = .loading) (hout : (s.driveLink l).outstanding = some tx.ref) :
    takeTaken l tx.number bad s = settle (pulseIfLoaded bad (takenLink .loaded l s)) := by
  rw [takeTaken, if_pos (DriveLink.awaitsLoadReply_ref hstate hout), replyIsLate_current hcurrent hdropped hout]
  rfl

/-- R135: TAKEN in a transaction that was dropped rests the link, and ends the transaction if it was the last. -/
theorem takeTaken_late (hcurrent : s.drive.current = some tx) (hdropped : tx.dropped = true)
    (hstate : (s.driveLink l).state = .loading) (hout : (s.driveLink l).outstanding = some tx.ref) :
    takeTaken l tx.number bad s = settle (checkEnd (takenLink (s.restState l) l s)) := by
  have hlate : replyIsLate s (s.driveLink l) = true := by simp [replyIsLate, hcurrent, hdropped]
  rw [takeTaken, if_pos (DriveLink.awaitsLoadReply_ref hstate hout), hlate]
  rfl

/-- R136: no pulse comes while a link of the transaction is not LOADED. -/
theorem pulseIfLoaded_waits (hcurrent : s.drive.current = some tx)
    (hwaits : ∃ q ∈ tx.links, (s.driveLink q.link).state ≠ .loaded) : pulseIfLoaded bad s = s := by
  obtain ⟨q, hq, hstate⟩ := hwaits
  rw [pulseIfLoaded, hcurrent]
  refine if_neg fun hpulse => hstate ?_
  simp only [Bool.and_eq_true, List.all_eq_true, decide_eq_true_eq] at hpulse
  exact hpulse.2 q hq

/-- R137: no transaction ends while a link is in it. -/
theorem checkEnd_waits (hcurrent : s.drive.current = some tx)
    (hwaits : ∃ q ∈ tx.links, (s.driveLink q.link).state.inTransaction = true) : checkEnd s = s := by
  rw [checkEnd, hcurrent]
  exact if_pos (List.any_eq_true.mpr hwaits)

/-- Settles O35: the recovered line sends the LOAD of its part, and a TAKEN that is not the last brings neither the
pulse nor the end; nothing begins after it. -/
theorem linkAnswersBeforePulse : Obligations.LinkAnswersBeforePulse := by
  intro s l tx p bad hawake hl hcurrent hfind taken
  have hexec : ∀ {f : State → State}, awake s (onDriveLink l f) = .next (f s) := awake_onDriveLink hawake hl
  refine ⟨fun hstate => ?_, fun hstate => ?_, fun hstate hout hquiet => ?_⟩
  · have hlink : p.link = l := by simpa using List.find?_some hfind
    refine hexec.trans (congrArg _ ?_)
    rw [recoverLink_recovering hstate (txPart_eq hcurrent hfind), sendLoad, hlink,
      State.modifyDriveLink_modifyDriveLink]
  · exact hexec.trans (congrArg _ (recoverLink_other hstate))
  · have hsettles : ∀ state, settle (takenLink state l s) = takenLink state l s := fun state =>
      hquiet.elim (fun hbusy => settle_busy (takenLink state l s) hbusy)
        fun hrest => settle_rest (takenLink state l s) hrest
    refine ⟨fun hdropped ⟨q, hq, hne, hwaits⟩ => ?_, fun hdropped ⟨q, hq, hne, hwaits⟩ => ?_⟩
    · refine hexec.trans (congrArg _ ?_)
      rw [takeTaken_current hcurrent hdropped hstate hout,
        pulseIfLoaded_waits (s := takenLink .loaded l s) hcurrent ⟨q, hq, by rwa [takenLink_other hne]⟩, hsettles]
      rfl
    · refine hexec.trans (congrArg _ ?_)
      rw [takeTaken_late hcurrent hdropped hstate hout,
        checkEnd_waits (s := takenLink _ l s) hcurrent ⟨q, hq, by rwa [takenLink_other hne]⟩, hsettles]
      rfl

end
end Sys2Proof.Machine

namespace Sys2Proof.Machine

section
set_option Elab.async false

/-! ### An APPLIED that ends a bias send with an edit held (O39) -/

/-- A bias send past its pulse, on drive link 0 alone. -/
def lastOfBiasSend : Transaction :=
  { number := 1, kind := .bias, frame := none, pulsed := true, dropped := false, timeoutReported := false
    links := [{ link := 0, values := [0], replyTimeout := 50, applyTimeout := 200, recoveryWindow := 100 }]
    applied := [] }

/-- R99: an edit that gives the record to drive link 1. -/
def moveToLinkOne : ActFields := { link := 1, channel := 0, bias := 0, lo := 0, hi := 65535, gainSet := 0 }

/-- Actuator 0 has drive link 0, which is the last in `lastOfBiasSend`; an edit that moves the actuator to link 1 is
held for the end of the bias send. -/
def biasSendWithHeldMove : State :=
  { State.reset with
    table := { ActTable.reset with n := 1 }
    hold := [.write 0 [moveToLinkOne]]
    drive := { Drive.reset with
      links := [(0, { DriveLink.reset .dq1024 0 with state := .applying, outstanding := some lastOfBiasSend.ref })]
      current := some lastOfBiasSend
      biasSend := some { biases := [0] } } }

/-- R100, R130: with APPLIED the bias send ends, the edit leaves link 0 without an actuator, and it is DISABLED. -/
theorem takeApplied_heldMove : ((takeApplied 0 1 biasSendWithHeldMove).driveLink 0).state = .disabled := by decide

/-- Refutes O39: its first clause gives the link the rest state of the table before the APPLIED, with nothing said of
the hold; but the end of a bias send applies the held edits (R100, R141), and the link settles by the table that they
make (R130). -/
theorem not_appliedEndsTransaction : ¬ Obligations.AppliedEndsTransaction := by
  intro h
  obtain ⟨happlied, -⟩ := h biasSendWithHeldMove 0 lastOfBiasSend rfl rfl rfl ⟨_, List.mem_singleton_self _, rfl⟩ rfl
  obtain ⟨t, hexec, -, hstate, -⟩ := happlied 1 lastOfBiasSend.ref rfl rfl
  have hdisabled : (t.driveLink 0).state = .disabled := by
    rw [← Host.Outcome.next.inj hexec]
    exact takeApplied_heldMove
  have hidle : biasSendWithHeldMove.restState 0 = .idle := by decide
  exact absurd (hdisabled.symm.trans (hstate.trans hidle)) (by decide)

end
end Sys2Proof.Machine

namespace Sys2Proof.Machine

section
set_option Elab.async false
variable {s : State} {l m : Nat} {tx : Transaction} {idle : Nat → Bool} {r : TxRequest}

/-! ### A transaction begins (O34) -/

/-! #### The links that take part (R131) -/

theorem linksBusy_iff : linksBusy s = true ↔ ∃ l, s.hasDriveLink l = true ∧ (s.driveLink l).state.busy = true := by
  simp [linksBusy, State.driveLinkList, State.hasDriveLink]

theorem participants_nodup (s : State) : (participants s).Nodup := (List.nodup_range.filter _).filter _

/-- The steps of a fold that changes one link each leave the other links. -/
theorem foldl_link_other {f : State → TxLink → State} {ps : List TxLink}
    (hf : ∀ u p, p.link ≠ m → (f u p).driveLink m = u.driveLink m) (h : ∀ q ∈ ps, q.link ≠ m) :
    (ps.foldl f s).driveLink m = s.driveLink m :=
  List.foldlRecOn (motive := fun u : State => u.driveLink m = s.driveLink m) _ _ rfl fun u hu p hp =>
    (hf u p (h p hp)).trans hu

/-- Each link of such a fold is changed by its own step. -/
theorem foldl_link_at {f : State → TxLink → State} {g : TxLink → DriveLink → DriveLink} {ps : List TxLink}
    (hself : ∀ u p, (f u p).driveLink p.link = g p (u.driveLink p.link))
    (hother : ∀ u p m, p.link ≠ m → (f u p).driveLink m = u.driveLink m)
    (hps : ps.Pairwise (fun p q => p.link ≠ q.link)) {q : TxLink} (hq : q ∈ ps) :
    (ps.foldl f s).driveLink q.link = g q (s.driveLink q.link) := by
  induction ps generalizing s with
  | nil => simp at hq
  | cons p ps ih =>
    obtain ⟨hp, hps⟩ := List.pairwise_cons.mp hps
    rw [List.foldl_cons]
    obtain rfl | hq := List.mem_cons.mp hq
    · rw [foldl_link_other (fun u p => hother u p _) fun r hr => (hp r hr).symm, hself]
    · rw [ih hps hq, hother _ _ _ (hp q hq)]

/-- R131 to R133: what the begin of tx makes of a participating link. -/
def TxLink.started (tx : Transaction) (idle : Nat → Bool) (p : TxLink) (r : DriveLink) : DriveLink :=
  if idle p.link then
    { r with
      state := .loading, status := .loadSent, loads := r.loads + 1, timer := some (.reply p.replyTimeout)
      outstanding := some tx.ref, forward := .load (tx.loadBytes p) }
  else
    { r with
      state := .recovering, outstanding := some tx.ref, forward := .resync
      timer := some (.recovery p.recoveryWindow) }

theorem startLink_driveLink (p : TxLink) : (startLink tx idle s p).driveLink m =
    if p.link = m then p.started tx idle (s.driveLink m) else s.driveLink m := by
  unfold startLink TxLink.started sendLoad sendResync
  by_cases hm : p.link = m
  · subst hm
    cases idle p.link <;> simp
  · cases idle p.link <;> simp [hm]

theorem startLinks_withLinks (ps : List TxLink) (s : State) :
    ∃ links, ps.foldl (startLink tx idle) s = s.withLinks links :=
  foldl_withLinks (fun u p => by
    unfold startLink
    dsimp only
    split
    · exact ⟨_, rfl⟩
    · exact ⟨_, rfl⟩) ps s

theorem TxLink.started_inTransaction (p : TxLink) (r : DriveLink) :
    (p.started tx idle r).state.inTransaction = true := by
  unfold started
  split <;> rfl

/-- R131: the transaction that a request makes, as it begins. -/
def beginning (r : TxRequest) (s : State) : Transaction :=
  { number := s.drive.number + 1, kind := r.kind, frame := r.frame
    links := (participants s).map (txLink s r.values), pulsed := false, dropped := false
    timeoutReported := false, applied := [] }

/-- R131: the request has become the current transaction; no link has taken it yet. -/
def requestTaken (r : TxRequest) (s : State) : State :=
  { s with drive := { s.drive with
    number := s.drive.number + 1, current := some (beginning r s), request := none } }

theorem beginTransaction_eq (r : TxRequest) (idle : Nat → Bool) (s : State) : beginTransaction r idle s =
    checkEnd ((beginning r s).links.foldl (startLink (beginning r s) idle) (requestTaken r s)) := rfl

theorem beginning_pairwise (r : TxRequest) (s : State) :
    (beginning r s).links.Pairwise (fun p q => p.link ≠ q.link) :=
  List.pairwise_map.mpr (participants_nodup s)

/-- R131: with participants the transaction does not end as it begins. -/
theorem beginTransaction_starts (hsome : participants s ≠ []) : beginTransaction r idle s =
    (beginning r s).links.foldl (startLink (beginning r s) idle) (requestTaken r s) := by
  obtain ⟨l, hl⟩ := List.exists_mem_of_ne_nil _ hsome
  obtain ⟨links, hstarted⟩ := startLinks_withLinks (tx := beginning r s) (idle := idle) (beginning r s).links
    (requestTaken r s)
  rw [beginTransaction_eq]
  refine checkEnd_waits (by rw [hstarted]; rfl) ⟨txLink s r.values l, List.mem_map_of_mem hl, ?_⟩
  rw [foldl_link_at (fun u p => (startLink_driveLink p).trans (if_pos rfl))
    (fun u p m hm => (startLink_driveLink p).trans (if_neg hm)) (beginning_pairwise r s) (List.mem_map_of_mem hl)]
  exact TxLink.started_inTransaction ..

/-- R131, R141: a bias send without participants has ended, up to its held edits. -/
def biasSendEnded (s : State) : State :=
  { s with
    loop := { s.loop with safeConfirmed := (enabledLinks s).isEmpty }
    drive := { s.drive with number := s.drive.number + 1, current := none, request := none, biasSend := none } }

theorem beginTransaction_empty (hnone : participants s = []) (hkind : r.kind = .bias) :
    beginTransaction r idle s = applyHold (biasSendEnded s) := by
  have hlinks : (beginning r s).links = [] := by simp [beginning, hnone]
  have hkind' : (beginning r s).kind = .bias := hkind
  rw [beginTransaction_eq, hlinks, List.foldl_nil, checkEnd]
  simp only [requestTaken, hlinks, endTransaction, hkind', endBiasSend, biasConfirmed]
  rfl

/-! #### The values of the LOAD (R131 step 4) -/

theorem channelUser_none {t : ActTable} {c : Nat}
    (h : ∀ a, a < t.n → (t.actuator a).link = l → (t.actuator a).channel ≠ c) : channelUser t l c = none := by
  refine List.find?_eq_none.mpr fun a ha => ?_
  simpa using h a (List.mem_range.mp ha)

/-- R95: the actuator of a channel is the one that the table gives, where no two share a channel. -/
theorem channelUser_some {t : ActTable} {a c : Nat}
    (hunique : ∀ a b, a < t.n → b < t.n → t.sameChannel a b = true → a = b) (ha : a < t.n)
    (hlink : (t.actuator a).link = l) (hchannel : (t.actuator a).channel = c) : channelUser t l c = some a := by
  cases huser : channelUser t l c with
  | none =>
    have huses := List.find?_eq_none.mp huser a (List.mem_range.mpr ha)
    exact absurd huses (by simp [hlink, hchannel])
  | some b =>
    have hb : b < t.n := List.mem_range.mp (List.mem_of_find?_eq_some huser)
    have huses := List.find?_some huser
    simp only [Bool.and_eq_true, decide_eq_true_eq] at huses
    rw [hunique a b ha hb (by simp [ActTable.sameChannel, huses, hlink, hchannel])]

theorem channelValues_used {t : ActTable} {values : List Nat} {a c k park : Nat} (hc : c < k)
    (huser : channelUser t l c = some a) : (channelValues t values l k park)[c]? = some (values.getD a park) := by
  simp [channelValues, hc, huser]

theorem channelValues_unused {t : ActTable} {values : List Nat} {c k park : Nat} (hc : c < k)
    (huser : channelUser t l c = none) : (channelValues t values l k park)[c]? = some park := by
  simp [channelValues, hc, huser]

theorem exec_transactionBegin {idle0 idle1 : Bool} (hawake : s.resetLow = false)
    (hrequest : s.drive.request = some r) : exec (.transactionBegin idle0 idle1) s = .next
      (if linksBusy s then s else beginTransaction r (fun l => if l = 0 then idle0 else idle1) s) := by
  change execTransactionBegin idle0 idle1 s = _
  rw [execTransactionBegin, awake, if_neg (by simp [hawake])]
  simp only [hrequest]

/-- Settles O34: the begin waits for a busy link, starts each participant, or ends a bias send that has none. -/
theorem transactionBegins : Obligations.TransactionBegins := by
  intro s r idle0 idle1 hawake hrequest idle tx
  have hexec := exec_transactionBegin (idle0 := idle0) (idle1 := idle1) hawake hrequest
  have hfree : (∀ l, s.hasDriveLink l = true → (s.driveLink l).state.busy = false) →
      exec (.transactionBegin idle0 idle1) s = .next (beginTransaction r idle s) := fun hidle =>
    hexec.trans (congrArg _ (if_neg fun hbusy => by
      obtain ⟨l, hl, hlinks⟩ := linksBusy_iff.mp hbusy
      exact absurd hlinks (by simp [hidle l hl])))
  refine ⟨fun hbusy => ?_, fun hidle hsome => ?_, fun hidle hnone hkind hhold hsettled => ?_,
    fun p hp c hc hunique => ?_⟩
  · exact hexec.trans (congrArg _ (if_pos (linksBusy_iff.mpr hbusy)))
  · obtain ⟨links, hstarted⟩ := startLinks_withLinks (tx := beginning r s) (idle := idle) (beginning r s).links
      (requestTaken r s)
    refine ⟨_, (hfree hidle).trans (congrArg _ (beginTransaction_starts hsome)), by rw [hstarted]; rfl,
      by rw [hstarted]; rfl, fun l => ?_⟩
    have hlink : l ∈ participants s →
        ((beginning r s).links.foldl (startLink (beginning r s) idle) (requestTaken r s)).driveLink l =
        (txLink s r.values l).started (beginning r s) idle (s.driveLink l) := fun hl =>
      foldl_link_at (fun u p => (startLink_driveLink p).trans (if_pos rfl))
        (fun u p m hm => (startLink_driveLink p).trans (if_neg hm)) (beginning_pairwise r s)
        (List.mem_map_of_mem hl)
    refine ⟨fun hl => ?_, fun hl hline => ?_, fun hl hline => ?_⟩
    · refine foldl_link_other (fun u p hm => (startLink_driveLink p).trans (if_neg hm)) fun q hq heq => hl ?_
      obtain ⟨a, ha, rfl⟩ := List.mem_map.mp hq
      exact heq ▸ ha
    · exact (hlink hl).trans (if_pos hline)
    · exact (hlink hl).trans (if_neg (by simp [txLink, hline]))
  · obtain ⟨htable, -, hlinks⟩ := applyHold_settled (biasSendEnded s) hhold hsettled
    refine ⟨_, (hfree hidle).trans (congrArg _ (beginTransaction_empty hnone hkind)), ?_⟩
    refine ⟨?_, ?_, ?_, ?_, ?_, hlinks, ?_, htable, ?_, ?_, ?_, ?_, ?_⟩
    all_goals simp [applyHold, biasSendEnded, sameSetting]
  · obtain ⟨l, -, rfl⟩ := List.mem_map.mp hp
    refine ⟨fun a v ha hlink hchannel hv => ?_, fun hunused => channelValues_unused hc (channelUser_none hunused)⟩
    refine (channelValues_used hc (channelUser_some hunique ha hlink hchannel)).trans ?_
    rw [List.getD_eq_getElem?_getD, hv, Option.getD_some]

end
end Sys2Proof.Machine

namespace Sys2Proof.Machine

section
set_option Elab.async false
variable {s₀ s t u : State} {tx : Transaction} {cause : LoopCause} {frame : Option Frame} {reason : DropReason}

/-! ### What the shared operations leave of the drive links (O33, O36)

The end of a frame, of a transaction or of the loop's run settles the links by the table (R130), and leaves a FAULTED
link as it is, but for its outstanding transaction (R137). Each operation is one `_keeps` lemma below. -/

/-- From s to t settled links stay settled, and FAULTED links keep all but their outstanding transaction. -/
structure LinksKept (s t : State) : Prop where
  variant : t.variant = s.variant
  settled : s.linksSettled → t.linksSettled
  faulted : ∀ m, (s.driveLink m).state = .faulted → ∃ o, t.driveLink m = { s.driveLink m with outstanding := o }

theorem LinksKept.start : LinksKept s s := ⟨rfl, id, fun _ _ => ⟨_, rfl⟩⟩

theorem LinksKept.trans (h : LinksKept s t) (g : LinksKept t u) : LinksKept s u where
  variant := g.variant.trans h.variant
  settled hs := g.settled (h.settled hs)
  faulted m hm := by
    obtain ⟨o, ht⟩ := h.faulted m hm
    obtain ⟨o', hu⟩ := g.faulted m (by rw [ht]; exact hm)
    exact ⟨o', by rw [hu, ht]⟩

/-- R130: the links that enablement puts to rest were not FAULTED. -/
theorem LinksKept.step (h : LinksKept s₀ s) (variant : t.variant = s.variant)
    (rest : ∀ m, t.restState m = s.restState m)
    (links : ∀ m, (∃ o, t.driveLink m = { s.driveLink m with outstanding := o }) ∨
      ((s.driveLink m).state ≠ .faulted ∧ (t.driveLink m).state = s.restState m)) : LinksKept s₀ t := by
  refine h.trans ⟨variant, fun hs => hs.of_links variant rest fun m => ?_, fun m hm => ?_⟩
  · obtain ⟨o, hkept⟩ | ⟨-, hrest⟩ := links m
    · exact .inl (by rw [hkept])
    · exact .inr (.inl hrest)
  · exact (links m).elim id fun hne => absurd hm hne.1

/-- What leaves the links and the fields of the table keeps the links. The premises are those that the `_leaves`
lemmas give. -/
theorem LinksKept.of_frame (h : LinksKept s₀ s) (variant : t.variant = s.variant := by simp)
    (table : t.table = s.table := by simp) (links : t.drive.links = s.drive.links := by simp) : LinksKept s₀ t :=
  h.step variant (fun m => by rw [State.restState, table, State.restState])
    fun m => .inl ⟨(s.driveLink m).outstanding, by rw [State.driveLink, variant, links, ← State.driveLink]⟩

/-- The table takes new states and outputs, the fields of its records kept. -/
theorem LinksKept.withTable (h : LinksKept s₀ s) {a : ActTable} (ha : a.sameFields s.table) :
    LinksKept s₀ { s with table := a } :=
  h.step (t := { s with table := a }) rfl (restState_of_sameFields ha) fun _ => .inl ⟨_, rfl⟩

/-- R130: links settled by a new table. -/
theorem LinksKept.settleLinks (h : LinksKept s₀ s) (variant : u.variant = s.variant)
    (links : u.drive.links = s.drive.links) : LinksKept s₀ (settleLinks u) := by
  have hlinks : ∀ m, u.driveLink m = s.driveLink m := fun m => by
    rw [State.driveLink, variant, links, ← State.driveLink]
  refine h.trans ⟨by simp [variant], fun _ => settleLinks_linksSettled u, fun m hm => ?_⟩
  rw [settleLinks_driveLink, hlinks, if_neg (by simp [hm])]
  exact ⟨_, rfl⟩

/-! #### The end of a frame (R47, R100, R119 to R123) -/

theorem applyHold_keeps (h : LinksKept s₀ s) : LinksKept s₀ (applyHold s) := h.settleLinks rfl rfl

theorem endStage_keeps {k : Nat} (h : LinksKept s₀ s) : LinksKept s₀ (endStage k s) :=
  (applyHold_keeps h).of_frame (by simp) (by simp [endStage]) (by simp [endStage])

theorem enterCommand_keeps {k : Nat} (h : LinksKept s₀ s) : LinksKept s₀ (enterCommand k s) := by
  unfold enterCommand
  extract_lets s1 s2
  have h2 : LinksKept s₀ s2 := h.of_frame (by simp [s2, s1]) (by simp [s2, s1]) (by simp [s2, s1])
  split
  · exact endStage_keeps h2.of_frame
  · exact h2.of_frame

theorem enterCommands_keeps {fuel : Nat} (h : LinksKept s₀ s) : LinksKept s₀ (enterCommands fuel s) := by
  induction fuel generalizing s with
  | zero => exact h
  | succ more ih =>
    unfold enterCommands
    split
    · split
      · exact ih (enterCommand_keeps h)
      · exact h
    · exact h

theorem settle_keeps (h : LinksKept s₀ s) : LinksKept s₀ (settle s) :=
  LinksKept.of_frame (t := arbiter (enterCommands 2 s)) (enterCommands_keeps (fuel := 2) h)

theorem commitFrame_keeps {bad : List Nat} (h : LinksKept s₀ s) : LinksKept s₀ (commitFrame bad s) := by
  unfold commitFrame
  split
  · next w shape _ =>
    exact endStage_keeps (h.withTable (s.table.commit_sameFields 0 shape.states shape.outputs)).of_frame
  · exact h

theorem driveDrop_keeps (h : LinksKept s₀ s) : LinksKept s₀ (driveDrop reason s) := by
  unfold driveDrop
  split
  · dsimp only
    split
    · exact endStage_keeps h.of_frame
    · exact endStage_keeps h.of_frame
  · exact h

/-! #### The end of a transaction (R134, R137, R139, R141) -/

theorem clearLinks_keeps (ps : List TxLink) (h : LinksKept s₀ s) : LinksKept s₀ (ps.foldl clearOutstanding s) := by
  obtain ⟨links, hcleared⟩ := clearLinks_withLinks ps s
  exact h.step (by rw [hcleared]; rfl) (fun _ => by rw [hcleared]; rfl) fun m => .inl (clearLinks_driveLink ps s m)

theorem endTransaction_keeps (h : LinksKept s₀ s) : LinksKept s₀ (endTransaction tx s) := by
  have hcleared := clearLinks_keeps tx.links h
  unfold endTransaction
  dsimp only
  split
  · exact hcleared.of_frame
  · exact applyHold_keeps hcleared.of_frame

theorem checkEnd_keeps (h : LinksKept s₀ s) : LinksKept s₀ (checkEnd s) := by
  unfold checkEnd
  split
  · exact h
  split
  · exact h
  · exact endTransaction_keeps h

/-- R134: of the links of a dropped transaction only LOADED and RECOVERING ones change. -/
theorem DriveLink.released_cases (r : DriveLink) (rest : DriveState) :
    r.released rest = r ∨ (r.state ≠ .faulted ∧ (r.released rest).state = rest) := by
  unfold released
  split
  · next h => exact .inr ⟨by simp [h], rfl⟩
  · next h => exact .inr ⟨by simp [h], rfl⟩
  · exact .inl rfl

theorem releaseTransaction_keeps (h : LinksKept s₀ s) : LinksKept s₀ (releaseTransaction tx s) := by
  obtain ⟨links, hreleased⟩ := releaseTransaction_withLinks tx s
  refine h.step (by rw [hreleased]) (fun _ => by rw [hreleased]; rfl) fun m => ?_
  rw [releaseTransaction_driveLink, droppedLink]
  split
  · obtain hkept | hrest := (s.driveLink m).released_cases (s.restState m)
    · exact .inl ⟨_, hkept⟩
    · exact .inr hrest
  · exact .inl ⟨_, rfl⟩

theorem dropTransaction_keeps (h : LinksKept s₀ s) : LinksKept s₀ (dropTransaction reason s) := by
  unfold dropTransaction
  split
  · exact h
  split
  · exact h
  dsimp only
  split
  · exact checkEnd_keeps (driveDrop_keeps (releaseTransaction_keeps h))
  · exact checkEnd_keeps (releaseTransaction_keeps h)

theorem withdrawShape_keeps (h : LinksKept s₀ s) : LinksKept s₀ (withdrawShape s) := by
  obtain ⟨request, hwithdrawn⟩ := withdrawShape_request s
  rw [hwithdrawn]
  exact h.of_frame

theorem abandonShape_keeps (h : LinksKept s₀ s) : LinksKept s₀ (abandonShape s) := by
  have hwithdrawn := withdrawShape_keeps h
  rw [abandonShape_eq]
  split
  · exact hwithdrawn
  split
  · exact checkEnd_keeps (releaseTransaction_keeps hwithdrawn)
  · exact hwithdrawn

/-! #### Entry to STOPPED and to SAFE (R125, R154 to R156) -/

theorem abandonStage_keeps (h : LinksKept s₀ s) : LinksKept s₀ (abandonStage s) := by
  unfold abandonStage
  split
  · exact h
  · exact (applyHold_keeps (s := { s with stage := { s.stage with cut := s.stage.cut + 1 } }) h.of_frame).of_frame

theorem enterRest_keeps {entered : LoopState} {scanCause : EndCause} (h : LinksKept s₀ s) :
    LinksKept s₀ (enterRest entered cause frame scanCause s) := by
  have hhalted : LinksKept s₀ (haltLoop entered cause frame scanCause s) := abandonStage_keeps h.of_frame
  rw [enterRest_eq]
  exact abandonShape_keeps hhalted.of_frame

theorem beginBiasSend_keeps (h : LinksKept s₀ s) : LinksKept s₀ (beginBiasSend s) :=
  LinksKept.of_frame (t := beginBiasSend s) (h.withTable (s.table.biasStates_sameFields 0 s.table.biases)) rfl rfl rfl

theorem safeEntry_keeps (h : LinksKept s₀ s) : LinksKept s₀ (safeEntry cause frame s) :=
  (enterRest_keeps (entered := .safe) (cause := cause) (frame := frame) (scanCause := .safe) h).of_frame
    (by simp [safeEntry]) (by simp [safeEntry]) (by simp [safeEntry])

theorem enterSafe_keeps (h : LinksKept s₀ s) : LinksKept s₀ (enterSafe cause frame s) := by
  by_cases hsafe : s.loop.state = .safe
  · rw [enterSafe_again _ _ _ hsafe]
    exact h
  obtain ⟨hentered, -⟩ | hentered := enterSafe_cases (cause := cause) (frame := frame) hsafe
  · rw [hentered]
    exact safeEntry_keeps h
  · rw [hentered]
    exact beginBiasSend_keeps (safeEntry_keeps h)

end
end Sys2Proof.Machine

namespace Sys2Proof.Machine

section
set_option Elab.async false
variable {s₀ s t u : State} {cause : LoopCause} {frame : Option Frame} {reason : DropReason}

/-! ### A FAULTED link makes the loop SAFE (O36) -/

/-! #### The entries to SAFE that are counted (R147) -/

@[simp] theorem compareRun_safeEntries (run threshold : Nat) (cause : LoopCause) (f : Option Frame) (s : State) :
    (compareRun run threshold cause f s).loop.safeEntries = s.loop.safeEntries := by
  unfold compareRun
  split
  · split
    · rw [enterHold_loop]
    · rfl
  · split
    · rw [enterHold_loop]
    · rfl
  · rfl

@[simp] theorem reportMissed_safeEntries (f : Frame) (s : State) :
    (reportMissed f s).loop.safeEntries = s.loop.safeEntries := by
  unfold reportMissed
  split
  · exact compareRun_safeEntries ..
  · rfl

@[simp] theorem reportUsed_safeEntries (s : State) : (reportUsed s).loop.safeEntries = s.loop.safeEntries := by
  unfold reportUsed
  split <;> rfl

@[simp] theorem decideMissed_safeEntries (k : Nat) (s : State) :
    (decideMissed k s).loop.safeEntries = s.loop.safeEntries := by
  unfold decideMissed
  dsimp only
  split <;> simp

@[simp] theorem closeSlot_safeEntries (k : Nat) (cause : CloseCause) (s : State) :
    (closeSlot k cause s).loop.safeEntries = s.loop.safeEntries := by
  unfold closeSlot
  dsimp only
  split
  · split <;> simp
  · rfl

@[simp] theorem acceptSegment_safeEntries (k n : Nat) (seg : Segment) (s : State) :
    (acceptSegment k n seg s).loop.safeEntries = s.loop.safeEntries := by
  unfold acceptSegment
  extract_lets slot before after s1 s2
  have h2 : s2.loop.safeEntries = s.loop.safeEntries := by
    simp only [s2]
    split
    · exact closeSlot_safeEntries ..
    · rfl
  split
  · exact h2
  · exact h2

@[simp] theorem placeHead_safeEntries (k n : Nat) (seg : Segment) (s : State) :
    (placeHead k n seg s).loop.safeEntries = s.loop.safeEntries := by
  unfold placeHead
  dsimp only
  split <;> simp

@[simp] theorem waitHead_safeEntries (n : Nat) (s : State) :
    (waitHead n s).loop.safeEntries = s.loop.safeEntries := by
  unfold waitHead
  dsimp only
  split <;> simp

@[simp] theorem decideHead_safeEntries (n : Nat) (seg : Segment) (s : State) :
    (decideHead n seg s).loop.safeEntries = s.loop.safeEntries := by
  unfold decideHead
  split
  · simp
  split
  · simp
  split
  · simp
  split <;> simp

@[simp] theorem arbitrate_safeEntries (fuel : Nat) (s : State) :
    (arbitrate fuel s).loop.safeEntries = s.loop.safeEntries := by
  induction fuel generalizing s with
  | zero => rfl
  | succ more ih =>
    unfold arbitrate offerHead
    split
    · split
      · simp
      split
      · rw [ih]
        dsimp only
        split <;> simp
      · rfl
    · rfl

@[simp] theorem enterTracking_safeEntries (target : Target) (cause : LoopCause) (f : Option Frame) (s : State) :
    (enterTracking target cause f s).loop.safeEntries = s.loop.safeEntries := by
  simp [enterTracking, clearRuns, changeLoop]

@[simp] theorem testScheduled_safeEntries (g : Frame) (s : State) :
    (testScheduled g s).loop.safeEntries = s.loop.safeEntries := by
  unfold testScheduled
  split
  · rfl
  split
  · dsimp only
    split
    · split <;> simp
    · split <;> simp
  · rfl

/-- R48, R153: the stage of a running loop begins a frame, and the loop goes on running. -/
theorem enterCommand_running {k : Nat} (hrun : s.loop.state.running = true) :
    (enterCommand k s).loop.state.running = true ∧ (enterCommand k s).loop.safeEntries = s.loop.safeEntries := by
  unfold enterCommand
  extract_lets s1 s2
  have hrun2 : s2.loop.state.running = true := testScheduled_running _ hrun
  have hentries : s2.loop.safeEntries = s.loop.safeEntries := testScheduled_safeEntries _ s1
  split
  · simpa [holdPath] using ⟨hrun2, hentries⟩
  · exact ⟨hrun2, hentries⟩

theorem enterCommands_running {fuel : Nat} (hrun : s.loop.state.running = true) :
    (enterCommands fuel s).loop.state.running = true ∧
      (enterCommands fuel s).loop.safeEntries = s.loop.safeEntries := by
  induction fuel generalizing s with
  | zero => exact ⟨hrun, rfl⟩
  | succ more ih =>
    unfold enterCommands
    split
    · split
      · obtain ⟨hnext, hentries⟩ := enterCommand_running hrun
        obtain ⟨hrest, hmore⟩ := ih hnext
        exact ⟨hrest, hmore.trans hentries⟩
      · exact ⟨hrun, rfl⟩
    · exact ⟨hrun, rfl⟩

/-- R154: what becomes free begins no entry to SAFE. -/
theorem settle_notSafe (h : s.loop.state ≠ .safe) :
    (settle s).loop.state ≠ .safe ∧ (settle s).loop.safeEntries = s.loop.safeEntries := by
  cases hrun : s.loop.state.running with
  | false =>
    rw [settle_rest s hrun]
    exact ⟨h, rfl⟩
  | true =>
    obtain ⟨hrunning, hentries⟩ := enterCommands_running (fuel := 2) hrun
    exact ⟨ne_safe_of_running ((arbiter_running _).trans hrunning), (arbitrate_safeEntries ..).trans hentries⟩

/-! #### What an entry to SAFE and a drop leave of the port (R189, R191, R197) -/

/-- From s to t the port is told of causes, and nothing else of it changes. -/
structure PortRaised (s t : State) : Prop where
  kept : t.port = { s.port with causes := t.port.causes }
  causes : ∀ c, s.hasCause c = true → t.hasCause c = true

theorem PortRaised.start : PortRaised s s := ⟨rfl, fun _ => id⟩

theorem PortRaised.trans (h : PortRaised s t) (g : PortRaised t u) : PortRaised s u where
  kept := by rw [g.kept, h.kept]
  causes c hc := g.causes c (h.causes c hc)

theorem PortRaised.of_frame (h : PortRaised s₀ s) (port : t.port = s.port := by simp) : PortRaised s₀ t :=
  h.trans ⟨by rw [port], fun c hc => (hasCause_congr port c).trans hc⟩

theorem PortRaised.raise (h : PortRaised s₀ s) (c : Cause) : PortRaised s₀ (raise c s) :=
  h.trans ⟨rfl, fun _ => raise_keeps_cause⟩

theorem PortRaised.offer (h : PortRaised s₀ s) (r : Record) (copy : Option CaptureCopy) :
    PortRaised s₀ (offer r copy s) := by
  refine h.trans ⟨?_, fun _ => offer_keeps_cause⟩
  unfold Machine.offer joinFifo
  split
  · split
    · rfl
    split
    · rfl
    · dsimp only
      split <;> rfl
  · rfl

theorem scanAbort_portRaised {c : EndCause} (h : PortRaised s₀ s) : PortRaised s₀ (scanAbort c s) := by
  unfold scanAbort
  split
  · exact h.of_frame.offer _ _
  · exact h

theorem cancelSwap_portRaised (h : PortRaised s₀ s) : PortRaised s₀ (cancelSwap s) := by
  unfold cancelSwap
  split
  · exact h
  · exact h.of_frame.raise _

theorem abandonStage_portRaised (h : PortRaised s₀ s) : PortRaised s₀ (abandonStage s) := h.of_frame

theorem haltLoop_portRaised {entered : LoopState} {scanCause : EndCause} (h : PortRaised s₀ s) :
    PortRaised s₀ (haltLoop entered cause frame scanCause s) := by
  have hchanged : PortRaised s₀ (changeLoop entered cause frame s) := h.of_frame.offer _ _
  have hcleared : PortRaised s₀ (clearRuns (changeLoop entered cause frame s)) := hchanged.of_frame
  exact abandonStage_portRaised (cancelSwap_portRaised (scanAbort_portRaised hcleared.of_frame))

theorem safeEntry_portRaised (h : PortRaised s₀ s) : PortRaised s₀ (safeEntry cause frame s) := by
  have hhalted : PortRaised s₀ (haltLoop .safe cause frame .safe s) := haltLoop_portRaised h
  have hrest : PortRaised s₀ (enterRest .safe cause frame .safe s) := by
    rw [enterRest_eq]
    exact hhalted.of_frame
  exact (hrest.raise .safeEntered).of_frame rfl

theorem enterSafe_portRaised (h : PortRaised s₀ s) : PortRaised s₀ (enterSafe cause frame s) := by
  have hentry : PortRaised s₀ (safeEntry cause frame s) := safeEntry_portRaised h
  by_cases hsafe : s.loop.state = .safe
  · rw [enterSafe_again _ _ _ hsafe]
    exact h
  obtain ⟨hentered, -⟩ | hentered := enterSafe_cases (cause := cause) (frame := frame) hsafe
  · rw [hentered]
    exact hentry
  · rw [hentered]
    exact hentry.of_frame

/-! #### A drop that is no drive failure (R134) -/

/-- From s to t nothing of the loop but safe_confirmed changes, and the port is told of causes at most. -/
structure LoopAside (s t : State) : Prop where
  loop : t.loop = { s.loop with safeConfirmed := t.loop.safeConfirmed }
  port : PortRaised s t

theorem LoopAside.trans (h : LoopAside s t) (g : LoopAside t u) : LoopAside s u :=
  ⟨by rw [g.loop, h.loop], h.port.trans g.port⟩

theorem LoopAside.of_frame (h : LoopAside s₀ s) (loop : t.loop = s.loop := by simp)
    (port : t.port = s.port := by simp) : LoopAside s₀ t :=
  h.trans ⟨by rw [loop], PortRaised.start.of_frame port⟩

theorem LoopAside.start : LoopAside s s := ⟨rfl, .start⟩

theorem checkEnd_aside (h : LoopAside s₀ s) : LoopAside s₀ (checkEnd s) := by
  refine h.trans ⟨?_, PortRaised.start.of_frame⟩
  unfold checkEnd
  split
  · rfl
  split
  · rfl
  · unfold endTransaction
    dsimp only
    split
    · simp
    · simp [endBiasSend]

theorem driveDrop_aside (hsilent : reason.isFailure = false) (h : LoopAside s₀ s) :
    LoopAside s₀ (driveDrop reason s) := by
  unfold driveDrop
  split
  · next w shape _ =>
    have hoffered : LoopAside s₀ (offer (stageRecord .droppedDrive w shape.clamp s) none s) :=
      h.trans ⟨by simp, PortRaised.start.offer _ _⟩
    rw [hsilent]
    exact hoffered.of_frame
  · exact h

theorem dropTransaction_aside (hsilent : reason.isFailure = false) : LoopAside s (dropTransaction reason s) := by
  unfold dropTransaction
  split
  · exact .start
  next tx _ =>
  have hreleased : LoopAside s (releaseTransaction tx s) := LoopAside.start.of_frame
  split
  · exact .start
  dsimp only
  split
  · exact checkEnd_aside (driveDrop_aside hsilent hreleased)
  · exact checkEnd_aside hreleased

/-! #### The entry to SAFE with what comes before and after it (R154) -/

/-- R154, R156: in t the loop is SAFE; where it was not in s, the entry is counted, raised and recorded. -/
structure MadeSafe (cause : LoopCause) (frame : Option Frame) (s t : State) : Prop where
  setting : sameSetting s t
  links : LinksKept s t
  state : t.loop.state = .safe
  entered : s.loop.state ≠ .safe → t.loop.safeEntries = s.loop.safeEntries + 1 ∧
    t.hasCause .safeEntered = true ∧
    t.loop.lastTransition = some { entered := .safe, cause := cause, frame := frame }

theorem enterSafe_madeSafe : MadeSafe cause frame s (enterSafe cause frame s) := by
  have hlinks : LinksKept s (enterSafe cause frame s) := enterSafe_keeps .start
  have hsetting : sameSetting s (enterSafe cause frame s) := by simp [sameSetting]
  by_cases hsafe : s.loop.state = .safe
  · rw [enterSafe_again _ _ _ hsafe] at hlinks hsetting ⊢
    exact ⟨hsetting, hlinks, hsafe, fun h => absurd hsafe h⟩
  · have hentered := enterSafe_entered (cause := cause) (frame := frame) hsafe
    have hloop := hentered.loop
    exact ⟨hsetting, hlinks, congrArg Loop.state hloop, fun _ => ⟨congrArg Loop.safeEntries hloop, hentered.raised,
      congrArg Loop.lastTransition hloop⟩⟩

/-- What comes before the entry is no entry to SAFE. -/
theorem MadeSafe.after (h : MadeSafe cause frame u t) (setting : sameSetting s u) (links : LinksKept s u)
    (before : s.loop.state ≠ .safe → u.loop.state ≠ .safe ∧ u.loop.safeEntries = s.loop.safeEntries) :
    MadeSafe cause frame s t where
  setting := setting.trans h.setting
  links := links.trans h.links
  state := h.state
  entered hsafe := by
    obtain ⟨hbefore, hentries⟩ := before hsafe
    rw [← hentries]
    exact h.entered hbefore

/-- What comes after the entry leaves the loop but for safe_confirmed. -/
theorem MadeSafe.before (h : MadeSafe cause frame s t) (setting : sameSetting t u) (links : LinksKept t u)
    (after : LoopAside t u) : MadeSafe cause frame s u where
  setting := h.setting.trans setting
  links := h.links.trans links
  state := by rw [after.loop]; exact h.state
  entered hsafe := by
    obtain ⟨hentries, hraised, hlast⟩ := h.entered hsafe
    rw [after.loop]
    exact ⟨hentries, after.port.causes _ hraised, hlast⟩

theorem dropAndSafe_madeSafe {order : SafeOrder} (hsilent : reason.isFailure = false) :
    MadeSafe cause frame s (dropAndSafe order reason cause frame id s) := by
  have hdropped : ∀ v, LoopAside v (dropTransaction reason v) := fun _ => dropTransaction_aside hsilent
  have hsetting : ∀ v, sameSetting v (dropTransaction reason v) := fun v => by simp [sameSetting]
  cases order with
  | dropFirst =>
    refine enterSafe_madeSafe.after (u := settle (dropTransaction reason s)) (by simp [sameSetting])
      (settle_keeps (dropTransaction_keeps .start)) fun hsafe => ?_
    have hloop := (hdropped s).loop
    obtain ⟨hnot, hentries⟩ := settle_notSafe (s := dropTransaction reason s) (by rw [hloop]; exact hsafe)
    exact ⟨hnot, hentries.trans (congrArg Loop.safeEntries hloop :)⟩
  | safeFirst =>
    exact enterSafe_madeSafe.before (hsetting _) (dropTransaction_keeps .start) (hdropped _)

/-- R154: whatever comes between, the loop is SAFE in the end. -/
theorem dropAndSafe_state {order : SafeOrder} {between : State → State} (hsilent : reason.isFailure = false) :
    (dropAndSafe order reason cause frame between s).loop.state = .safe := by
  cases order with
  | dropFirst => exact enterSafe_madeSafe.state
  | safeFirst =>
    change (dropTransaction reason (enterSafe cause frame (between s))).loop.state = .safe
    rw [(dropTransaction_aside hsilent).loop]
    exact enterSafe_madeSafe.state

/-- At rest a drop frees nothing for the arbiter, and the port is told of causes at most. -/
theorem dropAndSafe_portRaised {order : SafeOrder} (hsilent : reason.isFailure = false)
    (hrest : s.loop.state.running = false) : PortRaised s (dropAndSafe order reason cause frame id s) := by
  have hdropped : ∀ v, LoopAside v (dropTransaction reason v) := fun _ => dropTransaction_aside hsilent
  cases order with
  | dropFirst =>
    change PortRaised s (enterSafe cause frame (settle (dropTransaction reason s)))
    rw [settle_rest _ (by rw [(hdropped s).loop]; exact hrest)]
    exact enterSafe_portRaised (hdropped s).port
  | safeFirst => exact (enterSafe_portRaised .start).trans (hdropped _).port

end
end Sys2Proof.Machine

namespace Sys2Proof.Machine

section
set_option Elab.async false
variable {s : State} {env : Envelope} {bytes : List Byte} {bad : List Nat}

/-! #### The frame of a LOOP_OPEN (R186 to R188, R205) -/

theorem beNat_be16 (bytes : List Byte) {n : Nat} (hn : n < 65536) :
    beNat (bytes ++ be16 n) bytes.length 2 = n := by
  simp only [beNat, be16, List.getD_eq_getElem?_getD, Nat.add_zero, Nat.zero_mul, Nat.zero_add,
    List.getElem?_append_right (Nat.le_refl _), List.getElem?_append_right (Nat.le_add_right _ 1), Nat.sub_self,
    Nat.add_sub_cancel_left, List.getElem?_cons_zero, List.getElem?_cons_succ, Option.getD_some, BitVec.toNat_ofNat]
  omega

theorem beNat_append {bs cs : List Byte} {offset width : Nat} (h : offset + width ≤ bs.length) :
    beNat (bs ++ cs) offset width = beNat bs offset width := by
  induction width with
  | zero => rfl
  | succ width ih =>
    rw [beNat, beNat, ih (by omega), List.getD_append _ _ _ _ (by omega)]

/-- R203: a frame closed by its own CRC-16 passes the check. -/
theorem crcHolds_withCrc (bytes : List Byte) : crcHolds (withCrc bytes) = true := by
  have hlength : (withCrc bytes).length = bytes.length + 2 := by simp [withCrc, be16]
  have htake : (withCrc bytes).take bytes.length = bytes := by simp [withCrc]
  have hcrc : beNat (withCrc bytes) bytes.length 2 = (crc16 bytes).toNat := beNat_be16 bytes (crc16 bytes).isLt
  rw [crcHolds, hlength, Nat.add_sub_cancel, htake, hcrc]
  simp

/-- The bytes of an addressed LOOP_OPEN without a frame, up to the CRC. -/
def loopOpenBytes (address : Nat) (env : Envelope) : List Byte :=
  [BitVec.ofNat 8 address, BitVec.ofNat 8 env.master, 0x25#8, env.tag, 0#8, 0#8, 0#8, 0#8, 0#8, 3#8, 0#8, 0#8, 0#8]

theorem requestBytes_loopOpen {address : Nat} (h : env.broadcast = false) :
    requestBytes address (.loopOpen env none) = some (withCrc (loopOpenBytes address env)) := by
  simp [requestBytes, wireOf, requestFrame, h, plainRequest, loopOpenBytes, be8, be16, beOption]

/-- An optional field that is absent fits the payload of a LOOP_OPEN. -/
theorem fitOption_absent (h : env.payloadFits = true) : env.fitOption [0#8, 0#8, 0#8] 3 0 = env := by
  cases env
  cases h
  rfl

/-- A complete frame whose CRC holds is judged by its header. -/
theorem requestFrame_sound (hawake : s.resetLow = false) (hsize : requestLength bytes ≤ Config.maxPayload)
    (hlength : bytes.length = requestHeader + requestLength bytes + 2) (hcrc : crcHolds bytes = true) :
    execRequestFrameComplete bytes bad s =
      checkSound bytes bad { s with port := { s.port with reception := none } } := by
  have htake : bytes.take (requestHeader + requestLength bytes + 2) = bytes := by rw [← hlength, List.take_length]
  rw [execRequestFrameComplete, if_neg (by simp [hawake]), checkFrame]
  simp only [htake]
  rw [if_neg (by omega), if_neg (by simp [hcrc, hlength])]

/-- R187, R188: the frame of a LOOP_OPEN for this part runs that request. -/
theorem loopOpenFrame_runs (hmaster : env.wellFormed = true) (h : arrives env s) (haddress : s.port.address < 31)
    (hbytes : requestBytes s.port.address (.loopOpen env none) = some bytes) :
    execRequestFrameComplete bytes bad s =
      execLoopOpen env none { s with port := { s.port with reception := none } } := by
  obtain ⟨⟨hawake, hne, hbroadcast, -⟩, hfits⟩ := h
  rw [requestBytes_loopOpen hbroadcast] at hbytes
  obtain rfl := Option.some.inj hbytes
  generalize hframe : withCrc (loopOpenBytes s.port.address env) = frame
  have hfield : ∀ {offset width}, offset + width ≤ 13 →
      beNat frame offset width = beNat (loopOpenBytes s.port.address env) offset width := fun h =>
    hframe ▸ beNat_append h
  have hmasterByte : beNat frame 1 1 % 8 = env.master := by
    have hle : env.master ≤ 7 := by simp [Envelope.wellFormed] at hmaster; omega
    rw [hfield (by omega)]
    simp [beNat, loopOpenBytes]
    omega
  have haddressByte : beNat frame 0 1 = s.port.address := by
    rw [hfield (by omega)]
    simp [beNat, loopOpenBytes]
    omega
  have hsize : requestLength frame = 3 := by
    rw [requestLength, hfield (by omega)]
    simp [beNat, loopOpenBytes]
  have hcode : beNat frame 2 1 = 0x25 := by
    rw [hfield (by omega)]
    simp [beNat, loopOpenBytes]
  have htag : frame.getD 3 0#8 = env.tag := by rw [← hframe]; rfl
  have hlength : frame.length = 15 := by simp [← hframe, withCrc, loopOpenBytes, be16]
  have hpayload : (frame.drop requestHeader).take 3 = [0#8, 0#8, 0#8] := by rw [← hframe]; rfl
  have henvelope : frameEnvelope frame = env := by
    have hother : ¬ s.port.address = Config.broadcastAddress := Nat.ne_of_lt haddress
    rw [frameEnvelope, hmasterByte, haddressByte, htag, decide_eq_false hother, ← hbroadcast, ← hfits]
  have hrequest : frameRequest frame bad = some (.loopOpen env none) := by
    rw [frameRequest, hcode, henvelope, hsize, hpayload]
    exact congrArg (fun e => some (Instr.loopOpen e none)) (fitOption_absent hfits)
  rw [requestFrame_sound hawake (by rw [hsize]; decide) (by rw [hsize, hlength]; rfl)
    (hframe ▸ crcHolds_withCrc _), checkSound, if_neg (by rw [hmasterByte]; exact hne),
    if_pos (.inr haddressByte), takeSound, hrequest]
  rfl

end
end Sys2Proof.Machine

namespace Sys2Proof.Machine

section
set_option Elab.async false
variable {s t : State} {l : Nat} {env : Envelope} {frame : Option Frame} {order : SafeOrder}
  {between : State → State}

/-! #### The link that is FAULTED (R132, R138) -/

/-- R132: the window has expired on link l. -/
def stuckLink (l : Nat) (s : State) : State :=
  s.modifyDriveLink l fun r =>
    { r with state := .faulted, status := .lineStuck, lineStuck := r.lineStuck + 1, timer := none }

theorem stickLink_recovering (h : (s.driveLink l).state = .recovering) : stickLink l order between s =
    dropAndSafe order .lineStuck .lineStuck (s.driveLink l).causeFrame between (stuckLink l s) := if_pos h

theorem stuckLink_driveLink : (stuckLink l s).driveLink l = { s.driveLink l with
    state := .faulted, status := .lineStuck, lineStuck := (s.driveLink l).lineStuck + 1, timer := none } :=
  (State.driveLink_modifyDriveLink ..).trans (if_pos rfl)

theorem faultLink_driveLink : (faultLink l s).driveLink l = { s.driveLink l with
    state := .faulted, status := .faultReport, faultReports := (s.driveLink l).faultReports + 1, timer := none } := by
  simp [faultLink]

/-- R138: what a report does before the entry to SAFE, once its link is FAULTED. -/
structure FaultTaken (s t : State) : Prop where
  setting : sameSetting s t
  links : LinksKept s t
  aside : LoopAside s t

theorem FaultTaken.start : FaultTaken s s := ⟨by simp [sameSetting], .start, .start⟩

theorem leaveTransaction_taken (l : Nat) (s : State) : FaultTaken s (leaveTransaction l s) where
  setting := by simp [sameSetting, leaveTransaction]
  links := LinksKept.start.step rfl (fun _ => rfl) fun m => .inl (by
    rw [leaveTransaction, State.driveLink_modifyDriveLink]
    split
    · next h => exact ⟨none, by rw [h]⟩
    · exact ⟨_, rfl⟩)
  aside := LoopAside.start.of_frame rfl rfl

theorem FaultTaken.checkEnd (h : FaultTaken s t) : FaultTaken s (checkEnd t) where
  setting := h.setting.trans (by simp [sameSetting])
  links := checkEnd_keeps h.links
  aside := checkEnd_aside h.aside

/-- R138: a report leads to the entry to SAFE, at rest in a transaction before its pulse together with the drop. -/
theorem afterFault_cases : ∃ v, FaultTaken s v ∧
    (afterFault l order frame between s = enterSafe .faultReport frame (between v) ∨
      (v.loop.state.running = false ∧ afterFault l order frame between s =
        dropAndSafe order .faultReport .faultReport frame between v)) := by
  have hleft := leaveTransaction_taken l s
  unfold afterFault
  dsimp only
  split
  · exact ⟨s, .start, .inl rfl⟩
  next tx p _ =>
  split
  · have hwithdrawn : FaultTaken s (withdrawApplied l tx s) :=
      ⟨by simp [sameSetting, withdrawApplied], LinksKept.start.of_frame rfl rfl rfl, LoopAside.start.of_frame rfl rfl⟩
    exact ⟨_, hwithdrawn.checkEnd, .inl rfl⟩
  split
  · exact ⟨_, hleft.checkEnd, .inl rfl⟩
  split
  · exact ⟨_, hleft, .inl rfl⟩
  · next hrest => exact ⟨_, hleft, .inr ⟨by simpa [leaveTransaction] using hrest, rfl⟩⟩

theorem takeFault_state : (takeFault l order between s).loop.state = .safe := by
  obtain ⟨v, -, hsafe | ⟨-, hsafe⟩⟩ := afterFault_cases (l := l) (order := order) (between := between)
    (frame := (s.driveLink l).causeFrame) (s := faultLink l s)
  · exact (congrArg (fun u : State => u.loop.state) hsafe).trans enterSafe_madeSafe.state
  · exact (congrArg (fun u : State => u.loop.state) hsafe).trans (dropAndSafe_state rfl)

/-- R138, R154: with nothing between, a report makes the loop SAFE, and DRIVE_FAULT stays raised. -/
theorem takeFault_madeSafe : MadeSafe .faultReport (s.driveLink l).causeFrame (faultLink l s)
    (takeFault l order id s) ∧ PortRaised (faultLink l s) (takeFault l order id s) := by
  obtain ⟨v, htaken, hafter⟩ := afterFault_cases (l := l) (order := order) (between := id)
    (frame := (s.driveLink l).causeFrame) (s := faultLink l s)
  have hbefore : (faultLink l s).loop.state ≠ .safe → v.loop.state ≠ .safe ∧
      v.loop.safeEntries = (faultLink l s).loop.safeEntries := fun hsafe => by
    rw [htaken.aside.loop]
    exact ⟨hsafe, rfl⟩
  unfold takeFault
  obtain hsafe | ⟨hrest, hsafe⟩ := hafter
  · rw [hsafe]
    exact ⟨enterSafe_madeSafe.after htaken.setting htaken.links hbefore, enterSafe_portRaised htaken.aside.port⟩
  · rw [hsafe]
    exact ⟨(dropAndSafe_madeSafe rfl).after htaken.setting htaken.links hbefore,
      htaken.aside.port.trans (dropAndSafe_portRaised rfl hrest)⟩

/-! #### A LOOP_OPEN that comes between (R150, R154) -/

theorem faultedLink_isSome (hl : s.hasDriveLink l = true) (hfaulted : (s.driveLink l).state = .faulted) :
    ∃ m, faultedLink s = some m := by
  refine Option.isSome_iff_exists.mp (List.find?_isSome.mpr ⟨l, ?_, by simpa using hfaulted⟩)
  simpa [State.driveLinkList, State.hasDriveLink] using hl

/-- R150: in HOLD a FAULTED link stands against LOOP_OPEN. -/
theorem loopOpenBody_faulted (hfits : env.payloadFits = true) (hhold : s.loop.state = .hold)
    (hl : s.hasDriveLink l = true) (hfaulted : (s.driveLink l).state = .faulted) :
    loopOpenBody env none s = .refused .wrongState 0 .linkFaulted none none s := by
  obtain ⟨m, hm⟩ := faultedLink_isSome hl hfaulted
  rw [loopOpenBody, whenFits_true _ _ _ hfits]
  simp only [openNow, hhold, leaveHold, hm]
  rfl

/-- The refusal of a LOOP_OPEN for the FAULTED link, with no reception in progress. -/
def openRefused (env : Envelope) (s : State) : State :=
  refusedReply env 0x25 .wrongState 0 .linkFaulted none none { s with port := { s.port with reception := none } }

theorem takeBetween_loopOpen {f : BusFrame} (hmaster : env.wellFormed = true) (h : arrives env s)
    (haddress : s.port.address < 31) (hbytes : requestBytes s.port.address (.loopOpen env none) = some f.bytes)
    (hhold : s.loop.state = .hold) (hl : s.hasDriveLink l = true) (hfaulted : (s.driveLink l).state = .faulted) :
    takeBetween (some f) s = openRefused env s := by
  have hruns : execRequestFrameComplete f.bytes f.uncorrectable s = .next (openRefused env s) :=
    (loopOpenFrame_runs hmaster h haddress hbytes).trans
      (request_refused (s := { s with port := { s.port with reception := none } }) h.1
        (loopOpenBody_faulted (s := takeFrame env { s with port := { s.port with reception := none } }) h.2 hhold hl
          hfaulted))
  simp only [takeBetween, hruns]

theorem replyWith_entry (env : Envelope) (status : Status) (clamped : Bool) (payload : List Byte) (s : State)
    (m : Nat) : (replyWith env status clamped payload s).port.entry m = s.port.entry m := by
  unfold replyWith
  split <;> rfl

/-- R191: the fault-detail entry of a refusal is the master's. -/
theorem enterFault_entry (env : Envelope) (code : Nat) (status : Status) (position : Nat) (detail : Detail)
    (value : Option Int) (owner : Option Nat) (s : State) :
    (enterFault env code status position detail value owner s).port.entry env.master =
      some ⟨code, status, env.tag, position, detail, value, owner⟩ :=
  (Port.entry_setEntry ..).trans (if_pos rfl)

/-- R189, R191: the refusal is in the reply and in the fault-detail entry of the master. -/
theorem openRefused_port (hbroadcast : env.broadcast = false) (s : State) :
    (∃ r, (openRefused env s).port.reply = some r ∧ r.status = .wrongState ∧ r.tag = env.tag ∧
      r.master = env.master) ∧
    ∃ e, (openRefused env s).port.entry env.master = some e ∧ e.status = .wrongState ∧ e.detail = .linkFaulted :=
  ⟨replyWith_reply hbroadcast, _, (replyWith_entry ..).trans (enterFault_entry ..), rfl, rfl⟩

theorem openRefused_loop (s : State) : (openRefused env s).loop = s.loop := by
  simp [openRefused, refusedReply, enterFault]

theorem openRefused_driveLink (s : State) (m : Nat) : (openRefused env s).driveLink m = s.driveLink m := by
  simp [openRefused, refusedReply, enterFault, State.driveLink]

theorem PortRaised.reply (h : PortRaised s t) : t.port.reply = s.port.reply := by rw [h.kept]

theorem PortRaised.entry (h : PortRaised s t) (m : Nat) : t.port.entry m = s.port.entry m := by
  rw [h.kept]
  rfl

/-- Settles O36: the drop and the entry leave the FAULTED link, and a LOOP_OPEN between finds it so. -/
theorem faultedLinkMakesLoopSafe : Obligations.FaultedLinkMakesLoopSafe := by
  intro s l entry hawake hl safe
  have hexec : ∀ {f : State → State}, awake s (onDriveLink l f) = .next (f s) := awake_onDriveLink hawake hl
  refine ⟨fun hstate => ?_, fun hstate => ?_, fun code channel => ?_⟩
  · refine ⟨_, hexec.trans (congrArg _ (stickLink_recovering hstate)), dropAndSafe_state rfl, fun hnone => ?_⟩
    rw [hnone, takeBetween_none]
    have hsafe : MadeSafe .lineStuck (s.driveLink l).causeFrame (stuckLink l s) _ :=
      dropAndSafe_madeSafe (order := entry.order) (reason := .lineStuck) rfl
    obtain ⟨o, hlink⟩ := hsafe.links.faulted l (by rw [stuckLink_driveLink])
    rw [stuckLink_driveLink] at hlink
    have hsetting : sameSetting s (stuckLink l s) := by simp [sameSetting, stuckLink]
    exact ⟨hsetting.trans hsafe.setting, congrArg DriveLink.state hlink, congrArg DriveLink.status hlink,
      congrArg DriveLink.lineStuck hlink, congrArg DriveLink.timer hlink, hsafe.state, hsafe.entered⟩
  · exact hexec.trans (congrArg _ (if_neg hstate))
  · refine ⟨_, hexec, takeFault_state, fun hnone => ?_,
      fun env f hf hmaster harrives haddress hbytes hhold hcurrent => ?_⟩
    · rw [hnone, takeBetween_none]
      obtain ⟨hsafe, hport⟩ := takeFault_madeSafe (s := s) (l := l) (order := entry.order)
      obtain ⟨o, hlink⟩ := hsafe.links.faulted l (by rw [faultLink_driveLink])
      rw [faultLink_driveLink] at hlink
      have hsetting : sameSetting s (faultLink l s) := by simp [sameSetting, faultLink]
      exact ⟨hsetting.trans hsafe.setting, congrArg DriveLink.state hlink, congrArg DriveLink.status hlink,
        congrArg DriveLink.faultReports hlink, congrArg DriveLink.timer hlink,
        hport.causes _ (raise_hasCause ..), hsafe.state, hsafe.entered⟩
    · have hpart : txPart (faultLink l s) l = none := by
        have hcurrent' : (faultLink l s).drive.current = none := hcurrent
        rw [txPart, hcurrent']
      have hfaulted : ((faultLink l s).driveLink l).state = .faulted := by rw [faultLink_driveLink]
      have hbetween : takeFault l entry.order (takeBetween entry.between) s =
          enterSafe .faultReport (s.driveLink l).causeFrame (openRefused env (faultLink l s)) := by
        rw [hf, takeFault, afterFault, ← takeBetween_loopOpen (s := faultLink l s) hmaster harrives haddress hbytes
          hhold hl hfaulted]
        simp only [hpart]
      rw [hbetween]
      have hsafe : MadeSafe .faultReport (s.driveLink l).causeFrame (openRefused env (faultLink l s)) _ :=
        enterSafe_madeSafe
      have hport := enterSafe_portRaised (cause := .faultReport) (frame := (s.driveLink l).causeFrame)
        (PortRaised.start (s := openRefused env (faultLink l s)))
      have hloop : (openRefused env (faultLink l s)).loop = s.loop := openRefused_loop _
      have hentered := hsafe.entered
      rw [hloop] at hentered
      obtain ⟨hentries, -, hlast⟩ := hentered (by rw [hhold]; exact nofun)
      obtain ⟨o, hlink⟩ := hsafe.links.faulted l (by rw [openRefused_driveLink]; exact hfaulted)
      rw [openRefused_driveLink] at hlink
      obtain ⟨-, -, hbroadcast, -⟩ := harrives.1
      obtain ⟨⟨r, hr, hstatus, htag, hto⟩, e, he, hentry⟩ := openRefused_port hbroadcast (faultLink l s)
      exact ⟨⟨r, e, hport.reply.trans hr, hstatus, hto, htag, (hport.entry _).trans he, hentry⟩,
        (congrArg DriveLink.state hlink).trans hfaulted, hentries, hlast⟩

end
end Sys2Proof.Machine

namespace Sys2Proof.Machine

section
set_option Elab.async false
variable {s t : State} {l : Nat} {tx : Transaction} {bad : List Nat} {between : State → State} {order : SafeOrder}

/-! ### Every step keeps IDLE and DISABLED links as the table gives them (O33) -/

theorem State.linksSettled.of_frame (h : s.linksSettled) (variant : t.variant = s.variant := by simp)
    (table : t.table = s.table := by simp) (links : t.drive.links = s.drive.links := by simp) : t.linksSettled :=
  (LinksKept.start.of_frame variant table links).settled h

/-- A link keeps its state, takes that of rest, or leaves IDLE and DISABLED. -/
theorem setDriveLink_settled (h : s.linksSettled) {r : DriveLink} (hr : r.state = (s.driveLink l).state ∨
    r.state = s.restState l ∨ (r.state ≠ .idle ∧ r.state ≠ .disabled)) : (s.setDriveLink l r).linksSettled := by
  refine h.of_links rfl (fun _ => rfl) fun m => ?_
  rw [State.driveLink_setDriveLink]
  split
  · next hm => exact hm ▸ hr
  · exact .inl rfl

theorem modifyDriveLink_settled (h : s.linksSettled) {f : DriveLink → DriveLink}
    (hf : (f (s.driveLink l)).state = (s.driveLink l).state ∨ (f (s.driveLink l)).state = s.restState l ∨
      ((f (s.driveLink l)).state ≠ .idle ∧ (f (s.driveLink l)).state ≠ .disabled)) :
    (s.modifyDriveLink l f).linksSettled := setDriveLink_settled h hf

theorem raise_settled {c : Cause} (h : s.linksSettled) : (raise c s).linksSettled := h.of_frame

/-! #### The events of the drive links -/

theorem checkEnd_settled (h : s.linksSettled) : (checkEnd s).linksSettled := (checkEnd_keeps .start).settled h

theorem settle_settled (h : s.linksSettled) : (settle s).linksSettled := (settle_keeps .start).settled h

theorem dropTransaction_settled {reason : DropReason} (h : s.linksSettled) : (dropTransaction reason s).linksSettled :=
  (dropTransaction_keeps .start).settled h

theorem enterSafe_settled {cause : LoopCause} {f : Option Frame} (h : s.linksSettled) :
    (enterSafe cause f s).linksSettled := (enterSafe_keeps .start).settled h

theorem dropAndSafe_settled {reason : DropReason} {cause : LoopCause} {f : Option Frame} (h : s.linksSettled)
    (hb : ∀ u : State, u.linksSettled → (between u).linksSettled) :
    (dropAndSafe order reason cause f between s).linksSettled := by
  cases order with
  | dropFirst => exact enterSafe_settled (hb _ (settle_settled (dropTransaction_settled h)))
  | safeFirst => exact dropTransaction_settled (enterSafe_settled (hb _ h))

theorem beginTransaction_settled {r : TxRequest} {idle : Nat → Bool} (h : s.linksSettled) :
    (beginTransaction r idle s).linksSettled := by
  have htaken : (requestTaken r s).linksSettled := h.of_frame rfl rfl rfl
  rw [beginTransaction_eq]
  refine checkEnd_settled (List.foldlRecOn _ _ htaken fun u hu p _ => ?_)
  refine hu.of_links (by simp) (fun m => by simp [State.restState]) fun m => ?_
  rw [startLink_driveLink]
  split
  · have hstarted := p.started_inTransaction (tx := beginning r s) (idle := idle) (u.driveLink m)
    exact .inr (.inr ⟨fun heq => by simp [heq, DriveState.inTransaction] at hstarted,
      fun heq => by simp [heq, DriveState.inTransaction] at hstarted⟩)
  · exact .inl rfl

theorem recoverLink_settled (h : s.linksSettled) : (recoverLink l s).linksSettled := by
  unfold recoverLink
  split
  · exact modifyDriveLink_settled (modifyDriveLink_settled h (.inl rfl)) (.inr (.inr ⟨nofun, nofun⟩))
  · exact h

theorem stickLink_settled (h : s.linksSettled) (hb : ∀ u : State, u.linksSettled → (between u).linksSettled) :
    (stickLink l order between s).linksSettled := by
  unfold stickLink
  split
  · exact dropAndSafe_settled (setDriveLink_settled h (.inr (.inr ⟨nofun, nofun⟩))) hb
  · exact h

/-- R136: the links of the transaction are APPLYING, and the commit keeps the fields of the table. -/
theorem updatePulse_settled (h : s.linksSettled) : (updatePulse tx bad s).linksSettled := by
  unfold updatePulse
  extract_lets d1 s1 s2 s3
  have h2 : s2.linksSettled := List.foldlRecOn _ _ (h.of_frame rfl rfl rfl) fun _ hu _ _ =>
    setDriveLink_settled hu (.inr (.inr ⟨nofun, nofun⟩))
  have h3 : s3.linksSettled := by
    simp only [s3]
    split
    · exact (commitFrame_keeps .start).settled h2
    · unfold pulseBias
      split
      · exact h2
      · exact (LinksKept.start.withTable (ActTable.biasOutputs_sameFields _ _ _)).settled h2
  exact h3.of_frame rfl rfl rfl

theorem pulseIfLoaded_settled (h : s.linksSettled) : (pulseIfLoaded bad s).linksSettled := by
  unfold pulseIfLoaded
  split
  · exact h
  split
  · exact updatePulse_settled h
  · exact h

theorem takeTaken_settled {number : Byte} (h : s.linksSettled) : (takeTaken l number bad s).linksSettled := by
  unfold takeTaken
  extract_lets r late s1
  have h1 : s1.linksSettled := by
    refine setDriveLink_settled h ?_
    dsimp only
    split
    · exact .inr (.inl rfl)
    · exact .inr (.inr ⟨nofun, nofun⟩)
  split
  · refine settle_settled ?_
    split
    · exact checkEnd_settled h1
    · exact pulseIfLoaded_settled h1
  · exact setDriveLink_settled h (.inl rfl)

theorem DriveLink.refuse_state (r : DriveLink) (rest : DriveState) (reason : RefuseReason) :
    (r.refuse rest reason).state = rest := by cases reason <;> rfl

theorem takeRefused_settled {number : Byte} {reason : RefuseReason} (h : s.linksSettled)
    (hb : ∀ u : State, u.linksSettled → (between u).linksSettled) :
    (takeRefused l number reason order between s).linksSettled := by
  unfold takeRefused
  extract_lets r s1
  have h1 : s1.linksSettled := setDriveLink_settled h (.inr (.inl (r.refuse_state _ _)))
  split
  · split
    · cases reason with
      | crc | length => exact checkEnd_settled h1
      | channelFault => exact enterSafe_settled (hb _ (checkEnd_settled h1))
    · cases reason with
      | crc | length => exact settle_settled (dropTransaction_settled h1)
      | channelFault => exact dropAndSafe_settled h1 hb
  · exact setDriveLink_settled h (.inl rfl)

theorem expireReply_settled (h : s.linksSettled) : (expireReply l s).linksSettled := by
  unfold expireReply
  dsimp only
  split
  · split
    · exact checkEnd_settled (setDriveLink_settled h (.inr (.inl rfl)))
    · exact settle_settled (dropTransaction_settled (setDriveLink_settled h (.inr (.inl rfl))))
  · exact h

theorem takeApplied_settled {number : Byte} (h : s.linksSettled) : (takeApplied l number s).linksSettled := by
  unfold takeApplied
  split
  · refine checkEnd_settled ?_
    have hrest := setDriveLink_settled (l := l) (r := { s.driveLink l with
      state := s.restState l, timer := none, status := .applied, applied := (s.driveLink l).applied + 1 }) h
      (.inr (.inl rfl))
    unfold noteApplied
    split
    · exact hrest
    · exact State.linksSettled.of_frame hrest rfl rfl rfl
  · exact setDriveLink_settled h (.inl rfl)

theorem reportApplyTimeout_settled (h : s.linksSettled) : (reportApplyTimeout s).linksSettled := by
  unfold reportApplyTimeout
  split
  · exact h
  split
  · exact h.of_frame
  · exact h

theorem expireApply_settled (h : s.linksSettled) : (expireApply l s).linksSettled := by
  unfold expireApply
  split
  · exact checkEnd_settled (reportApplyTimeout_settled (raise_settled (modifyDriveLink_settled h (.inr (.inl rfl)))))
  · exact h

theorem takeFault_settled (h : s.linksSettled) (hb : ∀ u : State, u.linksSettled → (between u).linksSettled) :
    (takeFault l order between s).linksSettled := by
  have hfault : (faultLink l s).linksSettled :=
    raise_settled (modifyDriveLink_settled h (.inr (.inr ⟨nofun, nofun⟩)))
  obtain ⟨v, htaken, hsafe | ⟨-, hsafe⟩⟩ := afterFault_cases (l := l) (order := order) (between := between)
    (frame := (s.driveLink l).causeFrame) (s := faultLink l s)
  · rw [takeFault, hsafe]
    exact enterSafe_settled (hb _ (htaken.links.settled hfault))
  · rw [takeFault, hsafe]
    exact dropAndSafe_settled (htaken.links.settled hfault) hb

/-- R119, R120: a stroke drop ends the stage's work, and a hand-over is a request to the links. -/
theorem checkShape_settled {w : StageFrame} (h : s.linksSettled) : (checkShape w s).linksSettled := by
  unfold checkShape
  dsimp only
  split
  · exact h.of_frame (by simp [handOver]) (by simp [handOver]) (by simp [handOver])
  · exact settle_settled ((endStage_keeps LinksKept.start.of_frame).settled h)

end
end Sys2Proof.Machine

namespace Sys2Proof.Machine

section
set_option Elab.async false
variable {s t : State} {env : Envelope}

/-! #### Requests -/

theorem conclude_settled {code : Nat} {v : Verdict} (h : v.after.linksSettled) :
    (conclude env code v).linksSettled := by
  have hreply : ∀ {u : State} {status clamped payload}, u.linksSettled →
      (replyWith env status clamped payload u).linksSettled := fun hu => hu.of_frame
  cases v with
  | ok payload clamped u => exact hreply h
  | accepted u => exact hreply h
  | refused status position detail value owner u =>
    have hentered : (enterFault env code status position detail value owner u).linksSettled :=
      State.linksSettled.of_frame (s := u) h
    have hreported : ∀ {w : State}, w.linksSettled → (reportRefusal env code status w).linksSettled := fun hw =>
      hw.of_frame
    exact hreply (hreported hentered)

theorem takeFrame_settled (h : s.linksSettled) : (takeFrame env s).linksSettled := h.of_frame

theorem takeRequest_settled {code : Nat} {body : State → Verdict} (h : s.linksSettled)
    (hbody : ∀ u : State, u.linksSettled → (body u).after.linksSettled) :
    (takeRequest env code body s).linksSettled := by
  have htaken : (takeFrame env s).linksSettled := takeFrame_settled h
  unfold takeRequest
  split
  · exact h.of_frame
  split
  · exact h
  refine conclude_settled ?_
  unfold verdictOf
  split
  · exact htaken
  · exact hbody _ htaken

theorem whenFits_settled {body : Verdict} (h : s.linksSettled) (hbody : body.after.linksSettled) :
    (whenFits env s body).after.linksSettled := by
  unfold whenFits
  split
  · exact hbody
  · exact h

theorem done_settled (h : t.linksSettled) : (Verdict.done t).after.linksSettled := h

/-- R99, R130: an edit is held, or applied with the links settled by the table that it makes. -/
theorem takeEdit_settled {e : Edit} (h : s.linksSettled) : (takeEdit e s).after.linksSettled := by
  unfold takeEdit
  split
  · split
    · exact h
    · exact h.of_frame rfl rfl rfl
  · exact settleLinks_linksSettled _

theorem actCountBody_settled {n : Nat} (h : s.linksSettled) : (actCountBody env n s).after.linksSettled := by
  refine whenFits_settled h ?_
  iterate 5
    split
    · exact h
  · exact settleLinks_linksSettled _

theorem actWriteBody_settled {first : Nat} {records : List ActFields} (h : s.linksSettled) :
    (actWriteBody env first records s).after.linksSettled := by
  refine whenFits_settled h ?_
  iterate 4
    split
    · exact h
  · exact takeEdit_settled h

theorem actModeBody_settled {a mode : Nat} {value : Option Nat} (h : s.linksSettled) :
    (actModeBody env a mode value s).after.linksSettled := by
  refine whenFits_settled h ?_
  split
  · exact h
  split
  · exact h
  · exact h
  · dsimp only
    split
    · exact h
    · exact takeEdit_settled h
  · exact h
  · exact takeEdit_settled h

theorem pairWriteBody_settled {a b dmax : Nat} (h : s.linksSettled) :
    (pairWriteBody env a b dmax s).after.linksSettled := by
  refine whenFits_settled h ?_
  dsimp only
  iterate 8
    split
    · exact h
  · exact takeEdit_settled h

theorem pairRemoveBody_settled {a b : Nat} (h : s.linksSettled) : (pairRemoveBody env a b s).after.linksSettled := by
  refine whenFits_settled h ?_
  iterate 3
    split
    · exact h
  · exact takeEdit_settled h

/-- R15, R142: clearing the counters of a link leaves its state. -/
theorem linkCountersClearBody_settled {kind l : Nat} (h : s.linksSettled) :
    (linkCountersClearBody env kind l s).after.linksSettled := by
  refine whenFits_settled h ?_
  split
  · exact h
  · split
    · exact h.of_frame
    · exact h
  · split
    · exact done_settled (modifyDriveLink_settled h (.inl rfl))
    · exact h

/-- R143: a link that is reset takes the state that the table gives it. -/
theorem linkResetBody_settled {l : Nat} (h : s.linksSettled) : (linkResetBody env l s).after.linksSettled := by
  refine whenFits_settled h ?_
  iterate 2
    split
    · exact h
  · exact done_settled (modifyDriveLink_settled h (.inr (.inl rfl)))

theorem linkConfigBody_settled {l m park reply apply window : Nat} (h : s.linksSettled) :
    (linkConfigBody env l m park reply apply window s).after.linksSettled := by
  refine whenFits_settled h ?_
  iterate 5
    split
    · exact h
  · exact done_settled (modifyDriveLink_settled h (.inl rfl))

theorem flattenBody_settled (h : s.linksSettled) : (flattenBody env s).after.linksSettled := by
  refine whenFits_settled h ?_
  iterate 2
    split
    · exact h
  · exact (beginBiasSend_keeps .start).settled h

theorem loopStopBody_settled (h : s.linksSettled) : (loopStopBody env s).after.linksSettled := by
  refine whenFits_settled h ?_
  split
  · exact h
  · have hstopped : (enterStopped s).linksSettled := by
      unfold enterStopped
      exact (enterRest_keeps .start).settled h
    exact done_settled hstopped

theorem leaveHold_settled {target : Target} {cause : LoopCause} (h : s.linksSettled) :
    (leaveHold target cause s).after.linksSettled := by
  unfold leaveHold
  split
  · exact h
  · exact h.of_frame

theorem enterTracking_settled {target : Target} {cause : LoopCause} {f : Option Frame} (h : s.linksSettled) :
    (Verdict.done (enterTracking target cause f s)).after.linksSettled := h.of_frame

theorem openFromStopped_settled (h : s.linksSettled) : (openFromStopped s).after.linksSettled := by
  unfold openFromStopped
  iterate 6
    split
    · exact h
  · exact enterTracking_settled h

theorem openNow_settled (h : s.linksSettled) : (openNow s).after.linksSettled := by
  unfold openNow
  split
  · exact openFromStopped_settled h
  · exact h
  · exact enterTracking_settled h
  · exact leaveHold_settled h
  · exact h

theorem closeNow_settled (h : s.linksSettled) : (closeNow s).after.linksSettled := by
  unfold closeNow
  split
  · exact h
  · exact enterTracking_settled h
  · exact h
  · exact leaveHold_settled h
  · exact h

theorem schedule_settled {target : Target} {f : Frame} (h : s.linksSettled) :
    (schedule env target f s).after.linksSettled := by
  unfold schedule
  repeat' split
  all_goals exact h.of_frame

theorem resetSoftBody_settled (h : s.linksSettled) : (resetSoftBody env s).after.linksSettled := by
  refine whenFits_settled h ?_
  split
  · exact softReset_linksSettled s
  · exact h.of_frame

theorem whenLoading_settled {act : Nat → Nat → Verdict} (h : s.linksSettled)
    (hact : ∀ b owner, (act b owner).after.linksSettled) : (whenLoading env s act).after.linksSettled := by
  unfold whenLoading
  split
  · exact h
  · split
    · exact hact _ _
    · exact h
  · split
    · exact h
    · exact h

theorem loadOpenTest_settled {b rows columns shift block master : Nat} (h : s.linksSettled) :
    (loadOpenTest b rows columns shift block master s).after.linksSettled := by
  unfold loadOpenTest
  repeat' split
  all_goals exact h.of_frame

theorem blockReopenBody_settled {bank block : Nat} (h : s.linksSettled) :
    (blockReopenBody env bank block s).after.linksSettled := by
  refine whenFits_settled h ?_
  split
  · exact h
  dsimp only
  repeat' split
  all_goals exact h.of_frame

theorem refWriteBody_settled {n first count : Nat} {offsets : List Int} (h : s.linksSettled) :
    (refWriteBody env n first count offsets s).after.linksSettled := by
  unfold refWriteBody
  iterate 5
    split
    · exact h
  · exact h.of_frame

/-! #### Every command -/

/-- An outcome whose next state has settled links. -/
def leadsSettled (o : Host.Outcome State Fault Refusal) : Prop := ∀ t, o = .next t → t.linksSettled

theorem next_leadsSettled (h : s.linksSettled) : leadsSettled (.next s) := by
  rintro t ⟨⟩
  exact h

theorem awake_leadsSettled {f : State → State} (h : s.linksSettled) (hf : (f s).linksSettled) :
    leadsSettled (awake s f) := by
  refine next_leadsSettled ?_
  split
  · exact h
  · exact hf

theorem request_leadsSettled {code : Nat} {body : State → Verdict} (h : s.linksSettled)
    (hbody : ∀ u : State, u.linksSettled → (body u).after.linksSettled) : leadsSettled (request env code body s) :=
  awake_leadsSettled h (takeRequest_settled h hbody)

/-- Every request keeps the links settled; an event is no request. Most requests change neither the table nor the
links. -/
theorem runRequest_leadsSettled {i : Instr} (h : s.linksSettled) : leadsSettled (runRequest i s) := by
  cases i
  case actCount => exact request_leadsSettled h fun _ hu => actCountBody_settled hu
  case actWrite => exact request_leadsSettled h fun _ hu => actWriteBody_settled hu
  case actMode => exact request_leadsSettled h fun _ hu => actModeBody_settled hu
  case pairWrite => exact request_leadsSettled h fun _ hu => pairWriteBody_settled hu
  case pairRemove => exact request_leadsSettled h fun _ hu => pairRemoveBody_settled hu
  case linkReset => exact request_leadsSettled h fun _ hu => linkResetBody_settled hu
  case linkConfig => exact request_leadsSettled h fun _ hu => linkConfigBody_settled hu
  case flatten => exact request_leadsSettled h fun _ hu => flattenBody_settled hu
  case loopStop => exact request_leadsSettled h fun _ hu => loopStopBody_settled hu
  case loopSafe => exact request_leadsSettled h fun _ hu => whenFits_settled hu (enterSafe_settled hu)
  case resetSoft => exact request_leadsSettled h fun _ hu => resetSoftBody_settled hu
  case loopOpen atFrame =>
    refine request_leadsSettled h fun _ hu => whenFits_settled hu ?_
    cases atFrame with
    | none => exact openNow_settled hu
    | some f => exact schedule_settled hu
  case loopClose atFrame =>
    refine request_leadsSettled h fun _ hu => whenFits_settled hu ?_
    cases atFrame with
    | none => exact closeNow_settled hu
    | some f => exact schedule_settled hu
  case refWrite => exact request_leadsSettled h fun _ hu => refWriteBody_settled hu
  case loadOpen =>
    refine request_leadsSettled h fun _ hu => whenFits_settled hu ?_
    iterate 8
      split
      · exact hu
    · exact loadOpenTest_settled hu
  case loadSegment =>
    refine request_leadsSettled h fun _ hu => whenFits_settled hu ?_
    iterate 2
      split
      · exact hu
    refine whenLoading_settled hu fun _ _ => ?_
    repeat' split
    all_goals exact hu.of_frame
  case loadFlush =>
    exact request_leadsSettled h fun _ hu => whenFits_settled hu (whenLoading_settled hu fun _ _ => hu.of_frame)
  case loadClose =>
    refine request_leadsSettled h fun _ hu => whenFits_settled hu (whenLoading_settled hu fun _ _ => ?_)
    dsimp only
    split
    all_goals exact hu.of_frame
  case blockReopen => exact request_leadsSettled h fun _ hu => blockReopenBody_settled hu
  case mapRead | slotStatus | engineStatus | gainRead | stageStatus | loopStatus | scanStatus | telemStatus |
      ident | portStatus | faultDetail | attnRead =>
    exact request_leadsSettled h fun _ hu => whenFits_settled hu hu
  case swapCancel | scanStop | telemReset | loopConfig =>
    exact request_leadsSettled h fun _ hu => whenFits_settled hu hu.of_frame
  case linkCountersClear => exact request_leadsSettled h fun _ hu => linkCountersClearBody_settled hu
  case sensorScale | mapWrite | loadAbort | bankClear | swap | scanStart | telemPop |
      linkStatus | sensorRole | sensorTag | sensorCount | sensorRead | refRead | storeRead | loadStatus | actRead |
      gainWrite | pairRead | telemSelect | captureRead | featureSet | featureGet | attnMask | attnAck =>
    refine request_leadsSettled h fun _ hu => whenFits_settled hu ?_
    repeat' split
    all_goals exact hu.of_frame
  all_goals exact next_leadsSettled h

theorem requestFrame_leadsSettled {bytes : List Byte} {bad : List Nat} (h : s.linksSettled) :
    leadsSettled (execRequestFrameComplete bytes bad s) := by
  have hport : ∀ p, State.linksSettled { s with port := p } := fun _ => h.of_frame
  unfold execRequestFrameComplete
  split
  · exact next_leadsSettled h
  unfold checkFrame
  dsimp only
  split
  · exact next_leadsSettled (hport _)
  split
  · exact next_leadsSettled (hport _)
  unfold checkSound
  split
  · exact next_leadsSettled (hport _)
  split
  · unfold takeSound
    split
    · exact runRequest_leadsSettled (hport _)
    · exact next_leadsSettled (conclude_settled (takeFrame_settled (hport _)))
  · exact next_leadsSettled (hport _)

/-- R154: what a frame does between the act of a link and the entry to SAFE. -/
theorem takeBetween_settled (between : Option BusFrame) (u : State) (h : u.linksSettled) :
    (takeBetween between u).linksSettled := by
  cases between with
  | none => exact h
  | some f =>
    rcases takeBetween_frame f u with hnext | hsame
    · exact requestFrame_leadsSettled h _ hnext
    · rw [hsame]
      exact h

theorem onReceiver_settled {n : Nat} {f : State → State} (h : s.linksSettled) (hf : (f s).linksSettled) :
    (onReceiver n f s).linksSettled := by
  unfold onReceiver
  split
  · exact hf
  · exact h

theorem onDriveLink_settled {l : Nat} {f : State → State} (h : s.linksSettled) (hf : (f s).linksSettled) :
    (onDriveLink l f s).linksSettled := by
  unfold onDriveLink
  split
  · exact hf
  · exact h

theorem arrive_settled {n : Nat} {bytes : List Byte} (h : s.linksSettled) : (arrive n bytes s).linksSettled := by
  unfold arrive
  split
  · dsimp only
    split
    · exact h.of_frame
    · exact h.of_frame
    · exact h.of_frame
    · exact settle_settled h.of_frame
  · exact h

theorem workNextSlope_settled {w : SegmentWork} {slope : Int} {rest : List Int} {bad : List Nat}
    (h : s.linksSettled) : (workNextSlope w slope rest bad s).linksSettled := by
  unfold workNextSlope
  dsimp only
  split
  · exact settle_settled h.of_frame
  · exact h.of_frame

theorem exec_leadsSettled {i : Instr} (h : s.linksSettled) : leadsSettled (exec i s) := by
  have hrequest : leadsSettled (runRequest i s) := runRequest_leadsSettled h
  cases i
  case lockAchieved | lossOfLock | startDelimiter | idleFillCut | excessByte =>
    exact awake_leadsSettled h (onReceiver_settled h h.of_frame)
  case silenceTimerExpiry =>
    refine awake_leadsSettled h (onReceiver_settled h ?_)
    split
    · exact h.of_frame
    · exact h
  case segmentArrival => exact awake_leadsSettled h (onReceiver_settled h (arrive_settled h))
  case slopeWork =>
    unfold exec execSlopeWork
    refine awake_leadsSettled h ?_
    split
    · split
      · exact h
      · exact workNextSlope_settled h
    · exact h
  case deadlineExpiry =>
    refine awake_leadsSettled h ?_
    split
    · exact settle_settled h.of_frame
    · exact h
  case fillInColumn =>
    unfold exec execFillInColumn
    refine awake_leadsSettled h ?_
    split
    · split
      · exact h.of_frame
      · exact h
    · exact h
  case residualsDone =>
    unfold exec execResidualsDone
    refine awake_leadsSettled h ?_
    split
    · split
      · exact h
      · exact settle_settled h.of_frame
    · exact h
  case shapeChecked =>
    unfold exec execShapeChecked
    refine awake_leadsSettled h ?_
    split
    · exact checkShape_settled h
    · exact h
  case transactionBegin =>
    unfold exec execTransactionBegin
    refine awake_leadsSettled h ?_
    split
    · exact h
    split
    · exact h
    · exact beginTransaction_settled h
  case recoveryLineIdle => exact awake_leadsSettled h (onDriveLink_settled h (recoverLink_settled h))
  case recoveryWindowExpiry =>
    exact awake_leadsSettled h (onDriveLink_settled h (stickLink_settled h (takeBetween_settled _)))
  case takenReply => exact awake_leadsSettled h (onDriveLink_settled h (takeTaken_settled h))
  case refusedReply =>
    exact awake_leadsSettled h (onDriveLink_settled h (takeRefused_settled h (takeBetween_settled _)))
  case replyTimerExpiry => exact awake_leadsSettled h (onDriveLink_settled h (expireReply_settled h))
  case returnFrameDiscard =>
    refine awake_leadsSettled h (onDriveLink_settled h ?_)
    split
    · exact modifyDriveLink_settled h (.inl rfl)
    · exact h
  case appliedReply => exact awake_leadsSettled h (onDriveLink_settled h (takeApplied_settled h))
  case applyTimerExpiry => exact awake_leadsSettled h (onDriveLink_settled h (expireApply_settled h))
  case faultReport =>
    exact awake_leadsSettled h (onDriveLink_settled h (takeFault_settled h (takeBetween_settled _)))
  case verifyColumnRead =>
    unfold exec execVerifyColumnRead
    refine awake_leadsSettled h ?_
    split
    · exact h.of_frame
    · exact h
  case busSilenceGap =>
    unfold exec execBusSilenceGap
    exact awake_leadsSettled h h.of_frame
  case overlengthHeader =>
    unfold exec execOverlengthHeader
    exact awake_leadsSettled h h.of_frame
  case requestFrameComplete => exact requestFrame_leadsSettled h
  case replySent =>
    refine awake_leadsSettled h ?_
    unfold replyDone
    split
    · split
      · exact softReset_linksSettled _
      · exact h.of_frame
    · exact h
  case replyLost => exact awake_leadsSettled h h.of_frame
  case replyWouldHaveEnded =>
    refine awake_leadsSettled h ?_
    unfold replyEnded
    split
    · exact softReset_linksSettled _
    · exact h
  case hardReset => exact next_leadsSettled fun _ _ _ => rfl
  case resetRelease =>
    refine next_leadsSettled ?_
    unfold releaseReset
    split
    · exact h.of_frame
    · exact h
  all_goals exact hrequest

/-- Settles O33: what takes a link to rest takes it to the state that the table gives, and what changes the table
settles the links. -/
theorem linksStaySettled : Obligations.LinksStaySettled := by
  intro s t h hstep
  rcases step_cases hstep with rfl | ⟨c, rest, hexec⟩
  · exact h.of_frame rfl rfl rfl
  · exact exec_leadsSettled (s := { s with pending := rest }) (h.of_frame rfl rfl rfl) t hexec

end
end Sys2Proof.Machine
